-- ==== Sys2Proof/Word.lean ====
section
/-! DEFINITION. Word.lean: the byte, the object identifier and the structured key of an attribute. -/

namespace Sys2Proof

/-- One byte of a datagram, an image, a record or the key's flash. -/
abbrev Byte := BitVec 8

/-- The key of one attribute of the object space (R10, R362): the block, the kind of instance (instance / 0x100:
0 channels, 1 groups, 2 switches or classes), the index within the kind (instance % 0x100) and the attribute number. -/
structure Attr where
  blk  : Nat
  kind : Nat
  idx  : Nat
  att  : Nat
deriving DecidableEq, Repr

/-- A table value: the table header's four fields (the *Table header* table of 02) and the elements, row-major. -/
structure Table where
  ttype : Nat
  efmt  : Nat
  rows  : Nat
  cols  : Nat
  elems : List Int
deriving DecidableEq, Repr

end Sys2Proof
end

