-- ==== Sys2Proof/Syntax.lean ====
section
/-! DEFINITION. Syntax.lean: the commands of the block, one constructor of Instr for each row of the table of
operations and events, and the plain data their operands carry (log entry 6: the table gives a row no operands). -/

namespace Sys2Proof

/-- One YHP datagram as it arrives (R346, *YHP header*), with the sender's address. The row gives its TYPE. -/
structure Dgram where
  ip      : Nat
  port    : Nat
  magic   : Nat
  ver     : Nat
  session : Nat
  node    : Nat
  seq     : Nat
  reqId   : Nat
  status  : Nat
  len     : Nat
  payload : List Byte
  tag     : List Byte
deriving DecidableEq, Repr

/-- The configuration key found in X10 (R41, R42): what its identification answers, the step of the *Key discovery
sequence* at which the first and the second attempt fail (0: neither), whether reading each slot fails after its retry,
and the flash contents, an unlisted address reading as erased. -/
structure KeyDev where
  jedec    : Nat
  sfdpSig  : Nat
  sfdpMaj  : Nat
  sfdpMin  : Nat
  dwords   : Nat
  densLog2 : Nat
  fast144  : Bool
  erase4k  : Bool
  erase64k : Bool
  page256  : Bool
  quadEn   : Bool
  fail1    : Nat
  fail2    : Nat
  readBadA : Bool
  readBadB : Bool
  flash    : List (Nat × Byte)
deriving DecidableEq, Repr

/-- What X10 holds when a boot looks at it. -/
inductive KeyIn where
  | same
  | absent
  | dev (k : KeyDev)
deriving DecidableEq, Repr

/-- What a boot finds at the terminals and in its self-tests (R64, R65, R297): the key, the levels of VREF_AO, WAKE and
REFIN, the TCXO, the functions whose bring-up fails (by their status objects), whether CORE and BOARD are below their boot
limit, whether Firn mounts after a clean stop, the supply readings (by their
attributes) with the banks without VBb and the axes whose bridge is not ready (by their status objects, not 0), and the
checkpoint areas whose CRC fails. -/
structure BootIn where
  key      : KeyIn
  vrefOk   : Bool
  wake     : Bool
  refin    : Bool
  tcxoOk   : Bool
  failed   : List Attr
  sdCool   : Bool
  firnOk   : Bool
  readings : List (Attr × Nat)
  ckptBad  : List Nat
deriving DecidableEq, Repr

/-- A TIME frame of the ring (R314): its source, claim, ORIGIN and CORR as received, its HOPS, and the cycle
it belongs to. -/
structure TimeFrame where
  src    : Nat
  claim  : Nat
  origin : Nat
  corr   : Nat
  hops   : Nat
  cycle  : Nat
deriving DecidableEq, Repr

/-- What a class A sample takes from one axis's bridge and kernel (R208 to R210): how many bits of the control window are
ones on the streams U, V, W and L; the observer's speed (0.1 rpm), torque current and magnetising current (mA peak);
whether the voltage vector or the speed controller stands at its limit; whether the observer of a coasting rotor holds a
speed; and the shaft angle moved since the sample before (65 536 per revolution). -/
structure AxisIn where
  onesU : Nat
  onesV : Nat
  onesW : Nat
  onesL : Nat
  est   : Int
  iq    : Int
  imd   : Int
  vsat  : Bool
  lim   : Bool
  seen  : Bool
  turn  : Int
deriving DecidableEq, Repr

namespace Machine

/-- One event record (R91). -/
structure EvRec where
  ts     : Nat
  node   : Nat
  src    : Nat
  sev    : Nat
  unsync : Bool
  code   : Nat
  obj    : Nat
  data   : Nat
deriving DecidableEq, Repr

/-- An entry of a SNAPSHOT (R307): whether it is an echo entry, the object it gives (log entry 41), QUAL, FLAGS, the value
or the applied value as a word, and AGE in µs. -/
structure SnapEnt where
  echo  : Bool
  oid   : Nat
  qual  : Nat
  flags : Nat
  val   : Nat
  age   : Nat
deriving DecidableEq, Repr

/-- An item a class has shed (R170). -/
inductive ShedItem where
  | ring (r : Nat)
  | loop (n : Nat)
deriving DecidableEq, Repr

/-- The state of one loop that its registers do not show (R151 to R162). Signals are Q8.24, section states Q12.36. -/
structure LoopCh where
  run    : Bool            -- it runs: enabled, with a valid bank
  eff    : Nat             -- effective mode
  ent    : Bool            -- a sample has been computed in it
  wsp    : Int
  y      : Int             -- last published output
  st     : List (Int × Int)
  ramp   : Bool            -- a hand-over ramp is active
  inBad  : Bool            -- an input fault is present
  forced : Bool            -- forced in the last sample
  handOv : Bool            -- a hand-over waits for the next sample
  man    : Nat             -- MAN_OUT as last taken
  trkBad : Bool
  msBad  : Bool
  swapAt : Option Nat      -- raw time a pending SWAP was accepted
  plSt   : List (Int × Int)
  plOff  : Int
  plCnt  : Nat
  armed  : Bool
  modeBy : Nat             -- cause of the next change of effective mode (1 write, 2 input fault, 3 plausibility)
deriving DecidableEq, Repr

/-- A ring plan as a module acquires it (R144, R317): the Rime slot of the reconstructing module (15: this module), the
ring's number there, the channel of each electrode, BAND, PHASE_SET, PHASES and FE_RATE. -/
structure TomoPlan where
  owner  : Nat
  ring   : Nat
  elec   : List Nat
  band   : Nat
  pset   : Bool
  phases : Nat
  rate   : Nat
deriving DecidableEq, Repr

/-- One parcel (R178, the *Parcel record* table): its fields, and the mean of its last observation (R200). A VOID position
has only the VOID bit. -/
structure Parcel where
  tsEntry : Nat
  serial  : Nat
  m       : Int            -- 0.01 % × 2^−16, as M_IN and CORR
  mIn     : Int
  corr    : Int
  theta   : Int
  crop    : Nat
  flags   : Nat
  zt      : List Nat       -- ZONE_T in ms
  dm      : Nat
  meas    : Option Int
deriving DecidableEq, Repr

/-- A happening that must last before it acts (R197, R198): since when, in ns. -/
abbrev Since := Option Nat

/-- The state of one line beside its registers (R180 to R200). -/
structure LineCh where
  pos     : List Parcel          -- N positions
  exitB   : List Parcel          -- newest first
  retB    : List Parcel          -- newest first
  ofs     : Int                  -- µL
  ofs2    : Nat                  -- unload counter, µL
  cnt     : Option Int           -- counts at the last committed step
  cnt2    : Option Int
  lastTs  : Nat                  -- boundary of the last committed step, 0 for none
  serial  : Nat                  -- of the next parcel
  inflow  : List (Nat × Nat)     -- crop set and volume entered since the last formation, oldest first
  inVals  : List (Nat × Int)     -- inlet values since the last formation: time of delivery, moisture
  gtVals  : List (Nat × Int)
  obsVals : List (Nat × Nat × Int) -- probe values: TS, time of delivery, moisture
  occFrom : Nat                  -- boundary at which the parcel at OBS.POS arrived
  lastExT : Int                  -- THETA of the last exit
  lastOut : Option Int           -- last observed outlet value
  lastObs : Nat                  -- boundary of the last motion or observation (R189)
  staticD : Bool                 -- a static observation is due
  asked   : List (Nat × Int × Option Nat)  -- observations asked for: position, m̄, the ring of a frame
  rejRun  : Nat
  capPrev : Bool
  ambT    : Option Int           -- last valid ambient values
  ambRh   : Option Int
  step    : Nat                  -- code of the *Program steps* table
  pend    : Option (Nat × Nat)   -- step to enter at the next boundary, and its cause
  stepT   : Nat                  -- time in the step in RUN, ns
  emptyT  : Nat
  airT    : Nat                  -- time with air on in COOL_RUN
  holdT   : List Nat             -- timers of conditions 1, 2, 3 and of AIR_LOST in zones 0 to 3
  holdNow : List Nat             -- conditions whose cause is present
  latch   : List Nat             -- latched program HOLD conditions
  winC    : Since
  winD    : Since
  revRun  : Nat                  -- reverse shifts of the run in progress
  lastCrp : Option Nat           -- crop set of the last parcel formed
  cropSer : Option Nat           -- first parcel of a new crop set, until it reaches OBS.POS
  cropFe  : Option Nat           -- crop sets in force for FE channels (R188): inflow, OBS.POS, N − 1
  cropObs : Option Nat
  cropEnd : Option Nat
  hist    : List (Nat × List (Nat × Int))  -- per STORE_SRC entry: hour and value, newest first
  hotSrc  : List Nat             -- sources whose hot spot condition held at their last value
  hotNew  : List (Nat × Nat × Nat × Nat)  -- declared since the last step: when, layer, kind, channel or ring
  sig     : Nat                  -- line signature the state belongs to
  sigRun  : Nat                  -- the same with CROP left out (R183)
  own     : List Nat             -- loops whose SP the running program has written (R194)
  limPrev : Nat                  -- DISCH_LIM side: 0, 1 low, 2 high
deriving DecidableEq, Repr

/-- A value of an attribute, number or table (an overlay entry, a record's value). -/
inductive AVal where
  | num (n : Nat)
  | tab (t : Table)
deriving DecidableEq, Repr

/-- The PERSIST overlay (R79): the build hash it was made under and its entries. -/
structure Overlay where
  hash    : Nat
  entries : List (Attr × AVal)
deriving DecidableEq, Repr

/-- A UNIT of the state copy (R330): class, sample boundary, loops, shed set and, of class D, lines. -/
structure PairUnit where
  k     : Nat
  bnd   : Nat
  loops : List (Nat × LoopCh × Nat × Nat × Nat)   -- number, state, STAT, MODE, MAN_OUT
  shed  : List ShedItem
  lines : List (Nat × LineCh × Nat)
deriving DecidableEq, Repr

/-- The header of a Floe frame (R303), its class first. -/
structure FloeHdr where
  cls   : Nat
  dir   : Nat              -- 0 launched east, 1 launched west
  src   : Nat
  dst   : Nat
  hops  : Nat
  inst  : Nat
  cycle : Nat
  seq   : Nat
deriving DecidableEq, Repr

/-- A COMMAND section (R307): destination node, sender, cycle, claim, MODE and its entries. -/
structure Sect where
  dst   : Nat
  src   : Nat
  cycle : Nat
  claim : Nat
  mode  : Nat
  ents  : List (Nat × Nat)
deriving DecidableEq, Repr

end Machine

/-- What the diagnostics observe of a valve channel (R246): LSn, in the off phase where the channel chops, and COMb in mV, I_U and the
channel current in mA, and whether it has run at full duty. -/
structure ValveLook where
  vLs  : Nat
  vCom : Nat
  iU   : Int
  iCh  : Nat
  full : Bool
deriving DecidableEq, Repr

/-- The commands of the block: one constructor for each row of the table, in the table's order, with its rule. -/
inductive Instr where
  /-- POR (R64): `bpos` and `mv`: the BPOS bits and the V_BUS reading that supervision gives. -/
  | por (bpos mv : Nat)
  /-- BOOT_SEQUENCE (R64): `b` what the boot finds. -/
  | bootSequence (b : BootIn)
  /-- BACKGROUND_SLOT_CHECK (R56). -/
  | backgroundSlotCheck
  /-- FIRN_READY (R67). -/
  | firnReady
  /-- POWER_FAIL_DETECT (R29): `mv` the US reading in mV. -/
  | powerFailDetect (mv : Nat)
  /-- POWER_FAIL_CLEAR (R29): `mv` the US reading in mV. -/
  | powerFailClear (mv : Nat)
  /-- US_RETURN (R380): `mv` the US reading in mV. -/
  | usReturn (mv : Nat)
  /-- BOR (R29). -/
  | bor
  /-- CONVERTER_FLOOR (R90). -/
  | converterFloor
  /-- EXT_RESET (R33): `low` the level of the terminal. -/
  | extReset (low : Bool)
  /-- WDR (R77): `fwCheck` the last firmware checkpoint. -/
  | wdr (fwCheck : Nat)
  /-- WAKE (R32): `level` the level of the terminal. -/
  | wake (level : Bool)
  /-- KEYSW_CHANGE (R34): `on` asserted. -/
  | keyswChange (on : Bool)
  /-- VBOOST_READY (R26): `mv` the reading in mV. -/
  | vboostReady (mv : Nat)
  /-- VBOOST_FAULT (R40): `mv` the reading in mV. -/
  | vboostFault (mv : Nat)
  /-- VBOOST_RESTART (R40). -/
  | vboostRestart
  /-- ESUP_OVERCURRENT (R28): `e` the encoder supply. -/
  | esupOvercurrent (e : Nat)
  /-- VREF_AO_FAULT (R40): `mv` the reading in mV. -/
  | vrefAoFault (mv : Nat)
  /-- STAGE_OPEN (R58): `i` the session entry; `slot` and `len` SLOT and IMG_LEN. -/
  | stageOpen (i slot len : Nat)
  /-- STAGE_MARK_ERASED (R61). -/
  | stageMarkErased
  /-- STAGE_ERASE_DONE (R61). -/
  | stageEraseDone
  /-- STAGE_DATA (R59): `i` the session entry; `off` the offset, `d` the data. -/
  | stageData (i off : Nat) (d : List Byte)
  /-- STAGE_CLOSE (R60): `i` the session entry. -/
  | stageClose (i : Nat)
  /-- STAGE_VERIFY_DONE (R60). -/
  | stageVerifyDone
  /-- STAGE_COMMIT (R58). -/
  | stageCommit
  /-- STAGE_ABORT (R61): `i` the session entry. -/
  | stageAbort (i : Nat)
  /-- STAGE_LAPSE (R61). -/
  | stageLapse
  /-- STAGE_KEY_FAIL (R61): `removed` the key is gone, else a program or erase failed. -/
  | stageKeyFail (removed : Bool)
  /-- KEY_INSTALL (R62): `i` the session entry; `k` the key slot, `key` the public key. -/
  | keyInstall (i k key : Nat)
  /-- KEY_REVOKE (R62): `i` the session entry; `k` the key slot. -/
  | keyRevoke (i k : Nat)
  /-- SVN_RAISE (R62): `i` the session entry. -/
  | svnRaise (i : Nat)
  /-- MODE_CMD_SAFE (R69): `i` the session entry. -/
  | modeCmdSafe (i : Nat)
  /-- MODE_CMD_RUN (R69): `i` the session entry. -/
  | modeCmdRun (i : Nat)
  /-- MODE_CMD_HOLD (R69): `i` the session entry. -/
  | modeCmdHold (i : Nat)
  /-- MODE_CMD_FALLBACK (R73): `i` the session entry. -/
  | modeCmdFallback (i : Nat)
  /-- MODE_CMD_SERVICE (R69): `i` the session entry. -/
  | modeCmdService (i : Nat)
  /-- MODE_CMD_PARK (R74): `i` the session entry. -/
  | modeCmdPark (i : Nat)
  /-- MODE_CMD_DEEP_PARK (R74): `i` the session entry. -/
  | modeCmdDeepPark (i : Nat)
  /-- MODE_CMD_UNPARK (R75): `i` the session entry. -/
  | modeCmdUnpark (i : Nat)
  /-- RTC_WAKE (R75). -/
  | rtcWake
  /-- MODE_CMD_WARM (R77): `i` the session entry. -/
  | modeCmdWarm (i : Nat)
  /-- MODE_CMD_RELOAD (R77): `i` the session entry. -/
  | modeCmdReload (i : Nat)
  /-- MODE_CMD_ACK_SHUTDOWN (R72): `i` the session entry. -/
  | modeCmdAckShutdown (i : Nat)
  /-- PERSIST_COMMIT (R79): `i` the session entry. -/
  | persistCommit (i : Nat)
  /-- PERSIST_CLEAR (R79): `i` the session entry. -/
  | persistClear (i : Nat)
  /-- PERSIST_DROP (R79): `i` the session entry; `oid` OBJ_ID. -/
  | persistDrop (i oid : Nat)
  /-- REFIN_LOST (R85). -/
  | refinLost
  /-- REF_SWITCH_DONE (R85). -/
  | refSwitchDone
  /-- REFIN_VALID (R85): `held`: it has been valid for 100 ms. -/
  | refinValid (held : Bool)
  /-- REFIN_INVALID (R86). -/
  | refinInvalid
  /-- TCXO_FAULT (R86). -/
  | tcxoFault
  /-- PLL_FAULT (R86). -/
  | pllFault
  /-- TIME_SET (R88): `i` the session entry; `v` the time. -/
  | timeSet (i v : Nat)
  /-- REF_SEL_WRITE (R97): `i` the session entry; `v` the value. -/
  | refSelWrite (i v : Nat)
  /-- TIME_FRAME (R314): `f` the frame, `port` the ring port. -/
  | timeFrame (f : TimeFrame) (port : Nat)
  /-- TIME_HOLDOVER (R88). -/
  | timeHoldover
  /-- HOLD_LIMIT_EXPIRY (R89). -/
  | holdLimitExpiry
  /-- RTC_UPDATE (R90). -/
  | rtcUpdate
  /-- EVT_LOST (R94). -/
  | evtLost
  /-- EVENT_FIRN_COMMIT (R93). -/
  | eventFirnCommit
    /-- FE_VALUE (R104): `n` the channel, `iq` the demodulated signal of each tone, `d` and `i` the drive voltage and
  current of the monitor, `ovl` overload. -/
  | feValue (n : Nat) (iq : List (Int × Int)) (d i : Int × Int) (ovl : Bool)
  /-- FE_VALUE_RELEASE (R106): `n` the channel. -/
  | feValueRelease (n : Nat)
  /-- AO_INVALID_TIMEOUT (R118): `n` the output. -/
  | aoInvalidTimeout (n : Nat)
  /-- FE_TONES_WRITE (R107): `i` the session entry; `n` the channel, `v` TONES. -/
  | feTonesWrite (i n v : Nat)
  /-- FE_RATE_WRITE (R107): `i` the session entry; `n` the channel, `v` RATE. -/
  | feRateWrite (i n v : Nat)
  /-- FE_EXCITATION_APPLY (R107): `n` the channel. -/
  | feExcitationApply (n : Nat)
  /-- FE_GROUP_RESTART (R105): `i` the session entry; `g` the group. -/
  | feGroupRestart (i g : Nat)
  /-- EXCITATION_FAULT (R109, R110): `n` the channel, `qty` the monitored quantity (0 drive voltage, 1 drive current, 2 sensed
  quantity), `win` its samples in the trailing T_D with their expected values, latest first; `resp`, `volt` and `curr` the
  amplitudes of the response, the drive voltage and the drive current, each with the one expected or commanded. -/
  | excitationFault (n qty : Nat) (win : List (Int × Int)) (resp volt curr : Nat × Nat)
  /-- EXCITATION_FAULT_CLEAR (R111): `n` the channel. -/
  | excitationFaultClear (n : Nat)
  /-- SHORT_TEST (R110): `n` the channel. -/
  | shortTest (n : Nat)
  /-- FE_GROUP_LINK_FAULT (R120): `g` the group, `pass` the retest passes. -/
  | feGroupLinkFault (g : Nat) (pass : Bool)
  /-- TOMO_FRAME (R130): `r` the ring, `slot` 15 for this module's own or the Rime slot it is acquired for, `period`
  that plan's frame period in ns, `thr` whether the zone of a remote ring's acquiring module throttles. -/
  | tomoFrame (r slot period : Nat) (thr : Bool)
  /-- TOMO_KERNEL_DONE (R142): `r` the ring. -/
  | tomoKernelDone (r : Nat)
  /-- CAL_EMPTY (R133): `i` the session entry; `r` the ring, `n` the frames. -/
  | calEmpty (i r n : Nat)
  /-- CAL_FULL (R133): `i` the session entry; `r` the ring, `n` the frames. -/
  | calFull (i r n : Nat)
  /-- TOMO_CAL_DONE (R133): `r` the ring. -/
  | tomoCalDone (r : Nat)
  /-- TOMO_RESTART (R129): `i` the session entry; `r` the ring. -/
  | tomoRestart (i r : Nat)
  /-- TOMO_SENS_WRITE (R135): `i` the session entry; `r` the ring, `t` the table. -/
  | tomoSensWrite (i r : Nat) (t : Table)
  /-- TOMO_MAP_RECORD (R145): `r` the ring. -/
  | tomoMapRecord (r : Nat)
  /-- TOMO_RIME_SETUP (R144): `r` the ring. -/
  | tomoRimeSetup (r : Nat)
  /-- RIME_SETUP (R144): `p` the plan. -/
  | rimeSetup (p : Machine.TomoPlan)
  /-- RIME_SETUP_ACK (R317): `r` the ring, `result` and `elec` as the ACK carries them. -/
  | rimeSetupAck (r result elec : Nat)
  /-- RIME_ADMIT (R317): `slot` the sender, `r` the ring, `ts` the boundary, `payload` as received. -/
  | rimeAdmit (slot r ts : Nat) (payload : List Byte)
  /-- RIME_SYNC (R318): `f` the SYNC. -/
  | rimeSync (f : TimeFrame)
  /-- RIME_LINK_DOWN (R319): `p` the port. -/
  | rimeLinkDown (p : Nat)
  /-- RIME_LINK_UP (R319): `p` the port, `anew` whether the module in its slot has been reset (R144). -/
  | rimeLinkUp (p : Nat) (anew : Bool)
  /-- RIME_RETRAIN (R315): `p` the port. -/
  | rimeRetrain (p : Nat)
  /-- CLASS_SAMPLE (R166): `k` the class, `ax` the readings latched for the axes (class A). -/
  | classSample (k : Nat) (ax : List AxisIn)
  /-- CLASS_PUBLISH (R169): `k` the class, `ns` after the boundary. -/
  | classPublish (k ns : Nat)
  /-- CLASS_OVERRUN (R169): `k` the class, `c` the core. -/
  | classOverrun (k c : Nat)
  /-- SWAP (R157): `i` the session entry; `n` the loop. -/
  | swap (i n : Nat)
  /-- BANK_WRITE (R156): `i` the session entry; `n` the loop, `b` BANK1, `t` the table. -/
  | bankWrite (i n : Nat) (b : Bool) (t : Table)
  /-- CLEAR_PLAUS (R162): `i` the session entry; `n` the loop. -/
  | clearPlaus (i n : Nat)
  /-- RESTORE (R171): `i` the session entry; `k` the class. -/
  | restore (i k : Nat)
  /-- CORE_SELF_TEST (R172): `c` the core, `pass` its verdict. -/
  | coreSelfTest (c : Nat) (pass : Bool)
  /-- CORE_MEMORY_ERROR (R172): `c` the core. -/
  | coreMemoryError (c : Nat)
  /-- STATIC_OBSERVATION (R189): `l` the line. -/
  | staticObservation (l : Nat)
  /-- PROGRAM_TIMER_EXPIRY (R196): `l` the line. -/
  | programTimerExpiry (l : Nat)
  /-- AERATION_WINDOW (R198): `l` the line, `w` 0 COOLING, 1 DRYING. -/
  | aerationWindow (l w : Nat)
  /-- CHECKPOINT (R201). -/
  | checkpoint
  /-- CHECKPOINT_COMMIT (R201). -/
  | checkpointCommit
  /-- LINE_START (R195): `i` the session entry; `l` the line. -/
  | lineStart (i l : Nat)
  /-- LINE_STOP (R196): `i` the session entry; `l` the line. -/
  | lineStop (i l : Nat)
  /-- NEXT_STEP (R196): `i` the session entry; `l` the line. -/
  | nextStep (i l : Nat)
  /-- OBSERVE (R191): `i` the session entry; `l` the line, `pos` and `m` POS and M. -/
  | observe (i l pos m : Nat)
  /-- CLEAR_CORR (R191): `i` the session entry; `l` the line. -/
  | clearCorr (i l : Nat)
  /-- CLEAR_HOLD (R197): `i` the session entry; `l` the line. -/
  | clearHold (i l : Nat)
  /-- COOL_RUN (R199): `i` the session entry; `l` the line. -/
  | coolRun (i l : Nat)
  /-- AXIS_START (R213): `a` the axis. -/
  | axisStart (a : Nat)
  /-- AXIS_CATCH_DONE (R216): `a` the axis, `found` the rotor turns, at `speed` in 0.1 rpm. -/
  | axisCatchDone (a : Nat) (found : Bool) (speed : Int)
  /-- AXIS_ALIGN_DONE (R213): `a` the axis, `flux` the estimated rotor flux in %. -/
  | axisAlignDone (a flux : Nat)
  /-- AXIS_START_CHECK (R214): `a` the axis, `bemf` the observed back-EMF in %, `reached` SL_MIN is reached. -/
  | axisStartCheck (a bemf : Nat) (reached : Bool)
  /-- AXIS_RETRY_WAIT_END (R215): `a` the axis. -/
  | axisRetryWaitEnd (a : Nat)
  /-- AXIS_ATTEMPTS_RESET (R215): `a` the axis. -/
  | axisAttemptsReset (a : Nat)
  /-- AXIS_STOP (R217): `a` the axis. -/
  | axisStop (a : Nat)
  /-- AXIS_RAMP_STOP_DONE (R217): `a` the axis. -/
  | axisRampStopDone (a : Nat)
  /-- AXIS_TRIP (R223): `a` the axis, `stream` 0 to 2 the phases, 3 the DC link, `v` its protection filter value in mA or 0.1 V, `stuck`
  the run of equal bits in it. -/
  | axisTrip (a stream : Nat) (v : Int) (stuck : Nat)
  /-- BFLT_FAULT (R224): `a` the axis. -/
  | bfltFault (a : Nat)
  /-- AXIS_DC_UNDERVOLTAGE (R224): `a` the axis, `v` the DC link voltage of the last 1 ms in 0.1 V. -/
  | axisDcUndervoltage (a : Nat) (v : Int)
  /-- AXIS_UV_RECOVERY (R225): `a` the axis, `v` the DC link voltage of the last 100 ms in 0.1 V. -/
  | axisUvRecovery (a : Nat) (v : Int)
  /-- AXIS_OPEN_PHASE (R224): `a` the axis, `iu`, `iv` and `iw` the rms phase currents of the last 50 ms in mA. -/
  | axisOpenPhase (a iu iv iw : Nat)
  /-- AXIS_TRIP_AUTO_CLEAR (R225): `a` the axis. -/
  | axisTripAutoClear (a : Nat)
    /-- AXIS_CLEAR (R225): `i` the session entry; `a` the axis; `present` the condition that the clear needs gone
  persists. -/
  | axisClear (i a : Nat) (present : Bool)
  /-- TACH_LOSS (R218): `a` the axis, `cond` 1 missing edges, 2 mismatch for 100 ms, 3 encoder fault, `since` the ns since the last
  feedback edge. -/
  | tachLoss (a cond since : Nat)
  /-- AXIS_CUR_LIM (R211): `a` the axis. -/
  | axisCurLim (a : Nat)
  /-- BARO_SAMPLE (R221): `p` the pressure in Pa, `ok` the sensor answers. -/
  | baroSample (p : Nat) (ok : Bool)
  /-- PULLIN_START (R239). -/
  | pullinStart
  /-- PULLIN_END (R234): `n` the channel. -/
  | pullinEnd (n : Nat)
  /-- PULLIN_DEADLINE (R240): `n` the channel. -/
  | pullinDeadline (n : Nat)
  /-- VALVE_CHANNEL_FAULT (R246): `n` the channel, `m` what has stood at it for the detection time of a signature. -/
  | valveChannelFault (n : Nat) (m : ValveLook)
  /-- VALVE_BANK_FAULT (R249): `b` the bank, `iHs` the high-side current in mA, `vCom` and `vSrc` COMb and the selected source in mV,
  `rev` the current reversed during a move to VBOOST. -/
  | valveBankFault (b iHs vCom vSrc : Nat) (rev : Bool)
  /-- VB_LOW (R250): `b` the bank, `mv` its supply. -/
  | vbLow (b mv : Nat)
  /-- VB_ABSENT (R250): `b` the bank, `mv` its supply. -/
  | vbAbsent (b mv : Nat)
  /-- VB_RETURN (R250): `b` the bank, `mv` its supply. -/
  | vbReturn (b mv : Nat)
    /-- VALVE_CLEAR (R248): `i` the session entry; `n` the channel; `present` the condition that the clear needs gone
  persists. -/
  | valveClear (i n : Nat) (present : Bool)
  /-- VALVE_RETRY (R240): `i` the session entry; `n` the channel, `nodl` NODL. -/
  | valveRetry (i n : Nat) (nodl : Bool)
    /-- BANK_CLEAR (R249): `i` the session entry; `b` the bank; `present` the condition that the clear needs gone
  persists. -/
  | bankClear (i b : Nat) (present : Bool)
  /-- BARRIER_FRAME (R258): `g` the group, `frameOk` the field side accepts the frame, `ansOk` the answer is valid. -/
  | barrierFrame (g : Nat) (frameOk ansOk : Bool)
  /-- DIO_INPUT_TRANSITION (R256): `n` the channel, `on` its new pin state. -/
  | dioInputTransition (n : Nat) (on : Bool)
  /-- WIRE_BREAK (R257): `n` the channel. -/
  | wireBreak (n : Nat)
  /-- WIRE_BREAK_CLEAR (R257): `n` the channel. -/
  | wireBreakClear (n : Nat)
  /-- DIO_OVERLOAD (R261): `n` the channel. -/
  | dioOverload (n : Nat)
  /-- DIO_OVERLOAD_RETRY (R261): `n` the channel. -/
  | dioOverloadRetry (n : Nat)
  /-- READBACK_MISMATCH (R262): `n` the channel, `on` the read-back. -/
  | readbackMismatch (n : Nat) (on : Bool)
  /-- PARALLEL_MISMATCH (R262): `n` the channel, `on` the state read back. -/
  | parallelMismatch (n : Nat) (on : Bool)
  /-- LINK_TIMEOUT_PATTERN (R263): `g` the group. -/
  | linkTimeoutPattern (g : Nat)
  /-- DIO_LINK_LOST (R264): `g` the group. -/
  | dioLinkLost (g : Nat)
  /-- DIO_LINK_RETRAIN (R264): `g` the group, `ok` a valid answer came. -/
  | dioLinkRetrain (g : Nat) (ok : Bool)
  /-- L_PLUS_UNDERVOLTAGE (R265): `g` the group. -/
  | lPlusUndervoltage (g : Nat)
  /-- L_PLUS_LOW (R265): `g` the group. -/
  | lPlusLow (g : Nat)
  /-- L_PLUS_RECOVERY (R265): `g` the group. -/
  | lPlusRecovery (g : Nat)
  /-- FIELD_OVERTEMPERATURE (R266): `g` the group. -/
  | fieldOvertemperature (g : Nat)
  /-- FIELD_OVERTEMPERATURE_CLEAR (R266): `g` the group. -/
  | fieldOvertemperatureClear (g : Nat)
  /-- DIO_CLEAR (R261): `i` the session entry; `g` the group. -/
  | dioClear (i g : Nat)
  /-- PROBE_WRITE (R270): `i` the session entry; `g` the group, `v` PROBE. -/
  | probeWrite (i g v : Nat)
  /-- ENCODER_EDGE (R277): `e` the input, `line` 0 A, 1 B, 2 Z, `lvl` its new level. -/
  | encoderEdge (e line : Nat) (lvl : Bool)
  /-- STANDSTILL (R278): `e` the input. -/
  | standstill (e : Nat)
  /-- INDEX (R283): `e` the input. -/
  | encIndex (e : Nat)
  /-- ENCODER_LINE_FAULT (R284): `e` the input, `pair` 0 A, 1 B, 2 Z. -/
  | encoderLineFault (e pair : Nat)
  /-- ENC_PRESET (R289): `i` the session entry; `e` the input, `v` the position. -/
  | encPreset (i e v : Nat)
    /-- ENC_CLEAR (R284): `i` the session entry; `e` the input; `present` the condition that the clear needs gone
  persists. -/
  | encClear (i e : Nat) (present : Bool)
  /-- REBASE (R287): `i` the session entry; `o` the output. -/
  | rebase (i o : Nat)
  /-- RATIO_WRITE (R287): `i` the session entry; `o` the output, `v` RATIO. -/
  | ratioWrite (i o v : Nat)
  /-- EMULATION_EDGE (R288): `o` the output. -/
  | emulationEdge (o : Nat)
  /-- THERM_SAMPLE (R294): `k` the sensor, `x` the temperature in 0.01 °C. -/
  | thermSample (k : Nat) (x : Int)
  /-- THERM_STEP_DOWN (R294): `z` the zone. -/
  | thermStepDown (z : Nat)
  /-- THERM_STEP_RELEASE (R294): `z` the zone. -/
  | thermStepRelease (z : Nat)
  /-- ZONE_SHUTDOWN_CLEAR (R296): `z` the zone. -/
  | zoneShutdownClear (z : Nat)
  /-- SENSOR_BROKEN (R291): `k` the sensor, `cause` of the *Sensor* rules. -/
  | sensorBroken (k cause : Nat)
  /-- SENSOR_RESTORED (R291): `k` the sensor, `x` its reading in 0.01 °C. -/
  | sensorRestored (k : Nat) (x : Int)
  /-- THERM_CLEAR (R296): `i` the session entry; `z` the zone. -/
  | thermClear (i z : Nat)
  /-- SHUTDOWN_BOOT_RETRY (R297): `cool` CORE and BOARD are below their boot limit. -/
  | shutdownBootRetry (cool : Bool)
  /-- FLOE_LINK_DOWN (R301): `p` the port. -/
  | floeLinkDown (p : Nat)
  /-- FLOE_LINK_UP (R301): `p` the port, `ns` its measured delay. -/
  | floeLinkUp (p ns : Nat)
  /-- RING_CYCLE_START (R307). -/
  | ringCycleStart
  /-- SNAPSHOT_LAUNCH (R307). -/
  | snapshotLaunch
  /-- GATHER_INSTANT (R307): `df` the D_f of R310 in ns. -/
  | gatherInstant (df : Nat)
  /-- COMMAND_INSTANT (R307). -/
  | commandInstant
  /-- SNAPSHOT_RECEIVE (R308): `h` the header, `port`, `bytes` on the wire, `ents` the entries. -/
  | snapshotReceive (h : Machine.FloeHdr) (port bytes : Nat) (ents : List Machine.SnapEnt)
  /-- COMMAND_SECTION_RECEIVE (R327): `c` the section, `crcOk` its CRC passes. -/
  | commandSectionReceive (c : Machine.Sect) (crcOk : Bool)
    /-- FLOE_FRAME_FORWARD (R305): `port` of entry, `h` the header, whether HCRC and FCS pass, `residence` in the
  switch in ns, `full` no egress room, `acks` a BULK SEQ it acknowledges. -/
  | floeFrameForward (port : Nat) (h : Machine.FloeHdr) (hcrcOk fcsOk : Bool) (residence : Nat) (full : Bool) (acks : Option Nat)
  /-- EVENT_FRAME_RECEIVE (R356): `h` the header, `recs` the records. -/
  | eventFrameReceive (h : Machine.FloeHdr) (recs : List Machine.EvRec)
  /-- FLOE_BULK_RESEND (R304): `dst` and `seq` name the frame. -/
  | floeBulkResend (dst seq : Nat)
  /-- LINK_DELAY_PROBE (R313): `p` the port, `ns` the delay measured. -/
  | linkDelayProbe (p ns : Nat)
  /-- PAIR_ANNOUNCE (R324): `st` and `claim` announced, `same` the build hashes agree. -/
  | pairAnnounce (st claim : Nat) (same : Bool)
  /-- PAIR_LISTEN_TIMEOUT (R324). -/
  | pairListenTimeout
  /-- PAIR_PROMOTE (R336). -/
  | pairPromote
  /-- STATE_UNIT (R331): `c` the cycle of the delta, `u` the unit. -/
  | stateUnit (c : Nat) (u : Machine.PairUnit)
  /-- STATE_WRITE (R334): `c` the cycle, `e` E, `items`, session and request ID. -/
  | stateWrite (c e : Nat) (items : List (Attr × Machine.AVal)) (session reqId : Nat)
  /-- STATE_MODE (R334): `c` the cycle, `e` E, the mode and its cause. -/
  | stateMode (c e mode cause : Nat)
  /-- STATE_VALUES (R332): `c` the cycle, `e` E, the attributes, the mode, the overlay. -/
  | stateValues (c e : Nat) (vals : List (Attr × Machine.AVal)) (mode : Nat) (o : Machine.Overlay)
  /-- STATE_COMMIT (R330): `c` the cycle, `records` in the delta, `crcOk` its CRC passes. -/
  | stateCommit (c records : Nat) (crcOk : Bool)
  /-- STATE_ACK (R334): `d` the delta. -/
  | stateAck (d : Nat)
  /-- STATE_HANDOVER (R340): `c` the cycle, `hs` S, `dur` the duration in min. -/
  | stateHandover (c hs dur : Nat)
  /-- WRITE_UNCONFIRMED (R335). -/
  | writeUnconfirmed
  /-- DRILL (R340): `i` the session entry; `dur` DUR in min. -/
  | drill (i dur : Nat)
  /-- DRILL_END (R340): `i` the session entry. -/
  | drillEnd (i : Nat)
  /-- DRILL_DURATION_END (R340). -/
  | drillDurationEnd
  /-- EPOCH_RESET (R323): `i` the session entry. -/
  | epochReset (i : Nat)
  /-- HOST_LINK (R344): `up` the link state. -/
  | hostLink (up : Bool)
  /-- OPEN (R347): `d` the datagram. -/
  | hostOpen (d : Dgram)
  /-- PROVISIONING_OPEN (R348): `d` the datagram. -/
  | provisioningOpen (d : Dgram)
  /-- CONFIRM (R347): `d` the datagram. -/
  | hostConfirm (d : Dgram)
  /-- CONFIRM_TIMEOUT (R347): `i` the session entry. -/
  | confirmTimeout (i : Nat)
  /-- CLOSE (R349): `d` the datagram. -/
  | hostClose (d : Dgram)
  /-- SESSION_IDLE_TIMEOUT (R349): `i` the session entry. -/
  | sessionIdleTimeout (i : Nat)
  /-- KEEPALIVE (R359): `d` the datagram. -/
  | keepalive (d : Dgram)
  /-- READ (R351): `d` the datagram. -/
  | hostRead (d : Dgram)
  /-- WRITE (R352): `d` the datagram, `present` whether the condition a CLEAR among the items would clear persists. -/
  | hostWrite (d : Dgram) (present : Bool)
  /-- SEGMENT_BUFFER_TIMEOUT (R353): `i` the session entry, 4 the buffer of relayed writes. -/
  | segmentBufferTimeout (i : Nat)
    /-- RELAY_REQUEST (R355): `resp` a target's response rather than a request; `node` the other module, `x` the level
  or the STATUS, `typ` the YHP type, `reqId` REQ_ID, `p` the payload, `present` as for WRITE. -/
  | relayRequest (resp : Bool) (node x typ reqId : Nat) (p : List Byte) (present : Bool)
  /-- RELAY_TIMEOUT (R355). -/
  | relayTimeout
  /-- BULK_QUERY (R357): `d` the datagram. -/
  | bulkQuery (d : Dgram)
  /-- BULK_ACK (R357): `d` the datagram. -/
  | bulkAck (d : Dgram)
  /-- BULK_RESEND (R357): `i` the session entry. -/
  | bulkResend (i : Nat)
  /-- BULK_QUERY_TIMEOUT (R357): `i` the session entry. -/
  | bulkQueryTimeout (i : Nat)
  /-- EVT_SUB (R356): `d` the datagram. -/
  | evtSub (d : Dgram)
  /-- EVT_ACK (R356): `d` the datagram. -/
  | evtAck (d : Dgram)
  /-- EVT_RESEND (R356): `i` the session entry. -/
  | evtResend (i : Nat)
  /-- AUTH_INSTALL (R350): `i` the session entry; `k` the slot, `level` LEVEL, `key` KEY. -/
  | authInstall (i k level key : Nat)
  /-- AUTH_ERASE (R350): `i` the session entry; `k` the slot. -/
  | authErase (i k : Nat)
  /-- HOST_CFG_APPLY (R345). -/
  | hostCfgApply
  /-- WD_WRITE (R359): `i` the session entry; `v` HOST.WD. -/
  | wdWrite (i v : Nat)
  /-- HOST_WATCHDOG_LAPSE (R359). -/
  | hostWatchdogLapse
    /-- MODBUS_REQUEST (R361): `id` the connection, `fc` the function code, `addr` the first register, `qty` the
  quantity. -/
  | modbusRequest (id fc addr qty : Nat)
  /-- MODBUS_IDLE_TIMEOUT (R361): `id` the connection. -/
  | modbusIdleTimeout (id : Nat)
  /-- TREND_SAMPLE (R358): `e` the trend entry. -/
  | trendSample (e : Nat)
  /-- VREF_AO_RESTORED (R40): `mv` the reading in mV. -/
  | vrefAoRestored (mv : Nat)
  /-- PERSIST_COMPLETE (R79). -/
  | persistComplete
  /-- BRIDGE_NRDY_CLEAR (R224): `a` the axis. -/
  | bridgeNrdyClear (a : Nat)
    /-- CHOP_PERIOD (R235): `n` the channel, `iMeas` the current in mA, `vLs` the low-side voltage in mV, `full` the
  chop stays fully on. -/
  | chopPeriod (n iMeas vLs : Nat) (full : Bool)
  /-- OPEN_OFF_CLEAR (R246): `n` the channel. -/
  | openOffClear (n : Nat)
  /-- MODBUS_CONNECT (R361): `id` the connection. -/
  | modbusConnect (id : Nat)
deriving DecidableEq, Repr

end Sys2Proof
end

