-- ==== Sys2Proof/WellFormed.lean ====
section
/-! DEFINITION. WellFormed.lean: the commands that name what the object space has (the *Object blocks* table of R362) with
operands that fit their fields. -/

namespace Sys2Proof

/-- A datagram whose header fields fit the *YHP header* and whose addresses fit IPv4 and UDP. -/
def Dgram.wf (d : Dgram) : Bool :=
  d.ip < 2 ^ 32 && d.port < 2 ^ 16 && d.magic < 2 ^ 16 && d.ver < 2 ^ 8 && d.session < 2 ^ 16 && d.node < 2 ^ 16 &&
  d.seq < 2 ^ 32 && d.reqId < 2 ^ 32 && d.status < 2 ^ 16 && d.len < 2 ^ 16 && d.payload.length ≤ 1472 && d.tag.length == 32

/-- A table whose elements are as many as its header says. -/
def Table.wf (t : Table) : Bool := t.elems.length == t.rows * t.cols && t.rows < 2 ^ 16 && t.cols < 2 ^ 16

/-- Whether a command is well-formed. -/
def Instr.wf : Instr → Bool
  | .por _ _ => true
  | .bootSequence _ => true
  | .backgroundSlotCheck => true
  | .firnReady => true
  | .powerFailDetect _ => true
  | .powerFailClear _ => true
  | .usReturn _ => true
  | .bor => true
  | .converterFloor => true
  | .extReset _ => true
  | .wdr _ => true
  | .wake _ => true
  | .keyswChange _ => true
  | .vboostReady _ => true
  | .vboostFault _ => true
  | .vboostRestart => true
  | .esupOvercurrent e => e < 8
  | .vrefAoFault _ => true
  | .stageOpen i slot len => slot < 2 && i < 4 && len < 2 ^ 32
  | .stageMarkErased => true
  | .stageEraseDone => true
  | .stageData i off _ => i < 4 && off < 2 ^ 32
  | .stageClose i => i < 4
  | .stageVerifyDone => true
  | .stageCommit => true
  | .stageAbort i => i < 4
  | .stageLapse => true
  | .stageKeyFail _ => true
  | .keyInstall i k key => k < 4 && i < 4 && key < 2 ^ 256
  | .keyRevoke i k => k < 4 && i < 4
  | .svnRaise i => i < 4
  | .modeCmdSafe i => i < 4
  | .modeCmdRun i => i < 4
  | .modeCmdHold i => i < 4
  | .modeCmdFallback i => i < 4
  | .modeCmdService i => i < 4
  | .modeCmdPark i => i < 4
  | .modeCmdDeepPark i => i < 4
  | .modeCmdUnpark i => i < 4
  | .rtcWake => true
  | .modeCmdWarm i => i < 4
  | .modeCmdReload i => i < 4
  | .modeCmdAckShutdown i => i < 4
  | .persistCommit i => i < 4
  | .persistClear i => i < 4
  | .persistDrop i oid => i < 4 && oid < 2 ^ 32
  | .refinLost => true
  | .refSwitchDone => true
  | .refinValid _ => true
  | .refinInvalid => true
  | .tcxoFault => true
  | .pllFault => true
  | .timeSet i v => i < 4 && v < 2 ^ 64
  | .refSelWrite i v => i < 4 && v < 256
  | .timeFrame _ port => port < 2
  | .timeHoldover => true
  | .holdLimitExpiry => true
  | .rtcUpdate => true
  | .evtLost => true
  | .eventFirnCommit => true
  | .feValue n _ _ _ _ => n < 48
  | .feValueRelease n => n < 48
  | .aoInvalidTimeout n => n < 48
  | .feTonesWrite i n v => n < 48 && i < 4 && v < 2 ^ 1024
  | .feRateWrite i n v => n < 48 && i < 4 && v < 256
  | .feExcitationApply n => n < 48
  | .feGroupRestart i g => g < 3 && i < 4
  | .excitationFault n qty _ _ _ _ => n < 48 && qty ≤ 2
  | .excitationFaultClear n => n < 48
  | .shortTest n => n < 48
  | .feGroupLinkFault g _ => g < 3
  | .tomoFrame r _ _ _ => r < 12
  | .tomoKernelDone r => r < 12
  | .calEmpty i r n => r < 12 && i < 4 && n < 256
  | .calFull i r n => r < 12 && i < 4 && n < 256
  | .tomoCalDone r => r < 12
  | .tomoRestart i r => r < 12 && i < 4
  | .tomoSensWrite i r t => r < 12 && i < 4 && t.wf
  | .tomoMapRecord r => r < 12
  | .tomoRimeSetup r => r < 12
  | .rimeSetup _ => true
  | .rimeSetupAck r _ _ => r < 12
  | .rimeAdmit _ r _ _ => r < 12
  | .rimeSync _ => true
  | .rimeLinkDown p => p < 3
  | .rimeLinkUp p _ => p < 3
  | .rimeRetrain p => p < 3
  | .classSample k _ => k < 4
  | .classPublish k _ => k < 4
  | .classOverrun k c => k < 4 && c < 4
  | .swap i n => n < 256 && i < 4
  | .bankWrite i n _ t => n < 256 && i < 4 && t.wf
  | .clearPlaus i n => n < 256 && i < 4
  | .restore i k => k < 4 && i < 4
  | .coreSelfTest c _ => c < 4
  | .coreMemoryError c => c < 4
  | .staticObservation l => l < 8
  | .programTimerExpiry l => l < 8
  | .aerationWindow l w => l < 8 && w < 2
  | .checkpoint => true
  | .checkpointCommit => true
  | .lineStart i l => l < 8 && i < 4
  | .lineStop i l => l < 8 && i < 4
  | .nextStep i l => l < 8 && i < 4
  | .observe i l pos m => l < 8 && i < 4 && pos < 1024 && m < 2 ^ 32
  | .clearCorr i l => l < 8 && i < 4
  | .clearHold i l => l < 8 && i < 4
  | .coolRun i l => l < 8 && i < 4
  | .axisStart a => a < 12
  | .axisCatchDone a _ _ => a < 12
  | .axisAlignDone a _ => a < 12
  | .axisStartCheck a _ _ => a < 12
  | .axisRetryWaitEnd a => a < 12
  | .axisAttemptsReset a => a < 12
  | .axisStop a => a < 12
  | .axisRampStopDone a => a < 12
  | .axisTrip a stream _ _ => a < 12 && stream < 4
  | .bfltFault a => a < 12
  | .axisDcUndervoltage a _ => a < 12
  | .axisUvRecovery a _ => a < 12
  | .axisOpenPhase a _ _ _ => a < 12
  | .axisTripAutoClear a => a < 12
  | .axisClear i a _ => a < 12 && i < 4
  | .tachLoss a cond _ => a < 12 && 1 ≤ cond && cond ≤ 3
  | .axisCurLim a => a < 12
  | .baroSample _ _ => true
  | .pullinStart => true
  | .pullinEnd n => n < 24
  | .pullinDeadline n => n < 24
  | .valveChannelFault n _ => n < 24
  | .valveBankFault b _ _ _ _ => b < 6
  | .vbLow b _ => b < 6
  | .vbAbsent b _ => b < 6
  | .vbReturn b _ => b < 6
  | .valveClear i n _ => n < 24 && i < 4
  | .valveRetry i n _ => n < 24 && i < 4
  | .bankClear i b _ => b < 6 && i < 4
  | .barrierFrame g _ _ => g < 6
  | .dioInputTransition n _ => n < 96
  | .wireBreak n => n < 96
  | .wireBreakClear n => n < 96
  | .dioOverload n => n < 96
  | .dioOverloadRetry n => n < 96
  | .readbackMismatch n _ => n < 96
  | .parallelMismatch n _ => n < 96
  | .linkTimeoutPattern g => g < 6
  | .dioLinkLost g => g < 6
  | .dioLinkRetrain g _ => g < 6
  | .lPlusUndervoltage g => g < 6
  | .lPlusLow g => g < 6
  | .lPlusRecovery g => g < 6
  | .fieldOvertemperature g => g < 6
  | .fieldOvertemperatureClear g => g < 6
  | .dioClear i g => g < 6 && i < 4
  | .probeWrite i g v => g < 6 && i < 4 && v < 2 ^ 32
  | .encoderEdge e line _ => e < 8 && line < 3
  | .standstill e => e < 8
  | .encIndex e => e < 8
  | .encoderLineFault e pair => e < 8 && pair < 3
  | .encPreset i e v => e < 8 && i < 4 && v < 2 ^ 64
  | .encClear i e _ => e < 8 && i < 4
  | .rebase i o => o < 4 && i < 4
  | .ratioWrite i o v => o < 4 && i < 4 && v < 2 ^ 64
  | .emulationEdge o => o < 4
  | .thermSample k _ => k < 33
  | .thermStepDown z => z < 23
  | .thermStepRelease z => z < 23
  | .zoneShutdownClear z => z < 23
  | .sensorBroken k cause => k < 33 && 1 ≤ cause && cause ≤ 4
  | .sensorRestored k _ => k < 33
  | .thermClear i z => z < 23 && i < 4
  | .shutdownBootRetry _ => true
  | .floeLinkDown p => p < 3
  | .floeLinkUp p _ => p < 3
  | .ringCycleStart => true
  | .snapshotLaunch => true
  | .gatherInstant _ => true
  | .commandInstant => true
  | .snapshotReceive _ _ _ _ => true
  | .commandSectionReceive _ _ => true
  | .floeFrameForward port _ _ _ _ _ _ => port < 3
  | .eventFrameReceive _ _ => true
  | .floeBulkResend _ _ => true
  | .linkDelayProbe p _ => p < 3
  | .pairAnnounce _ _ _ => true
  | .pairListenTimeout => true
  | .pairPromote => true
  | .stateUnit _ _ => true
  | .stateWrite _ _ _ _ _ => true
  | .stateMode _ _ _ _ => true
  | .stateValues _ _ _ _ _ => true
  | .stateCommit _ _ _ => true
  | .stateAck _ => true
  | .stateHandover _ _ _ => true
  | .writeUnconfirmed => true
  | .drill i dur => i < 4 && dur < 2 ^ 16
  | .drillEnd i => i < 4
  | .drillDurationEnd => true
  | .epochReset i => i < 4
  | .hostLink _ => true
  | .hostOpen d => d.wf
  | .provisioningOpen d => d.wf
  | .hostConfirm d => d.wf
  | .confirmTimeout i => i < 4
  | .hostClose d => d.wf
  | .sessionIdleTimeout i => i < 4
  | .keepalive d => d.wf
  | .hostRead d => d.wf
  | .hostWrite d _ => d.wf
  | .segmentBufferTimeout i => i < 5
  | .relayRequest _ node _ _ reqId _ _ => node < 2 ^ 12 && reqId < 2 ^ 32
  | .relayTimeout => true
  | .bulkQuery d => d.wf
  | .bulkAck d => d.wf
  | .bulkResend i => i < 4
  | .bulkQueryTimeout i => i < 4
  | .evtSub d => d.wf
  | .evtAck d => d.wf
  | .evtResend i => i < 4
  | .authInstall i k level key => k < 4 && i < 4 && level < 4 && key < 2 ^ 256
  | .authErase i k => k < 4 && i < 4
  | .hostCfgApply => true
  | .wdWrite i v => i < 4 && v < 2 ^ 32
  | .hostWatchdogLapse => true
  | .modbusRequest _ fc addr qty => fc < 256 && addr < 2 ^ 16 && qty < 2 ^ 16
  | .modbusIdleTimeout _ => true
  | .trendSample e => e < 512
  | .vrefAoRestored _ => true
  | .persistComplete => true
  | .bridgeNrdyClear a => a < 12
  | .chopPeriod n _ _ _ => n < 24
  | .openOffClear n => n < 24
  | .modbusConnect _ => true

end Sys2Proof
end

