-- ==== Sys2Proof/Decode.lean ====
section
/-! DEFINITION. Decode.lean: the command a word of the table's bits spells. The table gives its rows no bits (log entry 7). -/

namespace Sys2Proof

/-- The command that an `nbits` wide word spells: none, since no row of the table has bits. -/
def decodeTableWord (_nbits _w : Nat) : Option Instr := none

end Sys2Proof
end

