-- ==== Sys2Proof/Config.lean ====
section
/-! DEFINITION. Config.lean: the values the spec leaves open. Each is a constant without a body: nothing can be proved
of its value, and a statement that mentions it holds for every value. -/

namespace Sys2Proof

/-- The n-th free value drawn (log entry 4): a random handle or nonce byte, an outcome the spec does not fix. -/
opaque Config.freeNat : Nat → Nat

/-- The n-th free Boolean drawn (log entry 4). -/
opaque Config.freeBool : Nat → Bool

/-- The error of the module's exp (`f` 0), ln (`f` 1) and power (`f` 2) at its arguments (R179): the spec bounds it and leaves its value
open; the model uses it only within that bound. -/
opaque Config.libErr (f : Nat) (x y : Int) : Nat

end Sys2Proof
end

