-- ==== Sys2Proof/Machine/Bits.lean ====
section
/-! DEFINITION. Machine/Bits.lean: bit fields of a register word, signed readings, byte orders (R8) and rounding. -/

namespace Sys2Proof.Machine

/-- Bits [hi:lo] of a register word. -/
def fld (v hi lo : Nat) : Nat := v / 2 ^ lo % 2 ^ (hi + 1 - lo)

/-- The word with bits [hi:lo] replaced by `x` (truncated to the field). -/
def setFld (v hi lo x : Nat) : Nat :=
  v / 2 ^ (hi + 1) * 2 ^ (hi + 1) + x % 2 ^ (hi + 1 - lo) * 2 ^ lo + v % 2 ^ lo

/-- Bit k of a register word. -/
def bitAt (v k : Nat) : Bool := v / 2 ^ k % 2 == 1

/-- A Boolean as a one-bit field. -/
def b2n (b : Bool) : Nat := if b then 1 else 0

/-- The word with bit k set to `b`. -/
def setBit (v k : Nat) (b : Bool) : Nat := setFld v k k (b2n b)

/-- A w-bit word read as a two's-complement number. -/
def toS (w v : Nat) : Int :=
  if v % 2 ^ w < 2 ^ (w - 1) then (v % 2 ^ w : Nat) else (v % 2 ^ w : Nat) - (2 ^ w : Nat)

/-- The w-bit two's-complement word of an integer (wrapping). -/
def ofS (w : Nat) (i : Int) : Nat := (i % ((2 ^ w : Nat) : Int)).toNat

/-- An integer limited to [lo, hi]. -/
def clampI (lo hi i : Int) : Int := if i < lo then lo else if hi < i then hi else i

/-- The w-bit two's-complement word of an integer, saturating at the format's ends. -/
def satS (w : Nat) (i : Int) : Nat := ofS w (clampI (-(2 ^ (w - 1) : Nat)) ((2 ^ (w - 1) : Nat) - 1) i)

/-- An unsigned w-bit counter after one more count, saturating. -/
def satInc (w v : Nat) : Nat := if v + 1 < 2 ^ w then v + 1 else 2 ^ w - 1

/-- An unsigned value limited to w bits, saturating. -/
def satU (w v : Nat) : Nat := if v < 2 ^ w then v else 2 ^ w - 1

/-- Quotient rounded to nearest, ties away from zero (denominator above zero). -/
def rdiv (n : Int) (d : Nat) : Int :=
  if 0 ≤ n then (2 * n + d) / (2 * d) else -((-(2 * n) + d) / (2 * d))

/-- Quotient of integers rounded to nearest, ties away from zero, for a divisor of either sign; 0 by a zero divisor. -/
def rdivI (n d : Int) : Int := if d < 0 then rdiv (-n) d.natAbs else if d = 0 then 0 else rdiv n d.natAbs

/-- The n bytes of a number, little-endian. -/
def leBytes : Nat → Nat → List Byte
  | 0, _ => []
  | n + 1, v => BitVec.ofNat 8 v :: leBytes n (v / 256)

/-- The number a little-endian byte string stands for. -/
def leNat : List Byte → Nat
  | [] => 0
  | b :: r => b.toNat + 256 * leNat r

/-- The n bytes of a number, big-endian. -/
def beBytes (n v : Nat) : List Byte := (leBytes n v).reverse

/-- The number a big-endian byte string stands for. -/
def beNat (l : List Byte) : Nat := leNat l.reverse

/-- n bytes of a string from an offset (shorter where the string ends). -/
def slice (l : List Byte) (off n : Nat) : List Byte := (l.drop off).take n

/-- Little-endian field of a byte string. -/
def leAt (l : List Byte) (off n : Nat) : Nat := leNat (slice l off n)

/-- Zero bytes that pad a length to a multiple of 4 (R49, R351). -/
def padTo4 (n : Nat) : Nat := (4 - n % 4) % 4

/-- n zero bytes. -/
def zeros (n : Nat) : List Byte := List.replicate n 0

/-- Elements of a list numbered from 0. -/
def numbered {α : Type} (l : List α) : List (Nat × α) := (List.range l.length).zip l

/-- A list with its element at index i replaced. -/
def setAt {α : Type} (l : List α) (i : Nat) (x : α) : List α := l.set i x

/-- The element at an index, or a default beyond the end. -/
def getL {α : Type} (l : List α) (i : Nat) (d : α) : α := (l[i]?).getD d

/-- Runs a step for each of the numbers 0 to n − 1, in order. -/
def forN {α : Type} (n : Nat) (f : Nat → α → α) (a : α) : α := (List.range n).foldl (fun x i => f i x) a

/-- Sum of a list of integers. -/
def sumI (l : List Int) : Int := l.foldl (· + ·) 0

/-- Sum of a list of naturals. -/
def sumN (l : List Nat) : Nat := l.foldl (· + ·) 0

/-- Entry i, of width w bits, of a multi-entry attribute. -/
def entry (v w i : Nat) : Nat := fld v (w * i + w - 1) (w * i)

/-- A multi-entry attribute with entry i replaced. -/
def setEntry (v w i x : Nat) : Nat := setFld v (w * i + w - 1) (w * i) x

/-- Integer square root by its binary digits from 2^(k−1) down. -/
def isqrtGo : Nat → Nat → Nat → Nat
  | 0, r, _ => r
  | k + 1, r, n => if (r + 2 ^ k) * (r + 2 ^ k) ≤ n then isqrtGo k (r + 2 ^ k) n else isqrtGo k r n

/-- The square root of a number below 2^128, to nearest. -/
def isqrt (n : Nat) : Nat :=
  let r := isqrtGo 64 0 n
  if r * r + r < n then r + 1 else r

/-- A piecewise-linear table at the fraction `x.1 / x.2` (x.2 above 0): rows of `w` columns, abscissa `cx`, ordinate `cy`.
The value as a fraction, and whether the point lies outside the rows. -/
def interp (w cx cy : Nat) (rows : List Int) (n : Nat) (x : Int × Int) : (Int × Int) × Bool :=
  let ax := fun (r : Nat) => getL rows (w * r + cx) 0
  let ay := fun (r : Nat) => getL rows (w * r + cy) 0
  if n = 0 then ((0, 1), true)
  else if x.1 < ax 0 * x.2 then ((ay 0, 1), true)
  else if ax (n - 1) * x.2 < x.1 then ((ay (n - 1), 1), true)
  else match (List.range (n - 1)).find? (fun r => decide (x.1 ≤ ax (r + 1) * x.2)) with
    | some r =>
      let dx := ax (r + 1) - ax r
      ((ay r * dx * x.2 + (x.1 - ax r * x.2) * (ay (r + 1) - ay r), dx * x.2), false)
    | none => ((ay (n - 1), 1), false)

/-- A fraction with its denominator above 0. -/
def fracPos (x : Int × Int) : Int × Int := if x.2 < 0 then (-x.1, -x.2) else x

end Sys2Proof.Machine
end

