-- ==== Sys2Proof/Machine/Crypto.lean ====
section
/-! DEFINITION. Machine/Crypto.lean: the CRC-32 of the commit record, and the SHA-256, HMAC, SHA-512 and Ed25519 of the
standards the spec names (R346, R347, the *Boot validation order*). -/

namespace Sys2Proof.Machine

/-- One bit of the CRC register. -/
def crcBit (c : Nat) : Nat := if c % 2 = 1 then (c / 2) ^^^ 0xEDB88320 else c / 2
/-- One byte into the CRC register. -/
def crcByte (c : Nat) (b : Byte) : Nat := forN 8 (fun _ x => crcBit x) (c ^^^ b.toNat)
/-- CRC-32: polynomial 0x04C1_1DB7 reflected, initial value and final XOR 0xFFFF_FFFF. -/
def crc32 (l : List Byte) : Nat := l.foldl crcByte 0xFFFFFFFF ^^^ 0xFFFFFFFF

/-- Right rotation of a w-bit word. -/
def rotr (w n x : Nat) : Nat := x / 2 ^ n + x % 2 ^ n * 2 ^ (w - n)
/-- Complement of a w-bit word. -/
def notW (w x : Nat) : Nat := 2 ^ w - 1 - x

/-- The round constants of SHA-512; SHA-256 uses the upper halves of the first 64. -/
def shaK : List Nat :=
  [0x428a2f98d728ae22, 0x7137449123ef65cd, 0xb5c0fbcfec4d3b2f, 0xe9b5dba58189dbbc, 0x3956c25bf348b538, 0x59f111f1b605d019, 0x923f82a4af194f9b, 0xab1c5ed5da6d8118] ++
  [0xd807aa98a3030242, 0x12835b0145706fbe, 0x243185be4ee4b28c, 0x550c7dc3d5ffb4e2, 0x72be5d74f27b896f, 0x80deb1fe3b1696b1, 0x9bdc06a725c71235, 0xc19bf174cf692694] ++
  [0xe49b69c19ef14ad2, 0xefbe4786384f25e3, 0xfc19dc68b8cd5b5, 0x240ca1cc77ac9c65, 0x2de92c6f592b0275, 0x4a7484aa6ea6e483, 0x5cb0a9dcbd41fbd4, 0x76f988da831153b5] ++
  [0x983e5152ee66dfab, 0xa831c66d2db43210, 0xb00327c898fb213f, 0xbf597fc7beef0ee4, 0xc6e00bf33da88fc2, 0xd5a79147930aa725, 0x6ca6351e003826f, 0x142929670a0e6e70] ++
  [0x27b70a8546d22ffc, 0x2e1b21385c26c926, 0x4d2c6dfc5ac42aed, 0x53380d139d95b3df, 0x650a73548baf63de, 0x766a0abb3c77b2a8, 0x81c2c92e47edaee6, 0x92722c851482353b] ++
  [0xa2bfe8a14cf10364, 0xa81a664bbc423001, 0xc24b8b70d0f89791, 0xc76c51a30654be30, 0xd192e819d6ef5218, 0xd69906245565a910, 0xf40e35855771202a, 0x106aa07032bbd1b8] ++
  [0x19a4c116b8d2d0c8, 0x1e376c085141ab53, 0x2748774cdf8eeb99, 0x34b0bcb5e19b48a8, 0x391c0cb3c5c95a63, 0x4ed8aa4ae3418acb, 0x5b9cca4f7763e373, 0x682e6ff3d6b2b8a3] ++
  [0x748f82ee5defb2fc, 0x78a5636f43172f60, 0x84c87814a1f0ab72, 0x8cc702081a6439ec, 0x90befffa23631e28, 0xa4506cebde82bde9, 0xbef9a3f7b2c67915, 0xc67178f2e372532b] ++
  [0xca273eceea26619c, 0xd186b8c721c0c207, 0xeada7dd6cde0eb1e, 0xf57d4f7fee6ed178, 0x6f067aa72176fba, 0xa637dc5a2c898a6, 0x113f9804bef90dae, 0x1b710b35131c471b] ++
  [0x28db77f523047d84, 0x32caab7b40c72493, 0x3c9ebe0a15c9bebc, 0x431d67c49c100d4c, 0x4cc5d4becb3e42b6, 0x597f299cfc657e2a, 0x5fcb6fab3ad6faec, 0x6c44198c4a475817]

/-- The initial hash value of SHA-512; SHA-256 uses the upper halves. -/
def shaH : List Nat :=
  [0x6a09e667f3bcc908, 0xbb67ae8584caa73b, 0x3c6ef372fe94f82b, 0xa54ff53a5f1d36f1, 0x510e527fade682d1, 0x9b05688c2b3e6c1f, 0x1f83d9abfb41bd6b, 0x5be0cd19137e2179]

/-- What tells SHA-256 from SHA-512: word width, block bytes, and the shifts of its four functions. -/
structure ShaSpec where
  w  : Nat
  bl : Nat
  k  : List Nat
  h  : List Nat
  s0 : Nat × Nat × Nat
  s1 : Nat × Nat × Nat
  e0 : Nat × Nat × Nat
  e1 : Nat × Nat × Nat

/-- SHA-256. -/
def sha256Spec : ShaSpec :=
  { w := 32, bl := 64, k := (shaK.take 64).map (· / 2 ^ 32), h := shaH.map (· / 2 ^ 32)
    s0 := (7, 18, 3), s1 := (17, 19, 10), e0 := (2, 13, 22), e1 := (6, 11, 25) }
/-- SHA-512. -/
def sha512Spec : ShaSpec :=
  { w := 64, bl := 128, k := shaK, h := shaH, s0 := (1, 8, 7), s1 := (19, 61, 6), e0 := (28, 34, 39), e1 := (14, 18, 41) }

/-- A small sigma: two rotations and a shift. -/
def shaSmall (w : Nat) (r : Nat × Nat × Nat) (x : Nat) : Nat := rotr w r.1 x ^^^ rotr w r.2.1 x ^^^ (x / 2 ^ r.2.2)
/-- A capital sigma: three rotations. -/
def shaBig (w : Nat) (r : Nat × Nat × Nat) (x : Nat) : Nat := rotr w r.1 x ^^^ rotr w r.2.1 x ^^^ rotr w r.2.2 x

/-- The message schedule from its last 16 words, newest first: `n` more words, all words newest first. -/
def shaSched (p : ShaSpec) : Nat → List Nat → List Nat
  | 0, l => l
  | n + 1, l =>
    let x := (getL l 15 0 + shaSmall p.w p.s0 (getL l 14 0) + getL l 6 0 + shaSmall p.w p.s1 (getL l 1 0)) % 2 ^ p.w
    shaSched p n (x :: l)

/-- One round on the eight working words. -/
def shaRound (p : ShaSpec) (v : List Nat) (kw : Nat × Nat) : List Nat :=
  match v with
  | [a, b, c, d, e, f, g, h] =>
    let ch := (e &&& f) ^^^ (notW p.w e &&& g)
    let ma := (a &&& b) ^^^ (a &&& c) ^^^ (b &&& c)
    let t1 := h + shaBig p.w p.e1 e + ch + kw.1 + kw.2
    let t2 := shaBig p.w p.e0 a + ma
    [(t1 + t2) % 2 ^ p.w, a, b, c, (d + t1) % 2 ^ p.w, e, f, g]
  | _ => v

/-- One block into the hash. -/
def shaBlock (p : ShaSpec) (hv : List Nat) (blk : List Byte) : List Nat :=
  let ws := (List.range 16).map (fun i => beNat (slice blk (i * (p.w / 8)) (p.w / 8)))
  let sched := (shaSched p (p.k.length - 16) ws.reverse).reverse
  let v := (p.k.zip sched).foldl (shaRound p) hv
  (hv.zip v).map (fun x => (x.1 + x.2) % 2 ^ p.w)

/-- The blocks of a padded message, at most `fuel` of them. -/
def shaBlocks (p : ShaSpec) : Nat → List Nat → List Byte → List Nat
  | 0, hv, _ => hv
  | n + 1, hv, l => if l.isEmpty then hv else shaBlocks p n (shaBlock p hv (l.take p.bl)) (l.drop p.bl)

/-- The hash of a message (FIPS 180-4). -/
def sha (p : ShaSpec) (m : List Byte) : List Byte :=
  let n := m.length
  let lenB := p.bl / 8
  let pad := (2 * p.bl - 1 - lenB - n % p.bl) % p.bl
  let l := m ++ (0x80#8 :: zeros pad) ++ beBytes lenB (8 * n)
  ((shaBlocks p (l.length / p.bl) p.h l).map (beBytes (p.w / 8))).flatten

/-- SHA-256. -/
def sha256 (m : List Byte) : List Byte := sha sha256Spec m
/-- SHA-512. -/
def sha512 (m : List Byte) : List Byte := sha sha512Spec m

/-- HMAC-SHA-256 (RFC 2104). -/
def hmac256 (key m : List Byte) : List Byte :=
  let k0 := if 64 < key.length then sha256 key else key
  let k := k0 ++ zeros (64 - k0.length)
  sha256 (k.map (· ^^^ 0x5C#8) ++ sha256 (k.map (· ^^^ 0x36#8) ++ m))

/-- The field prime of Ed25519. -/
abbrev edP : Nat := 2 ^ 255 - 19
/-- The group order. -/
abbrev edL : Nat := 2 ^ 252 + 27742317777372353535851937790883648493
/-- The curve constant d. -/
abbrev edD : Nat := 37095705934669439343138083508754565189542113879843219016388785533085940283555
/-- A square root of −1. -/
abbrev edI : Nat := 19681161376707505956807079304988542015446066515923890162744021073123829784752

/-- Power in the field by the exponent's binary digits, lowest first. -/
def edPow : Nat → Nat → Nat → Nat → Nat
  | 0, _, _, acc => acc
  | f + 1, b, e, acc => edPow f (b * b % edP) (e / 2) (if e % 2 = 1 then acc * b % edP else acc)

/-- A point in extended coordinates: X, Y, Z, T. -/
structure EdPoint where
  x : Nat
  y : Nat
  z : Nat
  t : Nat

/-- Point addition. -/
def edAdd (p q : EdPoint) : EdPoint :=
  let a := (p.y + edP - p.x) * (q.y + edP - q.x) % edP
  let b := (p.y + p.x) * (q.y + q.x) % edP
  let c := 2 * p.t * q.t * edD % edP
  let d := 2 * p.z * q.z % edP
  let e := b + edP - a
  let f := d + edP - c
  let g := d + c
  let h := b + a
  ⟨e * f % edP, g * h % edP, f * g % edP, e * h % edP⟩

/-- A multiple of a point by the scalar's binary digits, lowest first. -/
def edMul : Nat → Nat → EdPoint → EdPoint → EdPoint
  | 0, _, _, acc => acc
  | f + 1, k, p, acc => edMul f (k / 2) (edAdd p p) (if k % 2 = 1 then edAdd acc p else acc)

/-- The neutral point. -/
def edZero : EdPoint := ⟨0, 1, 1, 0⟩
/-- The base point. -/
def edBase : EdPoint :=
  let x := 15112221349535400772501151409588531511454012693041857206046113283949847762202
  let y := 46316835694926478169428394003475163141307993866256225615783033603165251855960
  ⟨x, y, 1, x * y % edP⟩

/-- Whether two points are equal. -/
def edEq (p q : EdPoint) : Bool :=
  (p.x * q.z) % edP == (q.x * p.z) % edP && (p.y * q.z) % edP == (q.y * p.z) % edP

/-- The point a 32-byte string encodes (RFC 8032, 5.1.3). -/
def edDecode (l : List Byte) : Option EdPoint :=
  let n := leNat l
  let y := n % 2 ^ 255
  let sgn := n / 2 ^ 255
  if edP ≤ y then none
  else
    let u := (y * y + edP - 1) % edP
    let v := (edD * y * y + 1) % edP
    let x2 := u * edPow 255 v (edP - 2) 1 % edP
    let x0 := edPow 255 x2 ((edP + 3) / 8) 1
    let x1 := if x0 * x0 % edP = x2 then x0 else x0 * edI % edP
    if x1 * x1 % edP ≠ x2 then none
    else if x1 = 0 ∧ sgn = 1 then none
    else
      let x := if x1 % 2 = sgn then x1 else edP - x1
      some ⟨x, y, 1, x * y % edP⟩

/-- Ed25519 verification, pure form (RFC 8032, 5.1.7), by the equation without the cofactor. -/
def edVerify (pub msg sig : List Byte) : Bool :=
  let s := leNat (slice sig 32 32)
  match edDecode pub, edDecode (slice sig 0 32) with
  | some a, some r =>
    let k := leNat (sha512 (slice sig 0 32 ++ pub ++ msg)) % edL
    decide (s < edL) && sig.length == 64 && pub.length == 32 &&
    edEq (edMul 253 s edBase edZero) (edAdd r (edMul 253 k a edZero))
  | _, _ => false

end Sys2Proof.Machine
end

