-- ==== Sys2Proof/Machine/Attrs.lean ====
section
/-! DEFINITION. Machine/Attrs.lean: the object space's field tables (R362 and the field tables of chapters 01 to 16):
for each attribute its width, access code, value after reset, and the range of each field a write may carry. A bit no
field covers is reserved. -/

namespace Sys2Proof.Machine

/-- The access codes of R362. -/
inductive Access where
  | ro | rw | rwp | wo | rc
deriving DecidableEq, Repr

/-- The range a field of a written value must lie in. -/
inductive FRange where
  | any
  | u (lo hi : Nat)
  | s (lo hi : Int)
deriving DecidableEq, Repr

/-- One field of an attribute, bits [hi:lo]. -/
structure FSpec where
  hi : Nat
  lo : Nat
  rg : FRange
deriving DecidableEq, Repr

/-- One attribute of the object space: `width` bits for one entry, `rep` entries, a table type where it is a table. -/
structure ASpec where
  width  : Nat
  acc    : Access
  dflt   : Nat := 0
  fields : List FSpec := []
  rep    : Nat := 1
  ttype  : Nat := 0
deriving DecidableEq, Repr

/-- A field of any value. -/
def fa (hi lo : Nat) : FSpec := ⟨hi, lo, .any⟩
/-- A field with an unsigned range. -/
def fu (hi lo a b : Nat) : FSpec := ⟨hi, lo, .u a b⟩
/-- A field with a signed range. -/
def fs (hi lo : Nat) (a b : Int) : FSpec := ⟨hi, lo, .s a b⟩
/-- A read-only attribute. -/
def aRo (w : Nat) (d : Nat := 0) : Option ASpec := some ⟨w, .ro, d, [], 1, 0⟩
/-- A read-only attribute of `n` entries. -/
def aRoN (n w : Nat) (d : Nat := 0) : Option ASpec := some ⟨w, .ro, d, [], n, 0⟩
/-- A read-clear attribute. -/
def aRc (w : Nat) : Option ASpec := some ⟨w, .rc, 0, [], 1, 0⟩
/-- A persistable attribute. -/
def aRwp (w d : Nat) (f : List FSpec) : Option ASpec := some ⟨w, .rwp, d, f, 1, 0⟩
/-- A persistable attribute of `n` entries. -/
def aRwpN (n w d : Nat) (f : List FSpec) : Option ASpec := some ⟨w, .rwp, d, f, n, 0⟩
/-- A volatile writable attribute. -/
def aRw (w d : Nat) (f : List FSpec) : Option ASpec := some ⟨w, .rw, d, f, 1, 0⟩
/-- A command attribute. -/
def aWo (w : Nat) (f : List FSpec) : Option ASpec := some ⟨w, .wo, 0, f, 1, 0⟩
/-- A table attribute. -/
def aTab (a : Access) (t : Nat) : Option ASpec := some ⟨0, a, 0, [], 1, t⟩

/-- The word with the listed fields (value, lowest bit). -/
def pack : List (Nat × Nat) → Nat
  | [] => 0
  | (v, lo) :: r => v * 2 ^ lo + pack r

/-- `n` copies of a w-bit entry. -/
def packN : Nat → Nat → Nat → Nat
  | 0, _, _ => 0
  | n + 1, w, v => v + packN n w v * 2 ^ w

/-- Block 0x01 DEV (R39, *DEV.SUPPLY_STAT*, *DEV supply attributes*, *DEV.IDENT*). -/
def devSpec : Nat → Nat → Option ASpec
  | 0, 0x010 => aRo 128 (pack [(0x4896, 0), (1, 32), (1, 96)])
  | 0, 0x040 => aRo 32
  | 0, 0x041 => aRo 16
  | 0, 0x042 => aRo 16
  | 0, 0x043 => aRo 16
  | 0, 0x044 => aRo 16
  | 0, 0x045 => aRwp 8 0 [fa 7 0]
  | 0, 0x046 => aRo 32
  | 0, 0x047 => aRo 64
  | _, _ => none

/-- Block 0x02 TIME (R97). -/
def timeSpec : Nat → Nat → Option ASpec
  | 0, 0x010 => aRo 32 (pack [(1, 3), (1, 6)])
  | 0, 0x011 => aRo 64
  | 0, 0x012 => aRo 32
  | 0, 0x020 => aWo 64 [fa 63 0]
  | 0, 0x030 => aRwp 8 0 [fu 7 0 0 2]
  | 0, 0x031 => aRwp 16 10 [fu 15 0 1 3600]
  | 0, 0x040 => aRo 64
  | _, _ => none

/-- Block 0x03 IMAGE (R63). -/
def imageSpec : Nat → Nat → Option ASpec
  | 0, 0x010 => aRo 32
  | 0, 0x012 => aRo 128
  | 0, 0x013 => aRo 128
  | 0, 0x014 => aRo 256
  | 0, 0x015 => aRo 16
  | 0, 0x016 => aRoN 64 96
  | 0, 0x018 => aRo 64
  | 0, 0x020 => aWo 64 [fu 7 0 1 3, fa 8 8, fa 63 32]
  | 0, 0x022 => aWo 0 []
  | 0, 0x023 => aRo 64
  | 0, 0x030 => aWo 320 [fu 7 0 1 3, fa 9 8, fa 319 64]
  | 0, 0x031 => aRo 264
  | 0, 0x032 => aRo 264
  | 0, 0x033 => aRo 264
  | 0, 0x034 => aRo 264
  | 0, 0x035 => aRo 16
  | _, _ => none

/-- Block 0x04 MODE (R83). -/
def modeSpec : Nat → Nat → Option ASpec
  | 0, 0x010 => aRo 32
  | 0, 0x011 => aRo 128
  | 0, 0x012 => aRo 32
  | 0, 0x013 => aRo 192
  | 0, 0x014 => aRo 16
  | 0, 0x015 => aRo 16
  | 0, 0x020 => aWo 32 [fa 7 0]
  | 0, 0x030 => aRwp 8 0 [fu 7 0 0 1]
  | 0, 0x031 => aRwp 8 1 [fu 7 0 0 2]
  | 0, 0x032 => aRw 64 0 [fa 63 0]
  | 0, 0x040 => aWo 64 [fu 7 0 1 3, fa 63 32]
  | 0, 0x041 => aRo 320
  | _, _ => none

/-- Block 0x05 FE: channels, groups, switches (R121). -/
def feSpec : Nat → Nat → Option ASpec
  | 0, 0x010 => aRo 32 (pack [(5, 4), (17, 16)])
  | 0, 0x011 => aRo 192 (pack [(0x80000000, 64), (0x80000000, 96), (5, 128)])
  | 0, 0x012 => aRo 192 (pack [(0x80000000, 64), (0x80000000, 96), (5, 128)])
  | 0, 0x013 => aRoN 16 64
  | 0, 0x015 => aRc 32
  | 0, 0x020 => aRwp 8 0 [fu 7 0 0 6]
  | 0, 0x021 => aRwp 32 0 [fa 1 0, fa 7 4, fu 10 8 0 4]
  | 0, 0x022 => aRwpN 16 64 0 [fa 31 0, fa 47 32, fa 63 48]
  | 0, 0x023 => aRwp 8 3 [fu 7 0 0 12]
  | 0, 0x024 => aRwp 32 0x0001050A [fu 7 0 2 25, fu 15 8 1 100, fu 23 16 1 255]
  | 0, 0x025 => aRwp 32 0x220FF000 [fu 1 0 0 2, fa 7 4, fa 8 8, fa 11 9, fa 19 12, fa 23 20, fa 27 24, fu 31 28 1 15]
  | 0, 0x026 => aRwp 128 (pack [(1, 32), (4000, 64), (6000, 96)])
      [fa 31 0, fs 63 32 1 2147483647, fa 95 64, fs 127 96 1 2147483647]
  | 0, 0x027 => aRwp 96 (pack [(1000000, 32)]) [fa 31 0, fu 63 32 1 4294967295, fa 95 64]
  | 0, 0x028 => aRwp 64 (pack [(0x80000001, 0), (0x7FFFFFFF, 32)]) [fa 31 0, fa 63 32]
  | 0, 0x029 => aTab .rwp 4
  | 0, 0x02A => aTab .rwp 3
  | 0, 0x030 => aRw 8 0 [fu 7 0 0 1]
  | 1, 0x010 => aRo 32
  | 1, 0x020 => aWo 8 [fu 7 0 1 1]
  | 2, 0x010 => aRo 32
  | 2, 0x020 => aRwp 64 0 [fa 0 0, fa 1 1, fu 3 2 0 2, fu 13 8 0 47, fa 27 16, fu 38 32 0 95, fa 51 40]
  | 2, 0x021 => aRwp 64 0 [fa 31 0, fa 63 32]
  | _, _ => none

/-- Block 0x06 TOMO (R146). -/
def tomoSpec : Nat → Nat → Option ASpec
  | 0, 0x010 => aRo 32 (pack [(3, 5), (2, 8), (7, 10)])
  | 0, 0x011 => aRo 256
  | 0, 0x012 => aRoN 812 16 (packN 812 16 0x8000)
  | 0, 0x013 => aRoN 812 16
  | 0, 0x014 => aRoN 120 64
  | 0, 0x015 => aRc 128
  | 0, 0x020 => aRwp 64 0x000000140009FF00
      [fa 0 0, fa 1 1, fa 2 2, fa 11 8, fa 15 12, fu 19 16 0 10, fa 31 24, fu 37 32 1 32]
  | 0, 0x021 => aRwpN 16 8 (packN 16 8 0xFF) [fa 7 0]
  | 0, 0x022 => aRwp 64 (pack [(68719477, 0), (9000, 32), (1, 48)]) [fa 31 0, fa 47 32, fa 49 48]
  | 0, 0x023 => aRwpN 16 16 0 [fa 15 0]
  | 0, 0x024 => aRwp 64 (pack [(200, 0), (3600, 32)]) [fu 31 0 200 3600000, fu 63 32 600 86400]
  | 0, 0x025 => aRwp 96 (pack [(1073741824, 32), (200, 64)]) [fa 31 0, fa 63 32, fa 79 64]
  | 0, 0x026 => aRwp 16 0x0805 [fu 7 0 1 50, fu 15 8 0 60]
  | 0, 0x027 => aRwp 40 (pack [(0xFFFFFFFF, 0), (2, 32)]) [fa 31 0, fa 35 32, fa 39 36]
  | 0, 0x028 => aRwp 72 0xFF [fa 7 0, fa 39 8, fa 71 40]
  | 0, 0x029 => aRwp 64 (pack [(1000000, 0), (6000000, 32)]) [fa 31 0, fa 63 32]
  | 0, 0x02A => aRwpN 120 32 0 [fa 31 0]
  | 0, 0x02B => aRwpN 120 32 0 [fa 31 0]
  | 0, 0x02C => aTab .rw 2
  | 0, 0x02D => aRo 64
  | 0, 0x030 => aWo 32 [fu 7 0 1 3, fa 15 8]
  | 0, 0x031 => aRo 32
  | _, _ => none

/-- Block 0x07 LOOP: loops, cores, classes (R176). -/
def loopSpec : Nat → Nat → Option ASpec
  | 0, 0x010 => aRo 32 7
  | 0, 0x011 => aRo 256
  | 0, 0x012 => aRo 96
  | 0, 0x015 => aRc 96
  | 0, 0x020 => aRwp 64 0x0000000000FF0002
      [fa 0 0, fa 2 1, fa 3 3, fa 5 4, fa 7 6, fa 23 16, fa 24 24, fa 25 25, fu 27 26 0 2]
  | 0, 0x021 => aRwpN 4 64 0 [fa 31 0, fa 43 32, fa 63 48]
  | 0, 0x022 => aRwp 128 (pack [(10000, 32), (10000, 96)]) [fa 31 0, fa 63 32, fa 95 64, fa 127 96]
  | 0, 0x023 => aRwp 128 (pack [(16777216, 32), (838861, 96)])
      [fa 31 0, fa 63 32, fs 95 64 0 2147483647, fs 127 96 0 2147483647]
  | 0, 0x024 => aRwp 64 (pack [(335544, 32)]) [fs 31 0 0 2147483647, fs 63 32 1 2147483647]
  | 0, 0x025 => aRwp 32 0 [fa 31 0]
  | 0, 0x026 => aRwp 64 0 [fa 31 0, fa 43 32]
  | 0, 0x027 => aRwp 64 0 [fa 31 0, fa 43 32]
  | 0, 0x028 => aRwp 8 0 [fa 7 0]
  | 0, 0x029 => aRw 32 0 [fa 31 0]
  | 0, 0x02A => aRwpN 4 64 0 [fa 31 0, fa 43 32, fa 63 63]
  | 0, 0x030 => aTab .rw 1
  | 0, 0x031 => aTab .rw 1
  | 0, 0x032 => aWo 32 [fu 7 0 1 1]
  | 0, 0x033 => aTab .rw 1
  | 0, 0x034 => aRwp 64 (pack [(838861, 0), (10, 32)]) [fs 31 0 1 2147483647, fu 47 32 1 65535]
  | 0, 0x038 => aWo 32 [fu 7 0 1 1]
  | 1, 0x010 => aRo 32
  | 2, 0x010 => aRo 32
  | 2, 0x011 => aRc 64
  | 2, 0x012 => aRc 32
  | 2, 0x020 => aRwp 64 0 [fu 31 0 6250 2500000000, fa 39 32, fu 47 40 1 255]
  | 2, 0x030 => aWo 32 [fu 7 0 1 1]
  | _, _ => none

/-- Block 0x08 LINE (R203). -/
def lineSpec : Nat → Nat → Option ASpec
  | 0, 0x010 => aRo 32 (pack [(3, 2)])
  | 0, 0x011 => aRo 320
  | 0, 0x012 => aRoN 512 512
  | 0, 0x013 => aRo 96
  | 0, 0x015 => aRc 128
  | 0, 0x020 => aRwp 64 0 [fa 0 0, fu 2 1 0 2, fa 17 8, fa 23 20, fa 41 32, fa 54 48]
  | 0, 0x021 => aRwp 128 0 [fa 31 0, fa 34 32, fa 39 39, fa 51 40, fa 95 64, fa 98 96, fa 99 99, fa 111 100]
  | 0, 0x023 => aRwp 128 0 [fa 31 0, fa 43 32, fa 95 64, fa 107 96]
  | 0, 0x024 => aRwp 128 (pack [(2000, 48)]) [fa 31 0, fa 43 32, fa 63 48, fa 95 64, fa 107 96, fu 118 112 0 95, fa 119 119]
  | 0, 0x025 => aRwp 256 (pack [(500, 64), (200, 80), (100, 96), (50, 112), (200, 128), (300, 144), (10, 160), (60, 192)])
      [fa 31 0, fa 43 32, fa 57 48, fa 63 63, fu 79 64 0 1000, fu 95 80 100 1000, fa 111 96, fa 127 112, fa 143 128,
       fa 159 144, fu 167 160 1 255, fa 185 176, fu 207 192 10 3600, fa 208 208]
  | 0, 0x026 => aRwp 192 (pack [(0xFF, 0), (40960, 64), (5000, 96), (1500, 128), (50, 144)])
      [fa 7 0, fa 63 32, fa 95 64, fa 127 96, fa 143 128, fa 159 144]
  | 0, 0x027 => aRwp 128 (pack [(50, 0), (500, 16), (86400, 32), (7200, 64)]) [fa 15 0, fa 31 16, fa 63 32, fa 95 64]
  | 0, 0x028 => aRwp 64 (pack [(60, 0), (30, 16), (120, 32), (0x7F, 48)]) [fa 15 0, fa 31 16, fa 47 32, fa 54 48, fa 55 55]
  | 0, 0x029 => aRwp 256
      (pack [(500, 0), (50, 16), (50, 32), (200, 48), (600, 64), (300, 80), (100, 96), (150, 112), (43200, 128)])
      [fa 15 0, fa 31 16, fa 47 32, fa 63 48, fa 79 64, fa 95 80, fa 111 96, fa 127 112, fa 159 128, fa 161 160, fa 162 162]
  | 0, 0x02A => aRwpN 12 64 0 [fa 31 0, fa 43 32, fa 57 48, fa 63 63]
  | 0, 0x030 => zoneSpec
  | 0, 0x031 => zoneSpec
  | 0, 0x032 => zoneSpec
  | 0, 0x033 => zoneSpec
  | 0, 0x038 => aWo 64 [fu 7 0 1 7, fa 25 16, fa 47 32]
  | _, _ => none
where
  /-- One drying zone of a line (ZONE0 to ZONE3). -/
  zoneSpec : Option ASpec := aRwp 256 0
      [fa 9 0, fa 25 16, fa 27 26, fa 63 32, fa 75 64, fa 95 80, fa 127 96, fa 139 128, fa 155 144, fa 191 160,
       fa 223 192, fa 231 224, fa 238 232, fa 239 239, fa 247 240]

/-- Block 0x09 AXIS: axes and the shared unit (R231). -/
def axisSpec : Nat → Nat → Option ASpec
  | 0, 0x010 => aRo 32
  | 0, 0x011 => aRo 256
  | 0, 0x012 => aRo 160 (pack [(2, 96)])
  | 0, 0x015 => aRc 128
  | 0, 0x016 => aRo 32
  | 0, 0x020 => aRwp 32 1000 [fu 31 0 100 4294967295]
  | 0, 0x021 => aRwp 64 0x0000000100060000
      [fa 0 0, fa 1 1, fa 2 2, fu 4 3 0 2, fa 7 5, fa 8 8, fa 9 9, fa 10 10, fa 11 11, fu 23 16 1 255, fu 39 32 1 32]
  | 0, 0x022 => aRwp 64 (pack [(500, 0), (250, 16), (125, 28), (95, 40)])
      [fu 15 0 250 5000, fu 27 16 25 1250, fu 39 28 0 1250, fu 47 40 50 100, fu 51 48 0 10]
  | 0, 0x023 => aRwp 128 0 [fa 31 0, fa 63 32, fa 95 64, fa 127 96]
  | 0, 0x024 => aRwp 256 0 [fa 255 0]
  | 0, 0x025 => aRwp 192 0 [fa 31 0, fa 63 32, fa 95 64, fa 127 96, fa 159 128]
  | 0, 0x026 => aRwp 64 (pack [(500, 0), (50, 16), (1000, 32)]) [fa 15 0, fa 31 16, fa 63 32]
  | 0, 0x027 => aRwp 128 (pack [(100, 96), (500, 112)]) [fa 31 0, fa 63 32, fa 95 64, fu 111 96 5 6000, fa 127 112]
  | 0, 0x028 => aRwp 128 0 [fa 15 0, fa 31 16, fa 47 32, fu 59 48 0 250, fa 95 64, fa 111 96]
  | 0, 0x029 => aRwp 128 (pack [(14800, 0), (12000, 32)]) [fa 31 0, fa 47 32, fa 95 64, fa 107 96, fa 111 108]
  | 0, 0x02A => aTab .rwp 6
  | 0, 0x02B => aTab .rwp 7
  | 0, 0x030 => aRw 32 0 [fa 31 0]
  | 0, 0x031 => aRw 32 0 [fa 31 0]
  | 0, 0x038 => aWo 32 [fu 7 0 1 1]
  | 1, 0x010 => aRo 32
  | 1, 0x011 => aRo 128
  | 1, 0x020 => aRwp 32 101325 [fu 31 0 50000 115000]
  | _, _ => none

/-- Block 0x0A VALVE: channels and banks (R253). -/
def valveSpec : Nat → Nat → Option ASpec
  | 0, 0x010 => aRo 32
  | 0, 0x011 => aRo 160
  | 0, 0x015 => aRc 128
  | 0, 0x020 => aRwp 64 0x0000000001F40100
      [fa 0 0, fa 1 1, fu 3 2 0 2, fu 5 4 0 2, fa 6 6, fa 7 7, fa 8 8, fa 9 9, fu 31 16 0 10000, fa 47 32]
  | 0, 0x021 => aRwp 96 0 [fa 15 0, fu 31 16 0 500, fa 47 32, fu 63 48 0 2500, fu 79 64 0 500, fa 95 80]
  | 0, 0x030 => aRw 32 0 [fa 31 0]
  | 0, 0x031 => aRw 32 0 [fa 31 0]
  | 0, 0x038 => aWo 32 [fu 7 0 1 2, fa 8 8]
  | 1, 0x010 => aRo 32
  | 1, 0x011 => aRo 160
  | 1, 0x020 => aRwp 64 0x0000000032213400 [fa 0 0, fa 1 1, fu 23 8 8000 30000, fu 31 24 25 200]
  | 1, 0x038 => aWo 32 [fu 7 0 1 1]
  | 1, 0x040 => aRo 64 0x000000000010E000
  | _, _ => none

/-- Block 0x0B DIO: channels and groups (R274). -/
def dioSpec : Nat → Nat → Option ASpec
  | 0, 0x010 => aRo 32
  | 0, 0x011 => aRo 192
  | 0, 0x015 => aRc 32
  | 0, 0x020 => aRwp 64 0x00000003E8050000
      [fu 1 0 0 2, fa 2 2, fa 3 3, fa 5 4, fu 7 6 0 2, fu 9 8 0 2, fa 11 11, fu 23 16 1 255, fu 33 24 1 1000]
  | 0, 0x030 => aRw 32 0 [fu 31 0 0 1]
  | 0, 0x031 => aRw 32 0 [fu 31 0 0 1]
  | 1, 0x010 => aRo 32
  | 1, 0x011 => aRo 192
  | 1, 0x015 => aRc 64
  | 1, 0x020 => aRwp 64 0x0000000305000A00
      [fa 0 0, fu 23 8 1 10000, fu 31 24 1 50, fa 35 32, fa 47 40, fa 51 48]
  | 1, 0x021 => aRwp 32 0 [fa 15 0, fa 16 16, fa 17 17]
  | 1, 0x022 => aRw 32 0 [fa 15 0, fa 16 16, fa 17 17, fa 31 31]
  | 1, 0x038 => aWo 32 [fu 7 0 1 1]
  | _, _ => none

/-- Block 0x0C ENC: inputs and emulation outputs (R290). -/
def encSpec : Nat → Nat → Option ASpec
  | 0, 0x010 => aRo 32 (pack [(1, 6)])
  | 0, 0x011 => aRo 256
  | 0, 0x013 => aRo 160
  | 0, 0x015 => aRc 128
  | 0, 0x020 => aRwp 64 0x0000000000050008
      [fa 0 0, fa 1 1, fa 4 2, fa 5 5, fa 6 6, fa 7 7, fu 23 16 0 250, fa 63 32]
  | 0, 0x021 => aRwp 96 (pack [(100, 0), (200, 16), (2, 64), (3, 80), (10, 88)])
      [fu 15 0 10 10000, fu 31 16 1 10000, fa 63 32, fa 79 64, fu 87 80 1 255, fu 95 88 1 255]
  | 0, 0x030 => aWo 64 [fa 63 0]
  | 0, 0x038 => aWo 32 [fu 7 0 1 1]
  | 1, 0x010 => aRo 32
  | 1, 0x011 => aRo 192
  | 1, 0x015 => aRc 64
  | 1, 0x020 => aRwp 64 0x0000000000001900 [fa 0 0, fu 2 1 0 2, fa 7 4, fu 31 8 25 6250000, fa 63 32]
  | 1, 0x021 => aRwp 64 (pack [(1, 0), (1, 32)]) [fa 31 0, fu 63 32 1 4294967295]
  | 1, 0x022 => aRwp 32 65536 [fu 31 0 1 2147483647]
  | 1, 0x038 => aWo 32 [fu 7 0 1 1]
  | _, _ => none

/-- Block 0x0D THERM: sensors and zones (R300). -/
def thermSpec : Nat → Nat → Option ASpec
  | 0, 0x010 => aRo 32
  | 0, 0x011 => aRo 96 (pack [(0x8000, 64)])
  | 0, 0x020 => aTab .rwp 7
  | 1, 0x010 => aRo 32
  | 1, 0x015 => aRc 96
  | 1, 0x016 => aRo 512
  | 1, 0x020 => aRwp 64 0 [fa 15 0, fa 31 16, fa 47 32, fu 55 48 20 200]
  | 1, 0x038 => aWo 32 [fu 7 0 1 1]
  | 1, 0x040 => aRo 512
  | _, _ => none

/-- Block 0x0E FLOE (R320). -/
def floeSpec : Nat → Nat → Option ASpec
  | 0, 0x010 => aRo 32
  | 0, 0x011 => aRo 32
  | 0, 0x012 => aRo 32
  | 0, 0x013 => aRo 64 3
  | 0, 0x014 => aRo 64
  | 0, 0x015 => aRc 192
  | 0, 0x016 => aRo 32
  | 0, 0x020 => aRwp 96 (pack [(1000, 0), (350, 32), (350, 64)])
      [fu 31 0 250 100000, fu 63 32 20 4294967295, fu 95 64 20 4294967295]
  | 0, 0x021 => aRwpN 256 32 0 [fa 31 0]
  | _, _ => none

/-- Block 0x0F PAIR (R343). -/
def pairSpec : Nat → Nat → Option ASpec
  | 0, 0x010 => aRo 32
  | 0, 0x011 => aRo 64
  | 0, 0x012 => aRo 24
  | 0, 0x013 => aRo 96
  | 0, 0x015 => aRc 256
  | 0, 0x016 => aRo 128
  | 0, 0x020 => aRwp 64 0x00000A0300000000 [fa 11 0, fa 27 16, fa 28 28, fu 39 32 2 255, fu 47 40 2 255]
  | 0, 0x038 => aWo 32 [fu 7 0 1 3, fa 31 16]
  | _, _ => none

/-- Block 0x10 HOST (R363). -/
def hostSpec : Nat → Nat → Option ASpec
  | 0, 0x010 => aRo 32
  | 0, 0x011 => aRo 48 0x010000000000
  | 0, 0x012 => aRoN 4 128
  | 0, 0x015 => aRc 256
  | 0, 0x020 => aRwp 128 (pack [(3232247904, 0), (4294967040, 32), (44896, 96)])
      [fa 31 0, fa 63 32, fa 95 64, fu 111 96 1024 65535, fa 112 112, fu 114 113 0 2]
  | 0, 0x021 => aRwp 32 0x0000003C [fu 15 0 1 600, fa 16 16, fa 17 17]
  | 0, 0x022 => aRo 96
  | 0, 0x030 => aRo 8
  | 0, 0x031 => aRo 8
  | 0, 0x032 => aRo 8
  | 0, 0x033 => aRo 8
  | 0, 0x038 => aWo 320 [fu 7 0 1 2, fa 9 8, fu 11 10 0 2, fa 319 64]
  | 0, 0x040 => aRwpN 128 32 0 [fa 31 0]
  | _, _ => none

/-- Block 0x11 EVT (R97). -/
def evtSpec : Nat → Nat → Option ASpec
  | 0, 0x010 => aRo 32
  | 0, 0x011 => aRc 32
  | 0, 0x012 => aRo 64
  | _, _ => none

/-- Block 0x12 FIRN (R363). -/
def firnSpec : Nat → Nat → Option ASpec
  | 0, 0x010 => aRo 32
  | 0, 0x011 => aRoN 4 128
  | 0, 0x020 => aRwpN 512 64 0 [fa 31 0, fa 43 32, fa 53 48, fa 63 63]
  | _, _ => none

/-- Block 0x13 CROP (R203). -/
def cropSpec : Nat → Nat → Option ASpec
  | 0, 0x010 => aRo 32
  | 0, 0x020 => aTab .rwp 5
  | 0, 0x021 => aTab .rwp 4
  | 0, 0x022 => aTab .rwp 3
  | _, _ => none

/-- Block 0x14 AO (R121). -/
def aoSpec : Nat → Nat → Option ASpec
  | 0, 0x010 => aRo 32 0x00020000
  | 0, 0x020 => aRwp 32 0 [fu 5 0 0 47, fa 8 8, fa 9 9, fa 31 16]
  | 0, 0x021 => aRwp 64 (pack [(10000, 32)]) [fa 31 0, fa 63 32]
  | _, _ => none

/-- Block 0x15 RIME (R320). -/
def rimeSpec : Nat → Nat → Option ASpec
  | 0, 0x010 => aRo 32
  | 0, 0x011 => aRo 32
  | 0, 0x012 => aRo 32
  | 0, 0x013 => aRo 32
  | 0, 0x015 => aRc 96
  | 0, 0x020 => aRwp 32 0xF [fa 2 0, fa 3 3]
  | _, _ => none

/-- The attribute a block declares for a kind of instance (the *Object blocks* table of R362). -/
def specOf (blk kind att : Nat) : Option ASpec :=
  match blk with
  | 0x01 => devSpec kind att
  | 0x02 => timeSpec kind att
  | 0x03 => imageSpec kind att
  | 0x04 => modeSpec kind att
  | 0x05 => feSpec kind att
  | 0x06 => tomoSpec kind att
  | 0x07 => loopSpec kind att
  | 0x08 => lineSpec kind att
  | 0x09 => axisSpec kind att
  | 0x0A => valveSpec kind att
  | 0x0B => dioSpec kind att
  | 0x0C => encSpec kind att
  | 0x0D => thermSpec kind att
  | 0x0E => floeSpec kind att
  | 0x0F => pairSpec kind att
  | 0x10 => hostSpec kind att
  | 0x11 => evtSpec kind att
  | 0x12 => firnSpec kind att
  | 0x13 => cropSpec kind att
  | 0x14 => aoSpec kind att
  | 0x15 => rimeSpec kind att
  | _ => none

/-- How many instances of a kind a block has (the *Object blocks* table of R362). -/
def instCount (blk kind : Nat) : Nat :=
  match blk, kind with
  | 0x05, 0 => 48 | 0x05, 1 => 3 | 0x05, 2 => 32
  | 0x06, 0 => 12
  | 0x07, 0 => 256 | 0x07, 1 => 4 | 0x07, 2 => 4
  | 0x08, 0 => 8
  | 0x09, 0 => 12 | 0x09, 1 => 1
  | 0x0A, 0 => 24 | 0x0A, 1 => 6
  | 0x0B, 0 => 96 | 0x0B, 1 => 6
  | 0x0C, 0 => 8 | 0x0C, 1 => 4
  | 0x0D, 0 => 33 | 0x0D, 1 => 23
  | 0x13, 0 => 16
  | 0x14, 0 => 8
  | b, 0 => if 1 ≤ b ∧ b ≤ 0x15 then 1 else 0
  | _, _ => 0

/-- *Sample class defaults* (07): PERIOD, DL and OVR_SHED of class k. -/
def classCfgDflt : Nat → Nat
  | 0 => pack [(12500, 0), (60, 32), (3, 40)]
  | 1 => pack [(125000, 0), (80, 32), (3, 40)]
  | 2 => pack [(2500000, 0), (80, 32), (3, 40)]
  | 3 => pack [(250000000, 0), (90, 32), (2, 40)]
  | _ => 0

/-- W, H, S in 0.01 °C and Y of a zone configuration. -/
def zoneWord (w h s y : Nat) : Nat := pack [(w * 100, 0), (h * 100, 16), (s * 100, 32), (y, 48)]

/-- *Zone classes* (13): W, H, S and Y of zone z after reset: CORE 0, FE 1 to 3, VALVE 4 to 9, AXIS 10 to 21, BOARD 22. -/
def zoneCfgDflt (z : Nat) : Nat :=
  if z = 0 then zoneWord 125 135 145 50
  else if z ≤ 3 then zoneWord 120 130 145 50
  else if z ≤ 9 then zoneWord 115 125 140 50
  else if z ≤ 21 then zoneWord 80 90 100 50
  else if z = 22 then zoneWord 100 0 110 50
  else 0

/-- The value an attribute has when nothing has written it: its *After boot* value (log entries 2 and 3). -/
def dfltOf (a : Attr) : Nat :=
  if a.blk = 7 ∧ a.kind = 2 ∧ a.att = 0x020 then classCfgDflt a.idx
  else if a.blk = 0xD ∧ a.kind = 1 ∧ a.att = 0x020 then zoneCfgDflt a.idx
  else match specOf a.blk a.kind a.att with
    | some sp => sp.dflt
    | none => 0

/-- The width in bits of an attribute's whole value. -/
def widthOf (a : Attr) : Nat :=
  match specOf a.blk a.kind a.att with
  | some sp => sp.width * sp.rep
  | none => 0

/-- The object ID of an attribute (R10). -/
def oidOf (a : Attr) : Nat := a.blk * 2 ^ 24 + (a.kind * 256 + a.idx) * 2 ^ 12 + a.att

/-- The attribute an object ID names (R10). -/
def attrOf (oid : Nat) : Attr :=
  ⟨fld oid 31 24, fld oid 23 20, fld oid 19 12, fld oid 11 0⟩

end Sys2Proof.Machine
end

