-- ==== Sys2Proof/Machine/State.lean ====
section
/-! DEFINITION. Machine/State.lean: everything the spec gives the module, as plain data: the object registers
(Block.regs, Block.tabs) in one sparse canonical form over their reset values, and the state the text gives beside the
object space, one structure for each chapter. -/

namespace Sys2Proof.Machine

/-- A sparse map over attributes: keys strictly rising, no entry equal to what an unlisted key reads as. -/
abbrev AMap (α : Type) := List (Attr × α)

/-- Where the module stands between supply and service (R29, R57, R64, R74, R76, R297). -/
inductive Phase where
  /-- No supply, or the supply has not yet stood above the start threshold for 10 ms. -/
  | off
  /-- RESET_N is held low (R33). -/
  | held
  /-- The reset is released and the boot sequence is to run. -/
  | pending
  /-- Boot found no valid image (R57). -/
  | noImage
  /-- Booted, power state ACTIVE. -/
  | active
  /-- Power state PARK (R74). -/
  | park
  /-- DEEP PARK (R74). -/
  | deepPark
  /-- Halted by a module shutdown (R297). -/
  | halted
deriving DecidableEq, Repr

/-- The *Reset kinds* table (R77). -/
inductive ResetKind where
  | por | bor | ext | wdr | warm | reload
deriving DecidableEq, Repr

/-- The clocks: raw CLK_SYS time in ns, the timebase in ns (R84, R87), the RTC's part of a second in ns (R90), the
offset the servo still has to remove and the ticks since its last adjusted tick (R87). -/
structure Clk where
  raw    : Nat
  tb     : Nat
  rtcSub : Nat
  slew   : Int
  gap    : Nat
deriving DecidableEq, Repr

/-- The timebase servo and the reference switch (R85 to R89). -/
structure TimeDyn where
  lockRun     : Nat            -- consecutive cycles with the offset within 100 ns
  lockCyc     : Nat            -- the last of them
  lastFrame   : Nat            -- raw time of the last valid time frame
  switching   : Option (Nat × Bool)   -- a reference switch in progress: the new reference, and whether a fault caused it
  tcxoForced  : Bool           -- a TCXO fault holds the module on REFIN until the next reset
  holdSince   : Nat            -- raw time HOLDOVER began
  refHeld     : Bool           -- REFIN has been valid for 100 ms
  refLost     : Bool           -- REFIN was lost while selected and has not been valid for 100 ms since
  unsFrom     : Nat            -- timebase value at which UNSYNC took its present value
deriving DecidableEq, Repr

/-- Supply supervision (R26 to R29, R40, R380). -/
structure Supply where
  vbFailAt    : Option Nat     -- raw time of the last VBOOST failure
  vbRestartAt : Option Nat     -- when the converter restarts
  vbLatched   : Bool           -- latched off until the next reset
  usFed       : Bool           -- the held node is fed from US
  esupPrev    : Nat            -- ESUP_EN as last applied
  rstLow      : Bool           -- RESET_N is low
deriving DecidableEq, Repr

/-- A checkpoint area (R201): its sequence number, the ring time of its copy, and each line's state with its signature and
counts. An area without a valid marker is `none` in its slot. -/
structure Ckpt where
  seq   : Nat
  ts    : Nat
  lines : List (Nat × LineCh)
deriving DecidableEq, Repr

/-- A zone shutdown record (R298): its zone, ring time and 64 bytes as a number. -/
structure SdRec where
  zone : Nat
  ts   : Nat
  word : Nat
deriving DecidableEq, Repr

/-- A clock fault record (R86) and the supervisor's reset notes. -/
structure Mram where
  auth      : List (List Byte)     -- secrets of AUTH0 to AUTH3 (R347)
  overlay   : Overlay
  pfRec     : List Byte            -- the power-fail record's unit of 64 bytes (R30); empty where none was ever written
  pfSeq     : Nat                  -- SEQ of the latest power-fail record
  ckpt      : List (Option Ckpt)            -- the two checkpoint areas (R201)
  pfUsed    : Nat                  -- SEQ consumed at the previous boot
  clkFault  : Option Nat           -- ring time of a PLL fault not yet reported
  encSaved  : List Int             -- encoder counts of all 8 inputs
  fanHours  : List Nat             -- pending run-hour increments of the axes, in ns
  sdRing    : List SdRec           -- the ring of 64 zone shutdown records, newest first (R298)
  sdSeq     : Nat                  -- SEQ of the latest shutdown record
  sdNew     : Option (Nat × Bool)  -- ring time of a module shutdown record not yet reported, and UNSYNC then (R297, R89)
  sdLatched : List Nat             -- zones latched and not cleared (R296)
deriving DecidableEq, Repr

/-- A queued record with its queue number and whether Firn has committed it (R93, R94). -/
structure QRec where
  num   : Nat
  ev   : EvRec
  firn  : Bool
  qAt   : Nat
deriving DecidableEq, Repr

/-- An event queue of 4096 records (R93, R94; the second queue of a HEAD, R356). -/
structure EvQueue where
  q         : List QRec    -- oldest first
  nextNum   : Nat
  lostCnt   : Nat          -- discarded since the last EVT_LOST record
  lostTs    : Nat          -- timestamp of the first of these
deriving DecidableEq, Repr

/-- One Firn record: its timestamp, its filter key (line, ring or trend entry) and its bytes (R357). -/
structure FirnRec where
  ts   : Nat
  filt : Nat
  data : List Byte
deriving DecidableEq, Repr

/-- A trend record being filled (R358). -/
structure TrendAcc where
  entry  : Nat
  ts     : Nat
  period : Nat
  vals   : List Nat
deriving DecidableEq, Repr

/-- Firn: the four partitions, oldest record first, which have wrapped since boot, and open trend records. -/
structure FirnDyn where
  events  : List FirnRec
  parcels : List FirnRec
  maps    : List FirnRec
  trends  : List FirnRec
  wrapped : List Nat
  replay  : Bool           -- the mount followed a power loss or BOR
  accs    : List TrendAcc
deriving DecidableEq, Repr

/-- Staging of an image (R58 to R61): the owner, the slot and length, the offset, and the raw time of the last write. -/
structure StageDyn where
  owner   : Option Nat     -- session entry that opened staging
  imgLen  : Nat
  lastAt  : Nat
  erased  : Bool           -- the mark sector is erased and the open page programmed
  recErrs : Nat            -- record errors of the dry run
  verified : Bool          -- the dry run has passed and the commit record is to be programmed
deriving DecidableEq, Repr

/-- The booted image (R1, R45, R53): role, node, header fields, narrowed ranges, image values and record errors. -/
structure ImgDyn where
  role     : Nat           -- code of the *Roles* table; 1 before an image is applied
  node     : Nat
  keySlot  : Nat
  svn      : Nat
  hash     : Nat
  tried    : List Nat      -- slots read at this boot (0 A, 1 B)
  narrow   : List (Attr × (Nat × Nat))
  imgRegs  : AMap Nat      -- attribute values as the image left them
  imgTabs  : AMap Table
  defined  : List Attr     -- attributes the image carries a value record for
deriving DecidableEq, Repr

/-- The last reset: its kind, and the VOLATILE values a WARM reset keeps for a boot of the same build (R81). -/
structure ResetDyn where
  kind      : ResetKind
  fromDeep  : Nat          -- 0: not from DEEP PARK; else the wake cause of R76
  keepHash  : Nat
  keepVals  : List (Attr × AVal)
  wdCheck   : Nat          -- last firmware checkpoint at a WDR
  pllFault  : Bool
  sdWait    : Nat          -- raw time boot step 1 last found the sensors too hot (R297)
deriving DecidableEq, Repr

/-- The mode machine (R68 to R74). -/
structure ModeDyn where
  cmd       : Option (Nat × Nat)   -- accepted MODE.CMD: OP and the session entry (4: none)
  fbWd      : Bool                 -- FALLBACK causes of R73
  fbHeads   : Bool
  fbCmd     : Bool
  fbSect    : Bool
  fbLatch   : Bool
  ownerGone : Bool                 -- the SERVICE owner's session closed
  sectMode  : Option Nat           -- MODE field of the applied section, OUTSTATION
  persistOp : Option (Nat × Overlay × List Attr)  -- PERSIST operation in progress: OP, the overlay to come, what it takes from RAM
  standbyMode : Option (Nat × Nat)  -- copied mode change of a STATE MODE record: mode and cause
deriving DecidableEq, Repr

/-- A cached YHP response (R349). -/
structure Resp where
  typ     : Nat
  seq     : Nat
  reqId   : Nat
  status  : Nat
  payload : List Byte
deriving DecidableEq, Repr

/-- A chunk of a query sent and not acknowledged (R357): its number, FLAGS and bytes. -/
structure Chunk where
  no    : Nat
  flags : Nat
  data  : List Byte
deriving DecidableEq, Repr

/-- A running bulk query (R357): its records not yet cut, the bytes of cut records not yet in a chunk, the next chunk, the
window of chunks sent, the records counted, whether the last chunk is out, and whether records were skipped. -/
structure Query where
  seq     : Nat            -- SEQ of the request
  qid     : Nat
  kind    : Nat
  recs    : List FirnRec
  rest    : List Byte
  next    : Nat
  win     : List Chunk     -- oldest first
  count   : Nat
  last    : Bool
  lastAck : Nat            -- raw time of the last acknowledgement, or of the start
  sentAt  : Nat
  skipped : Bool
deriving DecidableEq, Repr

/-- An EVT_DATA sent and not acknowledged (R356): the STREAM_SEQ of its first record, and its records: whether of the second
queue, the queue number, the record. -/
structure EvtPk where
  sseq : Nat
  recs : List (Bool × Nat × EvRec)
deriving DecidableEq, Repr

/-- An open event stream (R356). -/
structure Stream where
  minSev  : Nat
  ring    : Bool
  next    : Nat            -- queue number of the next record to look at
  rnext   : Nat            -- of the second queue
  sseq    : Nat            -- next STREAM_SEQ
  win     : List EvtPk     -- oldest first
  sentAt  : Nat
deriving DecidableEq, Repr

/-- A segment buffer (R353). -/
structure SegBuf where
  oid    : Nat
  total  : Nat
  data   : List Byte
  lastAt : Nat
deriving DecidableEq, Repr

/-- Where a session entry stands. -/
inductive SessSt where
  | free | challenge | opened
deriving DecidableEq, Repr

/-- One entry of HOST.SESSIONS with what the module keeps of it (R347 to R349). -/
structure Sess where
  st       : SessSt
  handle   : Nat
  level    : Nat
  prov     : Bool
  slot     : Nat
  ip       : Nat
  port     : Nat
  lastAt   : Nat
  openedAt : Nat
  key      : List Byte
  seqAcc   : Nat
  seqAns   : Nat
  resps    : List Resp      -- last 16, newest first
  held     : List Resp      -- answered, waiting for the response of an earlier request, oldest first
  tagFails : Nat
  seg      : Option SegBuf
  query    : Option Query
  stream   : Option Stream
deriving DecidableEq, Repr

/-- A Modbus connection (R361). -/
structure MbConn where
  id     : Nat
  lastAt : Nat
deriving DecidableEq, Repr

/-- What the module sends on the host port. -/
inductive HostMsg where
  | resp (handle : Nat) (r : Resp)
  | bulk (handle qid chunk flags : Nat) (data : List Byte)
  | evt (handle : Nat) (payload : List Byte)
  | modbus (conn : Nat) (pdu : List Byte)
  | cmdResp (entry status : Nat)
deriving DecidableEq, Repr

/-- A relayed request waiting for its target (R355); `got`: the first chunk of a query's answer has come. -/
structure Relay where
  entry  : Nat
  handle : Nat
  seq    : Nat
  reqId  : Nat
  typ    : Nat
  node   : Nat
  sentAt : Nat
  got    : Bool
deriving DecidableEq, Repr

/-- The module's own numbering of the datagrams it sends under one handle (R346, log entry 47): the last SEQ used, and which SEQ each
of the last 16 responses went out with: the request's SEQ and REQ_ID, the response's SEQ. -/
structure TxSeq where
  handle : Nat
  last   : Nat
  sent   : List (Nat × Nat × Nat)
deriving DecidableEq, Repr

/-- The host port (R344 to R361): the sessions, the network settings in force and when an accepted HOST.CFG applies, the raw
time the watchdog is timed from, Modbus connections, relayed requests under way, and what has been sent. -/
structure HostDyn where
  sess    : List Sess          -- four entries
  netCfg  : Nat                -- network settings in force
  cfgAt   : Option Nat         -- when an accepted HOST.CFG applies
  wdFrom  : Nat                -- raw time the watchdog is timed from
  mb      : List MbConn
  relays  : List Relay
  rseg    : Option SegBuf      -- the segment buffer of relayed writes
  lapsed  : List Nat           -- handles whose challenge lapsed and that were not drawn again
  tx      : List TxSeq
  out     : List HostMsg       -- newest first
  wire    : List (List Byte)   -- the datagrams sent, newest first
deriving DecidableEq, Repr

/-- One DIO channel: the field side's filter, diagnostics and output switch (R256, R257, R260 to R262), and what the
logic side keeps of it. -/
structure DioCh where
  cfgF     : Nat           -- the configuration the field side holds (R78, R263)
  swAt     : Nat           -- raw time of the last switching (R262)
  filt     : Bool          -- filtered input state
  cnt      : Nat           -- integrating counter
  chg      : Option Nat    -- field-side tick of a transition not yet carried by a frame
  wb       : Bool          -- wire break
  want     : Bool          -- the value the field side applies
  ovl      : Bool          -- switched off by an overload, retry pending
  ovlRun   : Nat           -- consecutive overloads
  retryAt  : Nat
  onSince  : Nat           -- raw time of the last switching on
  latched  : Bool
  rb       : Bool          -- read-back mismatch
  pm       : Bool          -- parallel mismatch
  manSet   : Bool          -- the SERVICE owner has written MAN
  offNext  : Bool          -- off at the next frame (R273)
  lineOn   : Option Bool   -- commanded by a line (R195)
deriving DecidableEq, Repr

/-- One DIO group: the barrier link and the field side (R263 to R266, R269). -/
structure DioGrp where
  cfgF     : Nat           -- the group configuration the field side holds (R78, R263)
  first    : Bool          -- the next command frame is the first after bring-up: SAFE values (R272)
  badRun   : Nat
  lostFrames : Nat
  pattern  : Bool          -- the link-timeout pattern holds
  uv       : Bool
  low      : Bool          -- outputs off under 14 V, until 18 V for 100 ms
  ot       : Bool
  maskSeq  : Nat           -- mask sequence number of the current mask
  ackSeq   : Nat           -- mask sequence number of the frame last accepted
  mask     : Nat           -- effective mask the field side holds
  fbit     : Bool          -- fault bit last computed
  chgTs    : Nat           -- tick of the last change of the fault bit
  retrainAt : Nat
deriving DecidableEq, Repr

/-- The isolated field I/O (11). -/
structure DioDyn where
  ch  : List DioCh         -- 96
  grp : List DioGrp        -- 6
deriving DecidableEq, Repr

/-- A pull-in request in the module-wide queue (R234, R240). -/
structure PiReq where
  deadline : Option Nat    -- raw time; none: forced
  tick     : Nat           -- raw time of the request tick
  deferred : Bool          -- counted as deferred
  boost    : Bool          -- has waited for VBOOST
deriving DecidableEq, Repr

/-- One valve channel (R234 to R250). -/
structure ValveCh where
  want     : Nat           -- the value levels 4 and 5 give (R248)
  out      : Nat           -- the applied value
  req      : Option PiReq
  piFrom   : Option Nat    -- raw start of a running pull-in
  piVb     : Bool          -- that pull-in runs on VBb (R242)
  hold     : Bool          -- in hold (SWITCH) or regulating (PROP)
  resv     : Bool          -- reserves its HOLD_I (R238)
  openOff  : Bool
  openOn   : Bool
  autoClr  : List Nat      -- raw times of automatic clears
  manSet   : Bool
  fullFrom : Option Nat    -- at full duty without reaching the target since
  target   : Nat           -- target of the running chop period, in mA
  dithFrom : Option Nat    -- raw start of the dither phase
deriving DecidableEq, Repr

/-- The valve banks: channels and the boost account (R241), in units of 10 nJ as of a raw time. -/
structure ValveDyn where
  ch    : List ValveCh     -- 24
  acc   : Nat
  accAt : Nat
  boostW : Bool            -- a request has waited for VBOOST since it was last ready (R242)
deriving DecidableEq, Repr

/-- A value a front-end channel has produced and not yet released (R104, R106): its timestamp, number, what its window says of
it (0 measured, 3 SETTLING, 4 INVALID), the cause and THR; the TYPE, SIG_QTY and tone word it was demodulated under; and the
amplitudes its signal quantity is computed from at its release (R103, R121). -/
structure FeHeld where
  ts    : Nat
  seq   : Nat
  q     : Nat
  cause : Nat
  thr   : Bool
  typ   : Nat
  qty   : Nat
  ftw   : Nat
  x     : List (Int × Int)  -- currents of the 16 tones, TOMO channels only (R131)
  sx    : Int × Int         -- X at SIG_TONE
  d     : Int × Int         -- drive voltage at SIG_TONE
  i     : Int × Int         -- drive current at SIG_TONE
deriving DecidableEq, Repr

/-- A TONES or RATE write waiting for the end of its value interval (R107). -/
structure FePend where
  due   : Nat               -- timebase value of the end of the interval
  tones : Option Nat
  rate  : Option Nat
deriving DecidableEq, Repr

/-- One front-end channel (R104 to R117). -/
structure FeCh where
  t0      : Nat             -- timebase value of the last restart, where the phase accumulators were reset (R100)
  ivl     : Nat             -- value interval of the grid since then, in ns
  m       : Nat             -- number of the last value of the grid since the restart
  held    : List FeHeld     -- produced and not yet released, oldest first
  pend    : Option FePend
  fault   : Nat             -- 0 none, 1 OPEN, 2 SHORT, 3 DEGRADED
  faultAt : Nat             -- raw time of the declaration, or of the last reclassification
  testAt  : Nat             -- raw time of the next test application of a SHORT
  tested  : Bool            -- a test application has been made since the SHORT was declared
  ovl     : Bool            -- the last value produced was an overload
  meth    : Nat             -- QUAL of the last linearised value
  tSeen   : Bool            -- a temperature has been eligible since the restart
  tLost   : Bool            -- and was lost since
  tRep    : Bool            -- the present loss has been reported
  tFrom   : Option Nat      -- timestamp of the first value of the present run of eligible temperatures after a loss
  delivAt : Option Nat      -- timebase value of the last delivery since boot
  hist    : List (Nat × List (Int × Int) × (Int × Int))  -- delivered values of an electrode: TS, currents, voltage (R131)
deriving DecidableEq, Repr

/-- The front end (05): channels, the time of each group's last link failure, the AO outputs driven since their source was
configured, and those whose source is invalid. -/
structure FeDyn where
  ch    : List FeCh         -- 48
  linkAt : List (Option Nat)  -- raw time of each group's last link failure
  aoOn  : List Nat
  aoInv : List Nat
deriving DecidableEq, Repr

/-- One encoder input (R276 to R285): the accepted levels of A, B and Z and the ticks of the last A and B edges, the last
valid Hall state, COUNT, the count that corrections leave alone, the present run's edges (timestamp, count), newest
first, the direction of the last edge, its timestamp, whether a standstill has been declared since, the times of illegal
transitions within 1 s, a PRESET waiting for a class A boundary, and what was last delivered. -/
structure EncCh where
  a      : Bool
  b      : Bool
  z      : Bool
  tA     : Option Nat
  tB     : Option Nat
  hall   : Nat
  count  : Int
  rc     : Int
  run    : List (Nat × Int)
  dirNeg : Bool
  tL     : Option Nat
  still  : Bool
  terr   : List Nat
  preset : Option Int
  del    : Nat × Int      -- the last delivered VALUES: timestamp and SPEED (R281)
deriving DecidableEq, Repr

/-- One emulation output (R286 to R288): P0, the origin of the target, OUT, the raw time of the last edge, and whether an
edge has been dropped since LAG was set. -/
structure EmuCh where
  p0    : Int
  org   : Int
  out   : Int
  edgeAt : Nat
  dropped : Bool
  hold  : Int              -- the source position held while an axis source does not run
deriving DecidableEq, Repr

/-- Position and speed (12). -/
structure EncDyn where
  ch  : List EncCh         -- 8
  emu : List EmuCh         -- 4
deriving DecidableEq, Repr

/-- One axis (R204 to R229). -/
structure AxCh where
  ref     : Int            -- speed reference in 10⁻⁹ × 0.1 rpm
  theta   : Nat            -- motor overload model in 10⁻¹⁵ (R211)
  cont    : Bool           -- I_CONT acts
  at'     : Nat            -- raw time the present STATE was entered
  catchAt : Nat            -- raw time of the last start
  waitEnd : Nat            -- raw time the RETRY_WAIT ends
  against : Bool           -- taken over turning against the command (R216)
  gateNs  : Nat            -- time with the gates switching not yet in HOURS
  autoClr : List Nat       -- raw times of automatic trip clears
  curFrom : Option Nat     -- raw time since which a limit has kept the speed low
  known   : Bool           -- the speed is known in STOPPED (R217)
  est     : Int            -- estimator speed of the last sample
  duty    : Nat × Nat × Nat    -- commanded high intervals in force, in 4 ns (R206, R209)
  next    : Nat × Nat × Nat    -- those that take effect at the next valley
  curCmd  : Int × Int      -- current command in mA rms, d and q (R210)
  cfgNext : Option Nat     -- a CFG written while the axis ramps down for it (R231)
  sumT    : Int            -- sums of torque (10⁻¹⁰ N·m) and speed over the class C period (R219)
  sumN    : Int
  cnt     : Nat
  angle   : Int            -- unwrapped mechanical angle (R287)
  manSet  : Bool
  airV    : Bool           -- AIRFLOW was VALID in the present RUN
deriving DecidableEq, Repr

/-- The fan drives (09): the axes and the raw time of the next barometer sample. -/
structure AxisDyn where
  ch     : List AxCh       -- 12
  baroAt : Nat
deriving DecidableEq, Repr

/-- A value of another node as the last SNAPSHOT that carried it gave it (R150, R307). -/
structure RemVal where
  node : Nat
  oid  : Nat
  val  : Int
  ts   : Int
  inv  : Bool              -- FLAGS INVALID of its entry
  dlv  : Bool              -- the entry carries a delivered value: not INVALID with AGE at its limit
deriving DecidableEq, Repr

/-- An event a tentative sample would raise: source, severity, CODE, data. -/
structure TentEv where
  src  : Nat
  sev  : Nat
  code : Nat
  data : Nat
deriving DecidableEq, Repr

/-- The tentative result of one loop's sample (R151, R169). -/
structure LoopTent where
  n      : Nat
  ch     : LoopCh
  stat   : Nat
  values : Option Nat
  out    : Option Int      -- the output published, in the output unit
  mode   : Option Nat      -- a MODE the sample sets
  manOut : Option Nat      -- a MAN_OUT the sample sets
  evs    : List TentEv
  hos    : Nat             -- hand-overs, input faults, trips counted
  faults : Nat
  trips  : Nat
  took   : Bool            -- it takes a pending SWAP
deriving DecidableEq, Repr

/-- A sample class: the timebase value of its last boundary, the sample in progress, what it has shed, last first, the
boundary of its last committed sample, the overruns since it, and the deadline of the sample in progress. -/
structure ClassDyn where
  last  : Nat
  prog  : Option Nat       -- boundary of the sample in progress
  tent  : List LoopTent
  shed  : List ShedItem
  done  : Nat
  ovr   : Nat
  dl    : Nat
deriving DecidableEq, Repr

/-- Where the work of the classes stands (R166): the core of each loop, of each line's kernel and of each ring's class D kernel. -/
structure Place where
  loops : List (Nat × Nat)
  lines : List (Nat × Nat)
  rings : List (Nat × Nat)
deriving DecidableEq, Repr

/-- The loop engine (07): the loops, the classes, the readings the class A sample in progress has latched, and the
placement. -/
structure SeracDyn where
  loops : List LoopCh      -- 256
  cls   : List ClassDyn    -- 4
  axIn  : List AxisIn
  place : Place
deriving DecidableEq, Repr

/-- What a SNAPSHOT echoes of a destination on another node (R158, R307): the applied value, FORCED and CAPPED. -/
structure EchoVal where
  node   : Nat
  oid    : Nat
  val    : Int
  forced : Bool
  capped : Bool
deriving DecidableEq, Repr

/-- One frame's admittances (R131, the *ADMIT payload* table): the frame boundary, the mean admittances of electrode i at
tone j at place 16·i + j in 10⁻¹⁸ S, the counts of the 120 pairs, and the electrode bytes. -/
structure TomoAdm where
  ts : Nat
  y  : List (Int × Int)
  n  : List Nat
  el : List Nat
deriving DecidableEq, Repr

/-- A frame whose kernel runs (R136 to R139): its boundary, the core it runs on (R166), the timebase values at which the kernel
ends at the earliest and the next boundary falls, and what the kernel will issue. -/
structure TomoRun where
  ts    : Nat
  core  : Nat
  due   : Nat
  limit : Nat
  pix   : List Int
  perm  : List Nat
  resid : Nat
  disc  : Nat
  iter  : Nat
  row   : Nat              -- row of the *Method selection* table
  part  : Bool
  unk   : Bool
  high  : Bool             -- RESID above RES_MAX
  thr   : Bool
  temp  : Option Int
deriving DecidableEq, Repr

/-- One ring (R123 to R146) beside its registers: the last frame boundary, the kernel running, the ADMIT received, whether
the last frame was delivered, lost to Rime, or its ADMIT received in time, whether the module that acquires a remote ring
throttles it (R130), the temperature state of R117, whether CAL_E
and CAL_F are present, the calibration in progress, the map record being averaged (R145), and the set-up (R144: 0 none,
1 sent, 2 acknowledged). -/
structure TomoCh where
  last    : Nat
  run     : Option TomoRun
  adm     : Option TomoAdm
  good    : Bool
  lostR   : Bool
  admOk   : Bool
  rthr    : Bool
  tSeen   : Bool
  tLost   : Bool
  tRep    : Bool
  tFrom   : Option Nat
  hasE    : Bool
  hasF    : Bool
  calOp   : Nat
  calN    : Nat
  calUsed : Nat
  calFrom : Nat
  calSum  : List Int
  mapAt   : Nat
  mapSum  : List Int
  mapCnt  : Nat
  mapFlag : Nat
  mapTemp : Int × Nat
  setup   : Nat
  setupAt : Nat
  region  : Int            -- highest mean of a 3 × 3 region of the last map (R199, R326)
deriving DecidableEq, Repr

/-- Tomography (06): the rings, and the plans this module acquires for others. -/
structure TomoDyn where
  ch    : List TomoCh      -- 12
  plans : List TomoPlan
deriving DecidableEq, Repr

/-- What the module sends on the Floe ports, the cross-link and the Rime ports: frames of its own in bytes (port 0 east, 1 west, 2
cross-link), Rime frames in bytes toward a slot, forwarded frames and those an optical bypass lets through by their header (a
forwarded TIME frame with what is added to CORR), and the announcements, STATE records and relayed requests, whose byte layout
the spec does not state (log entry 47). -/
inductive NetMsg where
  | frame (port : Nat) (bytes : List Byte)
  | rime (slot : Nat) (bytes : List Byte)
  | forward (port : Nat) (h : FloeHdr) (corr : Nat)
  | pass (port : Nat) (h : FloeHdr)
  | announce (state claim hash : Nat)
  | unit (cycle : Nat) (u : PairUnit)
  | write (cycle e : Nat) (items : List (Attr × AVal)) (session reqId : Nat)
  | mode (cycle e mode cause : Nat)
  | values (cycle e : Nat) (vals : List (Attr × AVal)) (mode : Nat) (overlay : Overlay)
  | commit (cycle records : Nat)
  | ack (cycle : Nat)
  | handover (cycle s dur : Nat)
  | relay (node level typ reqId : Nat) (payload : List Byte)
  | relayResp (node reqId status : Nat) (payload : List Byte)
deriving DecidableEq, Repr

/-- A BULK frame waiting for its acknowledgement (R304). -/
structure BulkOut where
  dst    : Nat
  seq    : Nat
  sentAt : Nat
  data   : List Byte
deriving DecidableEq, Repr

/-- Floe and Rime (14): this boot's tag; the cycle in progress and whether its gather instant and command instant are past;
the CFG in force (a write applies at a cycle start); delay measurements of the three ports, newest first; nodes heard in
this cycle and the reach table (node, port, hops); accepted frames of dual-path classes; whether an own frame came back;
the SNAPSHOT latched; its echo entries; accepted sections; the last cycle applied; the last cycles with a late SNAPSHOT
and a late section; the SNAPSHOT lengths heard (node, port, wire bytes); whether the budget is exceeded; the highest TIME
claim heard, its cycle; heads heard with a claim (node, cycle); unacknowledged BULK frames; queue number of the next
record to send; the offset of a SYNC. -/
structure FloeDyn where
  tag     : Nat
  cycle   : Option Nat
  gath    : Bool
  cmdd    : Bool
  launched : Bool
  cfg     : Nat
  delays  : List (List Nat)
  heard   : List (Nat × Nat × Nat)
  reach   : List (Nat × Nat × Nat)
  seen    : List (Nat × Nat × Nat × Nat × Nat)
  back    : Bool
  latch   : List SnapEnt
  echo    : List (Nat × Nat)
  sects   : List Sect
  lastN   : Option Nat
  lateSn  : Option Nat
  lateSe  : Option Nat
  snaps   : List (Nat × Nat × Nat)
  low     : Bool
  master  : Option (Nat × Nat)
  heads   : List (Nat × Nat)
  bulk    : List BulkOut
  evNext  : Nat
  syncAt  : Nat             -- the 10 ms period of the Rime master's last SYNC (R318)
  retrain : List Nat        -- raw times the Rime ports last went down or retrained
  bc      : Nat             -- wire bytes of the last COMMAND bundles of this head
  lx      : Nat             -- its longest section
  drops   : List (Nat × Nat × Nat)  -- port, class and raw time of the last drop of each queue
  copy    : Option (Nat × Nat)      -- cycle and hops of the TIME copy taken last
  seqs    : List Nat                -- next SEQ of each class (R303)
  evOut   : List EvRec              -- records that have left the queue and not yet gone to the HEADs (R93)
deriving DecidableEq, Repr

/-- A delta of the state copy being received (R330): its cycle, the records that have come, and whether its COMMIT passed. -/
structure Delta where
  cycle  : Nat
  count  : Nat
  units  : List PairUnit
  reqs   : List (Nat × List (Attr × AVal) × Nat × Nat)      -- E, items, session, request ID
  modes  : List (Nat × Nat × Nat)                           -- E, mode, cause
  values : Option (Nat × List (Attr × AVal) × Nat × Overlay) -- E, attributes, mode, overlay
  hand   : Option (Nat × Nat)                               -- S, duration
deriving DecidableEq, Repr

/-- A pair-scope request the active head has accepted (R334): its delta, its effect cycle, its items, where the response
goes (entry 4: nowhere), and whether it has been answered. -/
structure PairReq where
  d      : Nat
  e      : Nat
  items  : List (Attr × AVal)
  entry  : Nat
  handle : Nat
  seq    : Nat
  reqId  : Nat
  yhp    : Bool
  done   : Bool
deriving DecidableEq, Repr

/-- The pair (15). -/
structure PairDyn where
  heardAt : Option Nat        -- cycle in which the partner was last heard
  from'   : Nat               -- cycle the silence is counted from
  partner : Nat               -- partner's state as last announced
  pclaim  : Nat               -- the highest claim heard from it since boot
  peState : Option Nat        -- state to enter at the next cycle start
  closed  : Option Nat        -- last delta closed
  recs    : Nat               -- records in the open delta
  reqs    : List PairReq      -- accepted, not yet at their cycle
  modeAt  : Option (Nat × Nat × Nat)   -- a mode change under way: E, mode, cause
  deltas  : List Delta        -- received and not committed
  units   : List PairUnit     -- of committed deltas, not yet adopted
  writes  : List (Nat × List (Attr × AVal) × Nat × Nat)   -- committed, not yet at their cycle
  values  : Option (Nat × List (Attr × AVal) × Nat × Overlay)
  gotVals : Bool              -- VALUES adopted since JOINING
  gotCls  : List Nat          -- classes of which a UNIT has been adopted since JOINING
  copyBad : Bool              -- a unit was stale or a delta discarded since the last one adopted
  sendVals : Bool             -- VALUES are to be sent
  old     : List (Nat × Nat × Nat)  -- delta, session and request ID of the writes of the last 64 deltas (R335)
  hand    : Option (Nat × Nat × Bool) -- a handover: cycle S, duration in min, whether this head gives the claim
  drillTo : Option Nat        -- timebase value the running drill ends at
  drillDur : Nat              -- its DUR
  drilled : Bool              -- this head drives by a drill
  missEv  : Bool              -- a miss has been reported since the last section applied
deriving DecidableEq, Repr

/-- What a class D sample latches for one line (R180, step 1): the boundary, the counts of the motion and unload counters,
the valid ambient values, each zone's air temperature, RH and Q (0.1 m³/h) where valid, FILL_SW, the HEAT_FLT inputs, the
rate, and the mode. -/
structure LineIn where
  l     : Nat
  ts    : Nat
  cnt   : Option Int
  cnt2  : Option Int
  ambT  : Option Int
  ambRh : Option Int
  zones : List (Option Int × Option Int × Int)
  fillL : Bool             -- FILL_SW low with FILL_EN
  flt   : List Bool
  rate  : Int
  run   : Bool
  baro  : Nat              -- Pa
deriving DecidableEq, Repr

/-- The drying model (08): the lines, the inputs of the class D sample in progress, and the checkpoint copy being written
with its ring time. -/
structure LineDyn where
  ch   : List LineCh       -- 8
  inp  : List LineIn
  copy : Option (Nat × List (Nat × LineCh))
deriving DecidableEq, Repr

/-- One thermal zone beside its status (R294, R296): the warning, the raw time of the last step down while at or above H,
since when below H − Y (or of the last release), and since when below S − Y while shut down. -/
structure ThermZone where
  warn    : Bool
  hotAt   : Option Nat
  coolAt  : Option Nat
  clearAt : Option Nat
deriving DecidableEq, Repr

/-- The thermal zones (13). -/
structure ThermDyn where
  zn : List ThermZone      -- 23
deriving DecidableEq, Repr

/-- What makes the machine stop: nothing. The spec gives every command of the table an effect, and a command that names what the
machine does not have finds nothing to act on or is refused with 0x0102 (log entry 9). Safe: no stop is claimed. -/
inductive Fault where
deriving DecidableEq, Repr

/-- What the model refuses. -/
inductive Refusal where
  /-- The command has no meaning in the model yet; only Dispatch.lean raises it. Safe: nothing follows from it. -/
  | notModelled (mnemonic : String)
deriving DecidableEq, Repr

/-- A channel as the field side starts it (R272). -/
def dioCh0 : DioCh :=
  { cfgF := 0, swAt := 0, filt := false, cnt := 0, chg := none, wb := false, want := false, ovl := false, ovlRun := 0, retryAt := 0,
    onSince := 0, latched := false, rb := false, pm := false, manSet := false, offNext := false, lineOn := none }

/-- A group as its field side starts (R272). -/
def dioGrp0 : DioGrp :=
  { cfgF := 0, first := false, badRun := 0, lostFrames := 0, pattern := false, uv := false, low := false, ot := false, maskSeq := 0, ackSeq := 0,
    mask := 0, fbit := false, chgTs := 0, retrainAt := 0 }

/-- The field I/O with every field side without power. -/
def dioInit : DioDyn := { ch := List.replicate 96 dioCh0, grp := List.replicate 6 dioGrp0 }

/-- A channel after power-on. -/
def valveCh0 : ValveCh :=
  { want := 0, out := 0, req := none, piFrom := none, piVb := false, hold := false, resv := false, openOff := false, openOn := false,
    autoClr := [], manSet := false, fullFrom := none, target := 0, dithFrom := none }

/-- The boost account's capacity, 4320 mJ in units of 10 nJ (R241). -/
abbrev boostCap : Nat := 432000000

/-- The valve banks after power-on: everything off, the boost account full (R241). -/
def valveInit : ValveDyn := { ch := List.replicate 24 valveCh0, acc := boostCap, accAt := 0, boostW := false }

/-- A channel after boot. -/
def feCh0 : FeCh :=
  { t0 := 0, ivl := 0, m := 0, held := [], pend := none, fault := 0, faultAt := 0, testAt := 0, tested := false, ovl := false,
    meth := 0, tSeen := false, tLost := false, tRep := false, tFrom := none, delivAt := none, hist := [] }

/-- The front end after boot. -/
def feInit : FeDyn := { ch := List.replicate 48 feCh0, linkAt := [none, none, none], aoOn := [], aoInv := [] }

/-- An input after power-on: its lines low, nothing seen (log entry 27). -/
def encCh0 : EncCh :=
  { a := false, b := false, z := false, tA := none, tB := none, hall := 0, count := 0, rc := 0, run := [],
    dirNeg := false, tL := none, still := true, terr := [], preset := none, del := (0, 0) }

/-- An emulation output that is not enabled. -/
def emuCh0 : EmuCh := { p0 := 0, org := 0, out := 0, edgeAt := 0, dropped := false, hold := 0 }

/-- Position and speed after power-on. -/
def encInit : EncDyn := { ch := List.replicate 8 encCh0, emu := List.replicate 4 emuCh0 }

/-- An axis after boot. -/
def axCh0 : AxCh :=
  { ref := 0, theta := 0, cont := false, at' := 0, catchAt := 0, waitEnd := 0, against := false, gateNs := 0, autoClr := [],
    curFrom := none, known := false, est := 0, duty := (0, 0, 0), next := (0, 0, 0), curCmd := (0, 0), cfgNext := none, sumT := 0, sumN := 0, cnt := 0,
    angle := 0, manSet := false, airV := false }

/-- The drives after boot. -/
def axisInit : AxisDyn := { ch := List.replicate 12 axCh0, baroAt := 0 }

/-- A loop that does not run. -/
def loopCh0 : LoopCh :=
  { run := false, eff := 7, ent := false, wsp := 0, y := 0, st := [], ramp := false, inBad := false, forced := false, handOv := false,
    man := 0, trkBad := false, msBad := false, swapAt := none, plSt := [], plOff := 0, plCnt := 0, armed := false, modeBy := 1 }

/-- The loop engine after boot. -/
def seracInit : SeracDyn :=
  { loops := List.replicate 256 loopCh0, cls := List.replicate 4 ⟨0, none, [], [], 0, 0, 0⟩, axIn := [],
    place := ⟨[], [], []⟩ }

/-- A ring after boot. -/
def tmCh0 : TomoCh :=
  { last := 0, run := none, adm := none, good := false, lostR := false, admOk := false, rthr := false, tSeen := false,
    tLost := false, tRep := false, tFrom := none, hasE := false, hasF := false, calOp := 0, calN := 0, calUsed := 0, calFrom := 0, calSum := [],
    mapAt := 0, mapSum := [], mapCnt := 0, mapFlag := 0, mapTemp := (0, 0), setup := 0, setupAt := 0, region := 0 }

/-- Tomography after boot. -/
def tomoInit : TomoDyn := { ch := List.replicate 12 tmCh0, plans := [] }

/-- A VOID position. -/
def parcelVoid : Parcel :=
  { tsEntry := 0, serial := 0, m := 0, mIn := 0, corr := 0, theta := 0, crop := 0, flags := 1, zt := [0, 0, 0, 0], dm := 0,
    meas := none }

/-- A line with nothing in it. -/
def lineCh0 : LineCh :=
  { pos := [], exitB := [], retB := [], ofs := 0, ofs2 := 0, cnt := none, cnt2 := none, lastTs := 0, serial := 0,
    inflow := [], inVals := [], gtVals := [], obsVals := [], occFrom := 0, lastExT := 0, lastOut := none, lastObs := 0,
    staticD := false, asked := [], rejRun := 0, capPrev := false, ambT := none, ambRh := none, step := 0, pend := none,
    stepT := 0, emptyT := 0, airT := 0, holdT := [0, 0, 0, 0, 0, 0, 0], holdNow := [], latch := [], winC := none,
    winD := none, revRun := 0, lastCrp := none, cropSer := none, cropFe := none, cropObs := none, cropEnd := none,
    hist := [], hotSrc := [], hotNew := [], sig := 0, sigRun := 0, own := [], limPrev := 0 }

/-- The lines before any image. -/
def lineInit : LineDyn := { ch := List.replicate 8 lineCh0, inp := [], copy := none }

/-- A zone right after reset (R294). -/
def thZone0 : ThermZone := { warn := false, hotAt := none, coolAt := none, clearAt := none }

/-- The zones right after reset. -/
def thermInit : ThermDyn := { zn := List.replicate 23 thZone0 }

/-- An empty session entry. -/
def sessFree : Sess :=
  { st := .free, handle := 0, level := 0, prov := false, slot := 0, ip := 0, port := 0, lastAt := 0, openedAt := 0,
    key := [], seqAcc := 0, seqAns := 0, resps := [], held := [], tagFails := 0, seg := none, query := none, stream := none }

/-- A write, or a command of the pair scope at a head without a partner, that is accepted and whose instant has not come (R175,
R334): the attribute, what it is written with, the session entry that asked for a command (4 for none), and the value of the
timebase from which it may take effect. -/
structure LateW where
  a     : Attr
  v     : AVal
  entry : Nat
  due   : Nat
deriving DecidableEq, Repr

/-- Everything the block holds beside the queue of waiting commands. -/
structure Block where
  regs    : AMap Nat
  tabs    : AMap Table
  phase   : Phase
  clk     : Clk
  time    : TimeDyn
  supply  : Supply
  key     : Option KeyDev
  mram    : Mram
  img     : ImgDyn
  stage   : StageDyn
  rst     : ResetDyn
  mode    : ModeDyn
  evq     : EvQueue
  ringq   : EvQueue
  firn    : FirnDyn
  host    : HostDyn
  dio     : DioDyn
  valve   : ValveDyn
  fe      : FeDyn
  enc     : EncDyn
  axis    : AxisDyn
  remote  : List RemVal        -- published values of other nodes
  serac   : SeracDyn
  echo    : List EchoVal
  tomo    : TomoDyn
  net     : List NetMsg        -- sent on the ring, the cross-link and Rime, newest first
  line    : LineDyn
  floe    : FloeDyn
  pair    : PairDyn
  therm   : ThermDyn
  late    : List LateW       -- accepted writes and lone-head commands whose instant has not come (R175, R334)
  vol     : List Attr          -- attributes a host has written since the last commit and no reset has dropped (R79)
  fresh   : Nat                -- the model's own counter of free values drawn (log entry 4)
deriving DecidableEq, Repr

/-- The clocks before power. -/
def clkInit : Clk := { raw := 0, tb := 0, rtcSub := 0, slew := 0, gap := 999 }

/-- The timebase servo after boot. -/
def timeInit : TimeDyn :=
  { lockRun := 0, lockCyc := 0, lastFrame := 0, switching := none, tcxoForced := false, holdSince := 0, refHeld := false, refLost := false,
    unsFrom := 0 }

/-- Supply supervision without supply. -/
def supplyInit : Supply := { vbFailAt := none, vbRestartAt := none, vbLatched := false, usFed := false, esupPrev := 0, rstLow := false }

/-- MRAM as shipped (R62, log entry 8). -/
def mramInit : Mram :=
  { auth := [[], [], [], []], overlay := ⟨0, []⟩, pfRec := [], pfSeq := 0, ckpt := [none, none], pfUsed := 0,
    clkFault := none, encSaved := List.replicate 8 0, fanHours := List.replicate 12 0, sdRing := [], sdSeq := 0,
    sdNew := none, sdLatched := [] }

/-- No image applied. -/
def imgInit : ImgDyn :=
  { role := 1, node := 0, keySlot := 0, svn := 0, hash := 0, tried := [], narrow := [], imgRegs := [], imgTabs := [],
    defined := [] }

/-- No staging open. -/
def stageInit : StageDyn := { owner := none, imgLen := 0, lastAt := 0, erased := false, recErrs := 0, verified := false }

/-- The reset a power-on makes. -/
def rstInit : ResetDyn :=
  { kind := .por, fromDeep := 0, keepHash := 0, keepVals := [], wdCheck := 0, pllFault := false, sdWait := 0 }

/-- The mode machine in BOOT. -/
def modeInit : ModeDyn :=
  { cmd := none, fbWd := false, fbHeads := false, fbCmd := false, fbSect := false, fbLatch := false, ownerGone := false,
    sectMode := none, persistOp := none, standbyMode := none }

/-- An empty event queue. -/
def evqInit : EvQueue := { q := [], nextNum := 0, lostCnt := 0, lostTs := 0 }

/-- Firn with empty partitions. -/
def firnInit : FirnDyn :=
  { events := [], parcels := [], maps := [], trends := [], wrapped := [], replay := false, accs := [] }

/-- The host port with no session. -/
def hostInit : HostDyn :=
  { sess := List.replicate 4 sessFree, netCfg := 0, cfgAt := none, wdFrom := 0, mb := [], relays := [], rseg := none, lapsed := [], tx := [], out := [], wire := [] }

/-- Floe and Rime before boot. -/
def floeInit : FloeDyn :=
  { tag := 0, cycle := none, gath := false, cmdd := false, launched := false, cfg := 0, delays := [[], [], []], heard := [],
    reach := [], seen := [], back := false, latch := [], echo := [], sects := [], lastN := none, lateSn := none,
    lateSe := none, snaps := [], low := false, master := none, heads := [], bulk := [], evNext := 0,
    retrain := [0, 0, 0], bc := 0, lx := 0, drops := [], copy := none, seqs := List.replicate 8 0, evOut := [], syncAt := 0 }

/-- The pair before boot. -/
def pairInit : PairDyn :=
  { heardAt := none, from' := 0, partner := 0, pclaim := 0, peState := none, closed := none, recs := 0, reqs := [],
    modeAt := none, deltas := [], units := [], writes := [], values := none, gotVals := false, gotCls := [],
    copyBad := false, sendVals := false, old := [], hand := none, drillTo := none, drillDur := 0, drilled := false, missEv := false }

/-- The machine before its first power-on reset: as shipped, without supply, every register at its value after reset
(log entries 2, 3 and 8). -/
def Block.reset : Block :=
  { regs := [], tabs := [], phase := .off, clk := clkInit, time := timeInit, supply := supplyInit, key := none,
    mram := mramInit, img := imgInit, stage := stageInit, rst := rstInit, mode := modeInit, evq := evqInit,
    ringq := evqInit, firn := firnInit, host := hostInit, dio := dioInit, valve := valveInit, fe := feInit, enc := encInit,
    axis := axisInit, remote := [], serac := seracInit, echo := [], tomo := tomoInit, net := [], line := lineInit, floe := floeInit, pair := pairInit,
    therm := thermInit, late := [], vol := [], fresh := 0 }

/-- The machine: the block and the commands that wait, first in, first out. -/
structure State extends Block where
  pending : List Instr
deriving DecidableEq, Repr

/-- The machine as shipped, nothing waiting. -/
def State.reset : State := { toBlock := Block.reset, pending := [] }

end Sys2Proof.Machine
end

