-- ==== Sys2Proof/Machine/Maps.lean ====
section
/-! DEFINITION. Machine/Maps.lean: reading and writing a sparse map over attributes, its canonical form, and the one
pair of accessors of the object registers. -/

namespace Sys2Proof.Machine

/-- Strict order of attribute keys: block, kind, index, attribute. -/
def attrLt (a b : Attr) : Bool :=
  a.blk < b.blk || (a.blk == b.blk && (a.kind < b.kind || (a.kind == b.kind &&
    (a.idx < b.idx || (a.idx == b.idx && a.att < b.att)))))

/-- The value listed for a key. -/
def amapFind {α : Type} : AMap α → Attr → Option α
  | [], _ => none
  | (k, v) :: r, a => if k = a then some v else amapFind r a

/-- The map without a key. -/
def amapErase {α : Type} : AMap α → Attr → AMap α
  | [], _ => []
  | (k, v) :: r, a => if k = a then amapErase r a else (k, v) :: amapErase r a

/-- The map with a key listed, at its place in the order. -/
def amapInsert {α : Type} : AMap α → Attr → α → AMap α
  | [], a, x => [(a, x)]
  | (k, v) :: r, a, x =>
    if k = a then (a, x) :: amapErase r a
    else if attrLt a k then (a, x) :: (k, v) :: amapErase r a
    else (k, v) :: amapInsert r a x

/-- Keys strictly rising. -/
def amapSorted {α : Type} : AMap α → Bool
  | [] => true
  | [_] => true
  | (k, _) :: (k', v') :: r => attrLt k k' && amapSorted ((k', v') :: r)

/-- Writes a register of a map: the value truncated to the attribute's width; writing the reset value removes the
entry. -/
def regsPut (m : AMap Nat) (a : Attr) (v : Nat) : AMap Nat :=
  if v % 2 ^ widthOf a = dfltOf a then amapErase m a else amapInsert m a (v % 2 ^ widthOf a)

/-- Reads a register of a map: its listed value, else its reset value. -/
def regsGet (m : AMap Nat) (a : Attr) : Nat := (amapFind m a).getD (dfltOf a)

/-- The canonical form of the object registers. -/
def regsWf (m : AMap Nat) : Bool := amapSorted m && m.all (fun e => e.2 != dfltOf e.1)

/-- The value an attribute holds. -/
def Block.get (s : Block) (a : Attr) : Nat := regsGet s.regs a

/-- The machine with an attribute written. -/
def Block.put (s : Block) (a : Attr) (v : Nat) : Block := { s with regs := regsPut s.regs a v }

/-- A field of an attribute. -/
def Block.fget (s : Block) (a : Attr) (hi lo : Nat) : Nat := fld (s.get a) hi lo

/-- The machine with a field of an attribute written. -/
def Block.fput (s : Block) (a : Attr) (hi lo x : Nat) : Block := s.put a (setFld (s.get a) hi lo x)

/-- A bit of an attribute. -/
def Block.bit (s : Block) (a : Attr) (k : Nat) : Bool := bitAt (s.get a) k

/-- The machine with a bit of an attribute written. -/
def Block.putBit (s : Block) (a : Attr) (k : Nat) (b : Bool) : Block := s.fput a k k (b2n b)

/-- A counter field of an attribute after one more count, saturating at the field's width. -/
def Block.countUp (s : Block) (a : Attr) (hi lo : Nat) : Block := s.fput a hi lo (satInc (hi + 1 - lo) (s.fget a hi lo))

/-- The table an attribute holds, if any. -/
def Block.tab (s : Block) (a : Attr) : Option Table := amapFind s.tabs a

/-- The machine with a table attribute written. -/
def Block.putTab (s : Block) (a : Attr) (t : Table) : Block := { s with tabs := amapInsert s.tabs a t }

/-- The machine with a table attribute absent. -/
def Block.dropTab (s : Block) (a : Attr) : Block := { s with tabs := amapErase s.tabs a }

end Sys2Proof.Machine
end

