-- ==== Sys2Proof/Machine/Names.lean ====
section
/-! DEFINITION. Machine/Names.lean: the attributes by name, and readings of the status words every chapter uses. -/

namespace Sys2Proof.Machine

abbrev devSupply : Attr := ⟨1, 0, 0, 0x040⟩
abbrev devUsMv : Attr := ⟨1, 0, 0, 0x041⟩
abbrev devHoldMv : Attr := ⟨1, 0, 0, 0x042⟩
abbrev devVrefMv : Attr := ⟨1, 0, 0, 0x043⟩
abbrev devVboostMv : Attr := ⟨1, 0, 0, 0x044⟩
abbrev devEsupEn : Attr := ⟨1, 0, 0, 0x045⟩
abbrev devPfCount : Attr := ⟨1, 0, 0, 0x046⟩
abbrev devPfLast : Attr := ⟨1, 0, 0, 0x047⟩
abbrev devIdent : Attr := ⟨1, 0, 0, 0x010⟩
abbrev dev0 : Attr := ⟨1, 0, 0, 0⟩
abbrev timeState : Attr := ⟨2, 0, 0, 0x010⟩
abbrev timeNow : Attr := ⟨2, 0, 0, 0x011⟩
abbrev timeOffset : Attr := ⟨2, 0, 0, 0x012⟩
abbrev timeSet : Attr := ⟨2, 0, 0, 0x020⟩
abbrev timeRefSel : Attr := ⟨2, 0, 0, 0x030⟩
abbrev timeHold : Attr := ⟨2, 0, 0, 0x031⟩
abbrev timeRtc : Attr := ⟨2, 0, 0, 0x040⟩
abbrev time0 : Attr := ⟨2, 0, 0, 0⟩
abbrev imgStatus : Attr := ⟨3, 0, 0, 0x010⟩
abbrev imgSlot (k : Nat) : Attr := ⟨3, 0, 0, 0x012 + k⟩
abbrev imgHash : Attr := ⟨3, 0, 0, 0x014⟩
abbrev imgErrCount : Attr := ⟨3, 0, 0, 0x015⟩
abbrev imgErrList : Attr := ⟨3, 0, 0, 0x016⟩
abbrev imgKeyInfo : Attr := ⟨3, 0, 0, 0x018⟩
abbrev imgStageCtrl : Attr := ⟨3, 0, 0, 0x020⟩
abbrev imgStageData : Attr := ⟨3, 0, 0, 0x022⟩
abbrev imgStage : Attr := ⟨3, 0, 0, 0x023⟩
abbrev imgKeyCmd : Attr := ⟨3, 0, 0, 0x030⟩
abbrev imgKey (k : Nat) : Attr := ⟨3, 0, 0, 0x031 + k⟩
abbrev imgSvnFloor : Attr := ⟨3, 0, 0, 0x035⟩
abbrev img0 : Attr := ⟨3, 0, 0, 0⟩
abbrev modeState : Attr := ⟨4, 0, 0, 0x010⟩
abbrev modeLast : Attr := ⟨4, 0, 0, 0x011⟩
abbrev modeRstCause : Attr := ⟨4, 0, 0, 0x012⟩
abbrev modeRstCount : Attr := ⟨4, 0, 0, 0x013⟩
abbrev modeReady : Attr := ⟨4, 0, 0, 0x014⟩
abbrev modeFailed : Attr := ⟨4, 0, 0, 0x015⟩
abbrev modeCmd : Attr := ⟨4, 0, 0, 0x020⟩
abbrev modeAutoResume : Attr := ⟨4, 0, 0, 0x030⟩
abbrev modeHoldFan : Attr := ⟨4, 0, 0, 0x031⟩
abbrev modeWake : Attr := ⟨4, 0, 0, 0x032⟩
abbrev modePersistCmd : Attr := ⟨4, 0, 0, 0x040⟩
abbrev modePersist : Attr := ⟨4, 0, 0, 0x041⟩
abbrev mode0 : Attr := ⟨4, 0, 0, 0⟩
abbrev evtStat : Attr := ⟨0x11, 0, 0, 0x010⟩
abbrev evtLost : Attr := ⟨0x11, 0, 0, 0x011⟩
abbrev evtOldest : Attr := ⟨0x11, 0, 0, 0x012⟩
abbrev evt0 : Attr := ⟨0x11, 0, 0, 0⟩
abbrev hostStat : Attr := ⟨0x10, 0, 0, 0x010⟩
abbrev hostSessions : Attr := ⟨0x10, 0, 0, 0x012⟩
abbrev hostCount : Attr := ⟨0x10, 0, 0, 0x015⟩
abbrev hostCfg : Attr := ⟨0x10, 0, 0, 0x020⟩
abbrev hostWd : Attr := ⟨0x10, 0, 0, 0x021⟩
abbrev hostWdStat : Attr := ⟨0x10, 0, 0, 0x022⟩
abbrev hostAuth (k : Nat) : Attr := ⟨0x10, 0, 0, 0x030 + k⟩
abbrev hostAuthCmd : Attr := ⟨0x10, 0, 0, 0x038⟩
abbrev hostMbMap : Attr := ⟨0x10, 0, 0, 0x040⟩
abbrev host0 : Attr := ⟨0x10, 0, 0, 0⟩
abbrev firnStat : Attr := ⟨0x12, 0, 0, 0x010⟩
abbrev firnPart : Attr := ⟨0x12, 0, 0, 0x011⟩
abbrev firnTrend : Attr := ⟨0x12, 0, 0, 0x020⟩
abbrev firn0 : Attr := ⟨0x12, 0, 0, 0⟩

abbrev dioStat (n : Nat) : Attr := ⟨0xB, 0, n, 0x010⟩
abbrev dioValue (n : Nat) : Attr := ⟨0xB, 0, n, 0x011⟩
abbrev dioCount (n : Nat) : Attr := ⟨0xB, 0, n, 0x015⟩
abbrev dioCfg (n : Nat) : Attr := ⟨0xB, 0, n, 0x020⟩
abbrev dioSp (n : Nat) : Attr := ⟨0xB, 0, n, 0x030⟩
abbrev dioMan (n : Nat) : Attr := ⟨0xB, 0, n, 0x031⟩
abbrev dioObj (n : Nat) : Attr := ⟨0xB, 0, n, 0⟩
abbrev dgStat (g : Nat) : Attr := ⟨0xB, 1, g, 0x010⟩
abbrev dgValues (g : Nat) : Attr := ⟨0xB, 1, g, 0x011⟩
abbrev dgCount (g : Nat) : Attr := ⟨0xB, 1, g, 0x015⟩
abbrev dgCfg (g : Nat) : Attr := ⟨0xB, 1, g, 0x020⟩
abbrev dgMask (g : Nat) : Attr := ⟨0xB, 1, g, 0x021⟩
abbrev dgProbe (g : Nat) : Attr := ⟨0xB, 1, g, 0x022⟩
abbrev dgCmd (g : Nat) : Attr := ⟨0xB, 1, g, 0x038⟩
abbrev dgObj (g : Nat) : Attr := ⟨0xB, 1, g, 0⟩
abbrev swStat (k : Nat) : Attr := ⟨5, 2, k, 0x010⟩
abbrev swCfg (k : Nat) : Attr := ⟨5, 2, k, 0x020⟩
abbrev swPoints (k : Nat) : Attr := ⟨5, 2, k, 0x021⟩
abbrev swObj (k : Nat) : Attr := ⟨5, 2, k, 0⟩

abbrev vlvStat (n : Nat) : Attr := ⟨0xA, 0, n, 0x010⟩
abbrev vlvValues (n : Nat) : Attr := ⟨0xA, 0, n, 0x011⟩
abbrev vlvCount (n : Nat) : Attr := ⟨0xA, 0, n, 0x015⟩
abbrev vlvCfg (n : Nat) : Attr := ⟨0xA, 0, n, 0x020⟩
abbrev vlvShape (n : Nat) : Attr := ⟨0xA, 0, n, 0x021⟩
abbrev vlvSp (n : Nat) : Attr := ⟨0xA, 0, n, 0x030⟩
abbrev vlvMan (n : Nat) : Attr := ⟨0xA, 0, n, 0x031⟩
abbrev vlvCmd (n : Nat) : Attr := ⟨0xA, 0, n, 0x038⟩
abbrev vlvObj (n : Nat) : Attr := ⟨0xA, 0, n, 0⟩
abbrev bnkStat (b : Nat) : Attr := ⟨0xA, 1, b, 0x010⟩
abbrev bnkValues (b : Nat) : Attr := ⟨0xA, 1, b, 0x011⟩
abbrev bnkCfg (b : Nat) : Attr := ⟨0xA, 1, b, 0x020⟩
abbrev bnkCmd (b : Nat) : Attr := ⟨0xA, 1, b, 0x038⟩
abbrev bnkObj (b : Nat) : Attr := ⟨0xA, 1, b, 0⟩
abbrev vlvPool : Attr := ⟨0xA, 1, 0, 0x040⟩
abbrev thStat (k : Nat) : Attr := ⟨0xD, 0, k, 0x010⟩
abbrev thValue (k : Nat) : Attr := ⟨0xD, 0, k, 0x011⟩
abbrev thNtc (k : Nat) : Attr := ⟨0xD, 0, k, 0x020⟩
abbrev tzStat (z : Nat) : Attr := ⟨0xD, 1, z, 0x010⟩
abbrev tzCount (z : Nat) : Attr := ⟨0xD, 1, z, 0x015⟩
abbrev tzSdLast (z : Nat) : Attr := ⟨0xD, 1, z, 0x016⟩
abbrev tzCfg (z : Nat) : Attr := ⟨0xD, 1, z, 0x020⟩
abbrev tzCmd (z : Nat) : Attr := ⟨0xD, 1, z, 0x038⟩
abbrev tzObj (z : Nat) : Attr := ⟨0xD, 1, z, 0⟩
abbrev tzSdModule : Attr := ⟨0xD, 1, 0, 0x040⟩

abbrev feStat (n : Nat) : Attr := ⟨5, 0, n, 0x010⟩
abbrev feValue (n : Nat) : Attr := ⟨5, 0, n, 0x011⟩
abbrev feLast (n : Nat) : Attr := ⟨5, 0, n, 0x012⟩
abbrev feIq (n : Nat) : Attr := ⟨5, 0, n, 0x013⟩
abbrev feCnt (n : Nat) : Attr := ⟨5, 0, n, 0x015⟩
abbrev feType (n : Nat) : Attr := ⟨5, 0, n, 0x020⟩
abbrev feDrive (n : Nat) : Attr := ⟨5, 0, n, 0x021⟩
abbrev feTones (n : Nat) : Attr := ⟨5, 0, n, 0x022⟩
abbrev feRate (n : Nat) : Attr := ⟨5, 0, n, 0x023⟩
abbrev feMon (n : Nat) : Attr := ⟨5, 0, n, 0x024⟩
abbrev feLin (n : Nat) : Attr := ⟨5, 0, n, 0x025⟩
abbrev feNorm (n : Nat) : Attr := ⟨5, 0, n, 0x026⟩
abbrev feCell (n : Nat) : Attr := ⟨5, 0, n, 0x027⟩
abbrev feLimits (n : Nat) : Attr := ⟨5, 0, n, 0x028⟩
abbrev fePoly (n : Nat) : Attr := ⟨5, 0, n, 0x029⟩
abbrev fePwl (n : Nat) : Attr := ⟨5, 0, n, 0x02A⟩
abbrev feCal (n : Nat) : Attr := ⟨5, 0, n, 0x030⟩
abbrev feObj (n : Nat) : Attr := ⟨5, 0, n, 0⟩
abbrev fgStat (g : Nat) : Attr := ⟨5, 1, g, 0x010⟩
abbrev fgRestart (g : Nat) : Attr := ⟨5, 1, g, 0x020⟩
abbrev fgObj (g : Nat) : Attr := ⟨5, 1, g, 0⟩
abbrev aoStat (n : Nat) : Attr := ⟨0x14, 0, n, 0x010⟩
abbrev aoCfg (n : Nat) : Attr := ⟨0x14, 0, n, 0x020⟩
abbrev aoSpan (n : Nat) : Attr := ⟨0x14, 0, n, 0x021⟩
abbrev aoObj (n : Nat) : Attr := ⟨0x14, 0, n, 0⟩
abbrev cropStat (c : Nat) : Attr := ⟨0x13, 0, c, 0x010⟩
abbrev cropSet (c : Nat) : Attr := ⟨0x13, 0, c, 0x020⟩
abbrev cropPoly (c : Nat) : Attr := ⟨0x13, 0, c, 0x021⟩
abbrev cropPwl (c : Nat) : Attr := ⟨0x13, 0, c, 0x022⟩

abbrev encStat (n : Nat) : Attr := ⟨0xC, 0, n, 0x010⟩
abbrev encValues (n : Nat) : Attr := ⟨0xC, 0, n, 0x011⟩
abbrev encIdx (n : Nat) : Attr := ⟨0xC, 0, n, 0x013⟩
abbrev encCount (n : Nat) : Attr := ⟨0xC, 0, n, 0x015⟩
abbrev encCfg (n : Nat) : Attr := ⟨0xC, 0, n, 0x020⟩
abbrev encTiming (n : Nat) : Attr := ⟨0xC, 0, n, 0x021⟩
abbrev encPreset (n : Nat) : Attr := ⟨0xC, 0, n, 0x030⟩
abbrev encCmd (n : Nat) : Attr := ⟨0xC, 0, n, 0x038⟩
abbrev encObj (n : Nat) : Attr := ⟨0xC, 0, n, 0⟩
abbrev emuStat (n : Nat) : Attr := ⟨0xC, 1, n, 0x010⟩
abbrev emuValues (n : Nat) : Attr := ⟨0xC, 1, n, 0x011⟩
abbrev emuCount (n : Nat) : Attr := ⟨0xC, 1, n, 0x015⟩
abbrev emuCfg (n : Nat) : Attr := ⟨0xC, 1, n, 0x020⟩
abbrev emuRatio (n : Nat) : Attr := ⟨0xC, 1, n, 0x021⟩
abbrev emuLimit (n : Nat) : Attr := ⟨0xC, 1, n, 0x022⟩
abbrev emuCmd (n : Nat) : Attr := ⟨0xC, 1, n, 0x038⟩
abbrev emuObj (n : Nat) : Attr := ⟨0xC, 1, n, 0⟩
abbrev clsStat (n : Nat) : Attr := ⟨0x7, 2, n, 0x010⟩
abbrev clsCount (n : Nat) : Attr := ⟨0x7, 2, n, 0x011⟩
abbrev clsTime (n : Nat) : Attr := ⟨0x7, 2, n, 0x012⟩
abbrev clsCfg (n : Nat) : Attr := ⟨0x7, 2, n, 0x020⟩
abbrev clsCmd (n : Nat) : Attr := ⟨0x7, 2, n, 0x030⟩
abbrev clsObj (n : Nat) : Attr := ⟨0x7, 2, n, 0⟩

abbrev axStat (n : Nat) : Attr := ⟨9, 0, n, 0x010⟩
abbrev axValues (n : Nat) : Attr := ⟨9, 0, n, 0x011⟩
abbrev axAir (n : Nat) : Attr := ⟨9, 0, n, 0x012⟩
abbrev axCount (n : Nat) : Attr := ⟨9, 0, n, 0x015⟩
abbrev axHours (n : Nat) : Attr := ⟨9, 0, n, 0x016⟩
abbrev axCurLimit (n : Nat) : Attr := ⟨9, 0, n, 0x020⟩
abbrev axCfg (n : Nat) : Attr := ⟨9, 0, n, 0x021⟩
abbrev axPwm (n : Nat) : Attr := ⟨9, 0, n, 0x022⟩
abbrev axScale (n : Nat) : Attr := ⟨9, 0, n, 0x023⟩
abbrev axMotor (n : Nat) : Attr := ⟨9, 0, n, 0x024⟩
abbrev axSpeed (n : Nat) : Attr := ⟨9, 0, n, 0x025⟩
abbrev axCtrl (n : Nat) : Attr := ⟨9, 0, n, 0x026⟩
abbrev axStart (n : Nat) : Attr := ⟨9, 0, n, 0x027⟩
abbrev axProt (n : Nat) : Attr := ⟨9, 0, n, 0x028⟩
abbrev axAirCfg (n : Nat) : Attr := ⟨9, 0, n, 0x029⟩
abbrev axCurve (n : Nat) : Attr := ⟨9, 0, n, 0x02A⟩
abbrev axNtc (n : Nat) : Attr := ⟨9, 0, n, 0x02B⟩
abbrev axSp (n : Nat) : Attr := ⟨9, 0, n, 0x030⟩
abbrev axMan (n : Nat) : Attr := ⟨9, 0, n, 0x031⟩
abbrev axCmd (n : Nat) : Attr := ⟨9, 0, n, 0x038⟩
abbrev axObj (n : Nat) : Attr := ⟨9, 0, n, 0⟩
abbrev axsStat : Attr := ⟨9, 1, 0, 0x010⟩
abbrev axsBaro : Attr := ⟨9, 1, 0, 0x011⟩
abbrev axsBaroDef : Attr := ⟨9, 1, 0, 0x020⟩
abbrev axsObj : Attr := ⟨9, 1, 0, 0⟩
abbrev lpStat (n : Nat) : Attr := ⟨7, 0, n, 0x010⟩
abbrev lpValues (n : Nat) : Attr := ⟨7, 0, n, 0x011⟩
abbrev lpOut (n : Nat) : Attr := ⟨7, 0, n, 0x012⟩
abbrev lpCount (n : Nat) : Attr := ⟨7, 0, n, 0x015⟩
abbrev lpCfg (n : Nat) : Attr := ⟨7, 0, n, 0x020⟩
abbrev lpInputs (n : Nat) : Attr := ⟨7, 0, n, 0x021⟩
abbrev lpScale (n : Nat) : Attr := ⟨7, 0, n, 0x022⟩
abbrev lpLimits (n : Nat) : Attr := ⟨7, 0, n, 0x023⟩
abbrev lpRates (n : Nat) : Attr := ⟨7, 0, n, 0x024⟩
abbrev lpSp (n : Nat) : Attr := ⟨7, 0, n, 0x025⟩
abbrev lpSpSrc (n : Nat) : Attr := ⟨7, 0, n, 0x026⟩
abbrev lpTrackSrc (n : Nat) : Attr := ⟨7, 0, n, 0x027⟩
abbrev lpMode (n : Nat) : Attr := ⟨7, 0, n, 0x028⟩
abbrev lpManOut (n : Nat) : Attr := ⟨7, 0, n, 0x029⟩
abbrev lpRoute (n : Nat) : Attr := ⟨7, 0, n, 0x02A⟩
abbrev lpBankA (n : Nat) : Attr := ⟨7, 0, n, 0x030⟩
abbrev lpBankB (n : Nat) : Attr := ⟨7, 0, n, 0x031⟩
abbrev lpBankCmd (n : Nat) : Attr := ⟨7, 0, n, 0x032⟩
abbrev lpWitness (n : Nat) : Attr := ⟨7, 0, n, 0x033⟩
abbrev lpPlaus (n : Nat) : Attr := ⟨7, 0, n, 0x034⟩
abbrev lpCmd (n : Nat) : Attr := ⟨7, 0, n, 0x038⟩
abbrev lpObj (n : Nat) : Attr := ⟨7, 0, n, 0⟩
abbrev lnStat (n : Nat) : Attr := ⟨8, 0, n, 0x010⟩
abbrev lnValues (n : Nat) : Attr := ⟨8, 0, n, 0x011⟩
abbrev lnParcels (n : Nat) : Attr := ⟨8, 0, n, 0x012⟩
abbrev lnFlow (n : Nat) : Attr := ⟨8, 0, n, 0x013⟩
abbrev lnCount (n : Nat) : Attr := ⟨8, 0, n, 0x015⟩
abbrev lnCfg (n : Nat) : Attr := ⟨8, 0, n, 0x020⟩
abbrev lnObj (n : Nat) : Attr := ⟨8, 0, n, 0⟩

abbrev coreStat (n : Nat) : Attr := ⟨7, 1, n, 0x010⟩
abbrev coreObj (n : Nat) : Attr := ⟨7, 1, n, 0⟩
abbrev tmStat (n : Nat) : Attr := ⟨6, 0, n, 0x010⟩
abbrev tmSummary (n : Nat) : Attr := ⟨6, 0, n, 0x011⟩
abbrev tmMap (n : Nat) : Attr := ⟨6, 0, n, 0x012⟩
abbrev tmPerm (n : Nat) : Attr := ⟨6, 0, n, 0x013⟩
abbrev tmAdm (n : Nat) : Attr := ⟨6, 0, n, 0x014⟩
abbrev tmCount (n : Nat) : Attr := ⟨6, 0, n, 0x015⟩
abbrev tmCfg (n : Nat) : Attr := ⟨6, 0, n, 0x020⟩
abbrev tmElec (n : Nat) : Attr := ⟨6, 0, n, 0x021⟩
abbrev tmBand (n : Nat) : Attr := ⟨6, 0, n, 0x022⟩
abbrev tmPhases (n : Nat) : Attr := ⟨6, 0, n, 0x023⟩
abbrev tmFrame (n : Nat) : Attr := ⟨6, 0, n, 0x024⟩
abbrev tmRecon (n : Nat) : Attr := ⟨6, 0, n, 0x025⟩
abbrev tmCheck (n : Nat) : Attr := ⟨6, 0, n, 0x026⟩
abbrev tmTemps (n : Nat) : Attr := ⟨6, 0, n, 0x027⟩
abbrev tmFill (n : Nat) : Attr := ⟨6, 0, n, 0x028⟩
abbrev tmEps (n : Nat) : Attr := ⟨6, 0, n, 0x029⟩
abbrev tmCalE (n : Nat) : Attr := ⟨6, 0, n, 0x02A⟩
abbrev tmCalF (n : Nat) : Attr := ⟨6, 0, n, 0x02B⟩
abbrev tmSens (n : Nat) : Attr := ⟨6, 0, n, 0x02C⟩
abbrev tmNorm2 (n : Nat) : Attr := ⟨6, 0, n, 0x02D⟩
abbrev tmCmd (n : Nat) : Attr := ⟨6, 0, n, 0x030⟩
abbrev tmCalStat (n : Nat) : Attr := ⟨6, 0, n, 0x031⟩
abbrev tmObj (n : Nat) : Attr := ⟨6, 0, n, 0⟩
abbrev floePort (k : Nat) : Attr := ⟨0xE, 0, 0, 0x010 + k⟩
abbrev floeRing : Attr := ⟨0xE, 0, 0, 0x013⟩
abbrev floeBudget : Attr := ⟨0xE, 0, 0, 0x014⟩
abbrev floeCycleNow : Attr := ⟨0xE, 0, 0, 0x016⟩
abbrev rmPort (p : Nat) : Attr := ⟨0x15, 0, 0, 0x010 + p⟩
abbrev rmStat : Attr := ⟨0x15, 0, 0, 0x013⟩
abbrev rmCount : Attr := ⟨0x15, 0, 0, 0x015⟩
abbrev rmCfg : Attr := ⟨0x15, 0, 0, 0x020⟩
abbrev rmObj : Attr := ⟨0x15, 0, 0, 0⟩
abbrev floeCount : Attr := ⟨0xE, 0, 0, 0x015⟩
abbrev floeCfg : Attr := ⟨0xE, 0, 0, 0x020⟩
abbrev floePublish : Attr := ⟨0xE, 0, 0, 0x021⟩
abbrev floeObj : Attr := ⟨0xE, 0, 0, 0⟩

abbrev pairStat : Attr := ⟨0xF, 0, 0, 0x010⟩
abbrev pairClaim : Attr := ⟨0xF, 0, 0, 0x011⟩
abbrev pairEpoch : Attr := ⟨0xF, 0, 0, 0x012⟩
abbrev pairStage : Attr := ⟨0xF, 0, 0, 0x013⟩
abbrev pairCount : Attr := ⟨0xF, 0, 0, 0x015⟩
abbrev pairDrill : Attr := ⟨0xF, 0, 0, 0x016⟩
abbrev pairCfg : Attr := ⟨0xF, 0, 0, 0x020⟩
abbrev pairCmd : Attr := ⟨0xF, 0, 0, 0x038⟩
abbrev pairObj : Attr := ⟨0xF, 0, 0, 0⟩
abbrev lnGeom (l : Nat) : Attr := ⟨8, 0, l, 0x021⟩
abbrev lnAmbient (l : Nat) : Attr := ⟨8, 0, l, 0x023⟩
abbrev lnInlet (l : Nat) : Attr := ⟨8, 0, l, 0x024⟩
abbrev lnObs (l : Nat) : Attr := ⟨8, 0, l, 0x025⟩
abbrev lnDisch (l : Nat) : Attr := ⟨8, 0, l, 0x026⟩
abbrev lnBatch (l : Nat) : Attr := ⟨8, 0, l, 0x027⟩
abbrev lnFlowCfg (l : Nat) : Attr := ⟨8, 0, l, 0x028⟩
abbrev lnStore (l : Nat) : Attr := ⟨8, 0, l, 0x029⟩
abbrev lnSrc (l : Nat) : Attr := ⟨8, 0, l, 0x02A⟩
abbrev lnZone (l z : Nat) : Attr := ⟨8, 0, l, 0x030 + z⟩
abbrev lnCmd (l : Nat) : Attr := ⟨8, 0, l, 0x038⟩

/-- The present step of a thermal zone (R294). -/
def Block.zoneStep (s : Block) (z : Nat) : Nat := s.fget (tzStat z) 5 3

/-- Whether a thermal zone is shut down, latched or not (R296). -/
def Block.zoneDown (s : Block) (z : Nat) : Bool := s.fget (tzStat z) 2 0 == 3 || s.fget (tzStat z) 2 0 == 4

/-- MODE.STATE MODE: 0 BOOT, 1 SAFE, 2 RUN, 3 HOLD, 4 FALLBACK, 5 SERVICE (the *Modes* table). -/
def Block.modeNo (s : Block) : Nat := s.fget modeState 2 0

/-- DEV.SUPPLY_STAT KEYSW (R34). -/
def Block.keysw (s : Block) : Bool := s.bit devSupply 5

/-- DEV.SUPPLY_STAT PF_ACTIVE (R29). -/
def Block.pfActive (s : Block) : Bool := s.bit devSupply 1

/-- The role of the booted image (R1): 1 STANDALONE, 2 HEAD, 3 OUTSTATION. -/
def Block.role (s : Block) : Nat := s.img.role

/-- TIME.STATE UNSYNC (R89). -/
def Block.unsync (s : Block) : Bool := s.bit timeState 3

/-- Whether this is a paired HEAD (R321). -/
def Block.paired (s : Block) : Bool :=
  s.role == 2 && s.fget pairCfg 11 0 != 0 && (s.img.node == s.fget pairCfg 11 0 || s.img.node == s.fget pairCfg 27 16)

/-- PAIR.STAT STATE. -/
def Block.pairState (s : Block) : Nat := s.fget pairStat 2 0

/-- Whether this head stands by: JOINING or STANDBY (R324). -/
def Block.standby (s : Block) : Bool := s.paired && (s.pairState == 3 || s.pairState == 4)

/-- Whether the outputs of this module are a stage that COMMAND sections address (15). -/
def Block.isStage (s : Block) : Bool := s.role != 1

/-- The mode whose forcing the outputs take (R70, R328): the module's, FALLBACK in stage fallback, and SAFE in a stage
that has applied no section since boot. -/
def Block.outMode (s : Block) : Nat :=
  let m := s.modeNo
  if m = 4 ∨ m = 5 ∨ !s.isStage then m
  else if s.bit pairStat 24 then 4
  else if s.floe.lastN.isNone then (if m = 0 then 0 else 1) else m

/-- The FLOE.CFG in force: T_CYC, GATHER and CMDW in ns (R307). -/
def Block.tCyc (s : Block) : Nat := fld s.floe.cfg 31 0 * 1000
def Block.tGather (s : Block) : Nat := fld s.floe.cfg 63 32 * 1000
def Block.tCmdw (s : Block) : Nat := fld s.floe.cfg 95 64 * 1000

end Sys2Proof.Machine
end

