-- ==== Sys2Proof/Machine/Ops.lean ====
section
/-! DEFINITION. Machine/Ops.lean: the named operations every command is written over: the passing of time, free
values, event records, Firn records, and the answer to a host command. -/

namespace Sys2Proof.Machine

/-- What every command answers with. -/
abbrev Res := Host.Outcome State Fault Refusal

/-- What a command's effect on the block answers with. -/
abbrev BRes := Host.Outcome Block Fault Refusal

/-- A command's effect on the block, which leaves the queue alone. -/
def onBlock (s : State) (f : Block → BRes) : Res :=
  match f s.toBlock with
  | .next b => .next { s with toBlock := b }
  | .fault r => .fault r
  | .refused r => .refused r

/-- The ns of one second. -/
abbrev nsPerS : Nat := 1000000000

/-- Adjusted ticks the servo places in `k` ticks: every tick that R87 allows, at most one in 1000, until nothing is left to
remove (log entry 46: the rule leaves the choice of ticks to the servo). -/
def slewSteps (c : Clk) (k : Nat) : Nat := min c.slew.natAbs ((c.gap + k) / 1000)

/-- The servo's step direction. -/
def slewSign (c : Clk) : Int := if c.slew < 0 then -1 else 1

/-- The clocks after `k` ticks of CLK_SYS: the timebase advances by 4 on each, by 3 or 5 on an adjusted one (R84, R87). -/
def clkElapse (c : Clk) (k : Nat) : Clk :=
  let n := slewSteps c k
  { raw := c.raw + 4 * k
    tb := ((c.tb + 4 * k : Nat) + slewSign c * n : Int).toNat
    rtcSub := c.rtcSub
    slew := c.slew - slewSign c * n
    gap := min 999 (c.gap + k - n * 1000) }

/-- The RTC after `dt` ns, where it holds a time (R90). -/
def Block.rtcElapse (s : Block) (dt : Nat) : Block :=
  if s.get timeRtc = 0 then s
  else
    let t := s.clk.rtcSub + dt
    ({ s with clk := { s.clk with rtcSub := t % nsPerS } }).put timeRtc (s.get timeRtc + t / nsPerS)

/-- The machine after `k` ticks of CLK_SYS: clocks and RTC. -/
def Block.elapse (s : Block) (k : Nat) : Block := { s with clk := clkElapse s.clk k }.rtcElapse (4 * k)

/-- What passes while no command waits: one period of CLK_SYS, where it runs (R84, R78, log entry 1); elsewhere the RTC alone
goes on, as long as it holds a time (R90). -/
def Block.idle (s : Block) : Block :=
  match s.phase with
  | .noImage => s.elapse 1
  | .active => s.elapse 1
  | .park => s.elapse 1
  | .halted => s.elapse 1
  | _ => s.rtcElapse 4

/-- The machine at the first tick at or after raw time `t`, or as it is when that has passed (log entry 5). -/
def Block.advanceTo (s : Block) (t : Nat) : Block := if s.clk.raw < t then s.elapse ((t - s.clk.raw + 3) / 4) else s

/-- The least number from `lo` to `hi` with a property that `hi` has and that no greater one loses, by bisection. -/
def leastFrom (p : Nat → Bool) : Nat → Nat → Nat → Nat
  | 0, _, hi => hi
  | f + 1, lo, hi =>
    if hi ≤ lo then hi
    else if p ((lo + hi) / 2) then leastFrom p f lo ((lo + hi) / 2) else leastFrom p f ((lo + hi) / 2 + 1) hi

/-- The ticks until the timebase reaches or passes `t` (R376). -/
def ticksTo (c : Clk) (t : Nat) : Nat :=
  let d := t - c.tb
  leastFrom (fun k => t ≤ (clkElapse c k).tb) (d.log2 + 1) 0 d

/-- The machine at the first tick at which the timebase reaches or passes `t` (R376), or as it is when that has passed. -/
def Block.advanceTb (s : Block) (t : Nat) : Block := if s.clk.tb < t then s.elapse (ticksTo s.clk t) else s

/-- The next multiple of `p` above `t`. -/
def nextMultiple (p t : Nat) : Nat := (t / p + 1) * p

/-- The least multiple of `p` at or above `t`. -/
def ceilMultiple (p t : Nat) : Nat := (t + p - 1) / p * p

/-- A free value drawn, and the machine after it. -/
def Block.draw (s : Block) : Nat × Block := (Config.freeNat s.fresh, { s with fresh := s.fresh + 1 })

/-- `n` free bytes. -/
def freeBytes : Nat → Nat → List Byte
  | 0, _ => []
  | n + 1, f => BitVec.ofNat 8 (Config.freeNat f) :: freeBytes n (f + 1)

/-- The 24 bytes of an event record (R91). -/
def evBytes (r : EvRec) : List Byte :=
  leBytes 8 r.ts ++ leBytes 2 r.node ++ leBytes 1 r.src ++
  leBytes 1 (r.sev * 64 + b2n r.unsync * 32 + r.code % 32) ++ leBytes 4 r.obj ++ leBytes 8 r.data

/-- The queue without its oldest INFO record, or without its oldest record when it holds none (R94). -/
def evDiscard (q : List QRec) : List QRec :=
  match q.find? (fun r => r.ev.sev == 0) with
  | some r => q.erase r
  | none => q.drop 1

/-- The record R94 discards from a full queue. -/
def evVictim (q : List QRec) : Option QRec :=
  match q.find? (fun r => r.ev.sev == 0) with
  | some r => some r
  | none => q.head?

/-- The size of an event queue (R93). -/
abbrev evDepth : Nat := 4096

/-- A queue with one more record; a full queue discards one first (R94). -/
def evPush (e : EvQueue) (r : EvRec) (at' : Nat) : EvQueue :=
  if e.q.length < evDepth then
    { e with q := e.q ++ [⟨e.nextNum, r, false, at'⟩], nextNum := e.nextNum + 1 }
  else
    { q := evDiscard e.q ++ [⟨e.nextNum, r, false, at'⟩]
      nextNum := e.nextNum + 1
      lostCnt := e.lostCnt + 1
      lostTs := if e.lostCnt = 0 then (match evVictim e.q with | some v => v.ev.ts | none => 0) else e.lostTs }

/-- The machine with an event record queued (R91 to R94). -/
def Block.queueEv (s : Block) (r : EvRec) : Block :=
  let s1 := { s with evq := evPush s.evq r s.clk.raw }
  if s.evq.q.length < evDepth then s1 else s1.countUp evtLost 31 0

/-- UNSYNC as it held at a value of the timebase (R89). -/
def Block.unsyncAt (s : Block) (ts : Nat) : Bool := if ts < s.time.unsFrom then !s.unsync else s.unsync

/-- Raises an event stamped `ts` (R92): source, severity, CODE, the object concerned and the data. -/
def Block.raiseAt (s : Block) (ts src sev code : Nat) (obj : Attr) (data : Nat) : Block :=
  s.queueEv ⟨ts % 2 ^ 64, s.img.node, src, sev, s.unsyncAt ts, code, oidOf obj, data % 2 ^ 64⟩

/-- Raises an event stamped now. -/
def Block.raise (s : Block) (src sev : Nat) (obj : Attr) (data : Nat) : Block :=
  s.raiseAt s.clk.tb src sev 0 obj data

/-- Raises an event with a CODE, stamped now. -/
def Block.raiseC (s : Block) (src sev code : Nat) (obj : Attr) (data : Nat) : Block :=
  s.raiseAt s.clk.tb src sev code obj data

/-- The severities (the *Severity* table). -/
abbrev sevInfo : Nat := 0
abbrev sevWarn : Nat := 1
abbrev sevFault : Nat := 2
abbrev sevCrit : Nat := 3

/-- The size in bytes of a Firn partition (the *Firn partitions* table). -/
def firnCap : Nat → Nat
  | 1 => 4 * 2 ^ 30
  | 2 => 8 * 2 ^ 30
  | 3 => 4 * 2 ^ 30
  | _ => 32 * 2 ^ 30

/-- The record size of a Firn partition. -/
def firnRecSize : Nat → Nat
  | 1 => 24
  | 2 => 64
  | 3 => 1656
  | _ => 260

/-- The records of a partition. -/
def firnList (f : FirnDyn) : Nat → List FirnRec
  | 1 => f.events
  | 2 => f.parcels
  | 3 => f.maps
  | _ => f.trends

/-- Firn with the records of a partition replaced. -/
def firnSetList (f : FirnDyn) (k : Nat) (l : List FirnRec) : FirnDyn :=
  match k with
  | 1 => { f with events := l }
  | 2 => { f with parcels := l }
  | 3 => { f with maps := l }
  | _ => { f with trends := l }

/-- FIRN.STAT READY (R67). -/
def Block.firnReady (s : Block) : Bool := s.bit firnStat 0

/-- FIRN.PART of a partition: bytes used and the oldest timestamp. -/
def firnPartWord (f : FirnDyn) (k : Nat) : Nat :=
  let l := firnList f k
  l.length * firnRecSize k + (match l with | [] => 0 | r :: _ => r.ts) * 2 ^ 64

/-- The machine with one record written to a Firn partition, overwriting the oldest when full (R357); the first
overwrite after boot raises FIRN_WRAP. -/
def Block.firnWrite (s : Block) (k : Nat) (r : FirnRec) : Block :=
  let l := firnList s.firn k
  let full := firnCap k < (l.length + 1) * firnRecSize k
  let l' := (if full then l.drop 1 else l) ++ [r]
  let s1 := { s with firn := firnSetList s.firn k l' }
  let s2 := s1.put firnPart (setEntry (s1.get firnPart) 128 (k - 1) (firnPartWord s1.firn k))
  if full && !(s.firn.wrapped.contains k) then
    ({ s2 with firn := { s2.firn with wrapped := k :: s2.firn.wrapped } }).raise 0x2D sevInfo firn0 k
  else s2

/-- Entry i of the four sessions. -/
def Block.sessAt (s : Block) (i : Nat) : Option Sess := s.host.sess[i]?

/-- The machine with a session entry replaced. -/
def Block.setSess (s : Block) (i : Nat) (x : Sess) : Block :=
  { s with host := { s.host with sess := setAt s.host.sess i x } }

/-- The 24 bytes of a datagram's header (the *YHP header* table). -/
def yhpBytes (magic ver typ session node seq reqId status len : Nat) : List Byte :=
  beBytes 2 magic ++ beBytes 1 ver ++ beBytes 1 typ ++ beBytes 2 session ++ beBytes 2 node ++ beBytes 4 seq ++
  beBytes 4 reqId ++ beBytes 2 status ++ beBytes 2 len ++ zeros 4

/-- TYPE, SESSION, the request's SEQ with REQ_ID, STATUS and the payload of what goes out as a datagram; nothing of what does
not. -/
def HostMsg.parts : HostMsg → Option (Nat × Nat × Option (Nat × Nat) × Nat × List Byte)
  | .resp h r => some (r.typ, h, some (r.seq, r.reqId), r.status, r.payload)
  | .bulk h q c f d => some (0x21, h, none, 0, leBytes 4 q ++ leBytes 4 c ++ leBytes 2 f ++ zeros 2 ++ d)
  | .evt h p => some (0x31, h, none, 0, p)
  | .modbus _ _ => none
  | .cmdResp _ _ => none

/-- The numbering under a handle; before its first datagram the last SEQ is 0. -/
def HostDyn.txOf (x : HostDyn) (h : Nat) : TxSeq := (x.tx.find? (fun t => t.handle == h)).getD ⟨h, 0, []⟩

/-- The SEQ a datagram under handle `h` goes out with, and the numbering after it: a response sent again keeps its SEQ. -/
def HostDyn.txNext (x : HostDyn) (h : Nat) (key : Option (Nat × Nat)) : Nat × TxSeq :=
  let t := x.txOf h
  match key with
  | none => (t.last + 1, { t with last := t.last + 1 })
  | some k =>
    match t.sent.find? (fun e => e.1 == k.1 && e.2.1 == k.2) with
    | some e => (e.2.2, t)
    | none => (t.last + 1, { t with last := t.last + 1, sent := ((k.1, k.2, t.last + 1) :: t.sent).take 16 })

/-- The tag of a datagram (R346): all zero for the two OPEN types, in a provisioning session and under a handle without a session. -/
def HostDyn.tagOf (x : HostDyn) (typ h : Nat) (b : List Byte) : List Byte :=
  match x.sess.find? (fun e => e.st != .free && e.handle == h) with
  | some e => if typ = 0x81 ∨ e.prov then zeros 32 else hmac256 e.key b
  | none => zeros 32

/-- What a message adds to the datagrams sent and to their numbering (R346). -/
def HostDyn.wired (x : HostDyn) (m : HostMsg) : HostDyn :=
  match m.parts with
  | none => x
  | some (typ, h, key, status, payload) =>
    let n := x.txNext h key
    let b := yhpBytes 0x5948 1 typ (if typ = 0x81 then 0 else h) 0 n.1 (match key with | some k => k.2 | none => 0) status payload.length ++
      payload
    { x with wire := (b ++ x.tagOf typ h b) :: x.wire, tx := n.2 :: x.tx.filter (fun t => t.handle != h) }

/-- The machine with a message sent on the host port. -/
def Block.send (s : Block) (m : HostMsg) : Block := { s with host := { s.host.wired m with out := m :: s.host.out } }

/-- The machine with a message sent on the ring, the cross-link or Rime. -/
def Block.emit (s : Block) (m : NetMsg) : Block := { s with net := m :: s.net }

/-- AUDIT of the HOST.CFG in force (R345, R354). -/
def Block.audit (s : Block) : Nat := fld s.host.netCfg 114 113

/-- Records a refused item under AUDIT (0x2E HOST_REFUSED, R354). -/
def Block.auditRefused (s : Block) (oid code handle : Nat) : Block :=
  if s.audit = 0 then s else s.raise 0x2E sevInfo host0 (pack [(oid, 0), (code, 32), (handle, 48)])

/-- Records an accepted write item under AUDIT (0x2F HOST_WRITE, R354). -/
def Block.auditWrite (s : Block) (oid handle : Nat) : Block :=
  if s.audit = 2 then s.raise 0x2F sevInfo host0 (pack [(oid, 0), (handle, 48)]) else s

/-- Where a write or command comes from: a host session, a relay at a level (R355), the active head of a pair
(R334), or the image (R49). -/
inductive Origin where
  | sess (i : Nat)
  | relay (level : Nat)
  | pair
  | image
deriving DecidableEq, Repr

/-- The access level an origin acts at (R350, R355). -/
def Block.levelOf (s : Block) : Origin → Nat
  | .sess i => match s.sessAt i with | some x => x.level | none => 0
  | .relay l => l
  | .pair => 2
  | .image => 2

/-- Whether an origin is the provisioning session (R348). -/
def Block.isProv (s : Block) : Origin → Bool
  | .sess i => match s.sessAt i with | some x => x.prov | none => false
  | _ => false

/-- The handle of an origin, for the audit records. -/
def Block.handleOf (s : Block) : Origin → Nat
  | .sess i => match s.sessAt i with | some x => x.handle | none => 0
  | _ => 0

/-- Whether a session entry is open. -/
def Block.sessOpen (s : Block) (i : Nat) : Bool :=
  match s.sessAt i with | some x => x.st == .opened | none => false

/-- Attributes a provisioning session may write (R348). -/
def provMayWrite (a : Attr) : Bool :=
  a == hostCfg || a == hostAuthCmd || a == imgKeyCmd || a == imgStageCtrl || a == imgStageData

/-- Attributes only ENGINEER may write although they are WO (the *Access levels* table). -/
def engineerOnly (a : Attr) : Bool :=
  a == modePersistCmd || a == imgStageCtrl || a == imgStageData || a == imgKeyCmd || a == hostAuthCmd

/-- The level a write of an attribute needs (the *Access levels* table). -/
def levelFor (a : Attr) : Nat :=
  match specOf a.blk a.kind a.att with
  | some sp => if sp.acc = .rwp ∨ engineerOnly a then 2 else 1
  | none => 1

/-- The level check of R348 and R350: 0x0508, or 0. -/
def Block.levelCheck (s : Block) (o : Origin) (a : Attr) : Nat :=
  if s.isProv o then (if provMayWrite a then 0 else 0x0508)
  else if s.levelOf o < levelFor a then 0x0508 else 0

/-- What the power state allows of writes (R57, R75): 0x0301, or 0. -/
def Block.powerCheck (s : Block) (a : Attr) (unpark : Bool) : Nat :=
  match s.phase with
  | .park => if unpark then 0 else 0x0301
  | .noImage => if a == imgStageCtrl || a == imgStageData || a == imgKeyCmd || a == hostCfg || a == hostAuthCmd
      then 0 else 0x0301
  | _ => 0

/-- Whether the host port is open (R57, R66, R74). -/
def Block.hostUp (s : Block) : Bool :=
  match s.phase with
  | .active => true
  | .park => true
  | .noImage => true
  | _ => false

/-- The machine after a refused command: the response, its count and its audit record. -/
def Block.refuseCmd (s : Block) (i : Nat) (a : Attr) (code : Nat) : Block :=
  ((s.countUp hostCount 63 32).send (.cmdResp i code)).auditRefused (oidOf a) code (s.handleOf (.sess i))

/-- The machine after an accepted command. -/
def Block.acceptCmd (s : Block) (i : Nat) (a : Attr) : Block :=
  (s.send (.cmdResp i 0)).auditWrite (oidOf a) (s.handleOf (.sess i))

/-- The checks of R354 that come before a command's own: the session, the instance, the level and the power state. -/
def Block.cmdGate (s : Block) (i : Nat) (a : Attr) (unpark : Bool) : Nat :=
  if !s.sessOpen i then 0x0507
  else if instCount a.blk a.kind ≤ a.idx then 0x0102
  else if s.levelCheck (.sess i) a ≠ 0 then s.levelCheck (.sess i) a
  else s.powerCheck a unpark

/-- First non-zero code of a list. -/
def firstErr : List Nat → Nat
  | [] => 0
  | c :: r => if c ≠ 0 then c else firstErr r

/-- 0, or a code when a condition fails. -/
def need (ok : Bool) (c : Nat) : Nat := if ok then 0 else c

/-- Whether a value lies in a field's range. -/
def fieldOk (v : Nat) (f : FSpec) : Bool :=
  let x := fld v f.hi f.lo
  match f.rg with
  | .any => true
  | .u lo hi => lo ≤ x && x ≤ hi
  | .s lo hi => decide (lo ≤ toS (f.hi + 1 - f.lo) x) && decide (toS (f.hi + 1 - f.lo) x ≤ hi)

/-- Whether every field of a value is in range and every reserved bit 0. -/
def fieldsOk (sp : ASpec) (v : Nat) : Bool :=
  (List.range sp.rep).all (fun i =>
    let e := entry v sp.width i
    sp.fields.all (fieldOk e) && sp.fields.foldl (fun x f => setFld x f.hi f.lo 0) e == 0)

/-- The same for an attribute: 0x0201, or 0. -/
def fieldErr (a : Attr) (v : Nat) : Nat :=
  match specOf a.blk a.kind a.att with
  | some sp => need (v < 2 ^ widthOf a && fieldsOk sp v) 0x0201
  | none => 0

/-- Whether an attribute is one signed number (R50): LOOP SP and MAN_OUT, AXIS SPEED_SP and MAN_SPEED. -/
def signedAttr (a : Attr) : Bool :=
  (a.blk == 7 && a.kind == 0 && (a.att == 0x025 || a.att == 0x029)) ||
  (a.blk == 9 && a.kind == 0 && (a.att == 0x030 || a.att == 0x031))

/-- `x ≤ y` in the attribute's numeric type (R50); an attribute of several fields counts as one unsigned number (log entry 47). -/
def attrLe (a : Attr) (x y : Nat) : Bool :=
  if signedAttr a then decide (toS (widthOf a) x ≤ toS (widthOf a) y) else decide (x ≤ y)

/-- The narrowed range of the image (R49, R50): 0x0201, or 0. -/
def narrowErr (s : Block) (a : Attr) (v : Nat) : Nat :=
  match s.img.narrow.find? (fun e => e.1 == a) with
  | some e => need (attrLe a e.2.1 v && attrLe a v e.2.2) 0x0201
  | none => 0

/-- The checks of a number against its attribute alone: its fields, then its narrowed range (R49, R362). -/
def numErr (s : Block) (a : Attr) (v : Nat) : Nat := firstErr [fieldErr a v, narrowErr s a v]

/-- A check's code `c` with a value check `v`: the codes of the classes 0x03 and 0x05 come first (R354). -/
def stateFirst (c v : Nat) : Nat := if c / 256 = 3 ∨ c / 256 = 5 then c else if v ≠ 0 then v else c

/-- The gate's code `g` and the command's own code `c` in R354's order: session and authentication codes of either come before the
gate's other steps, of which the level is one. -/
def gated (g c : Nat) : Nat := if g / 256 = 5 ∧ g ≠ 0x0508 then g else if c / 256 = 5 then c else if g ≠ 0 then g else c

/-- One command attribute written by session entry `i` (R350, R354): the gate, the command's own check, its act. -/
def hostCommand (i : Nat) (a : Attr) (unpark : Bool) (check : Block → Nat) (act : Block → Block)
    (onRefuse : Nat → Block → Block) (s : Block) : BRes :=
  if !s.hostUp then .next s
  else
    let s0 := s.countUp hostCount 31 0
    let g := s0.cmdGate i a unpark
    let c := gated g (check s0)
    if c ≠ 0 then .next (onRefuse c (s0.refuseCmd i a c))
    else .next ((act s0).acceptCmd i a)

/-- The number of the cycle in progress. -/
def Block.cycleNow (s : Block) : Nat := match s.floe.cycle with | some n => n | none => s.clk.tb / max 1 s.tCyc

/-- Sends a record of the STATE class, which a module with DUP_ID does not originate (R312). -/
def Block.emitState (s : Block) (m : NetMsg) : Block := if s.bit floeRing 2 then s else s.emit m

/-- The delta the active head has not yet closed (R330). -/
def pairOpen (s : Block) : Nat := match s.pair.closed with
  | some n => if s.cycleNow ≤ n then n + 1 else s.cycleNow
  | none => s.cycleNow

/-- Places a pair-scope request in the open delta D, with its effect at E = D + 2 (R334). -/
def pairEnqueue (items : List (Attr × AVal)) (entry handle seq reqId : Nat) (yhp : Bool) (s : Block) : Block :=
  let d := pairOpen s
  let r : PairReq := ⟨d, d + 2, items, entry, handle, seq, reqId, yhp, false⟩
  let old := (d, handle, reqId) :: s.pair.old.filter (fun x => d < x.1 + 64)
  let s1 := ({ s with pair := { s.pair with reqs := s.pair.reqs ++ [r], recs := s.pair.recs + 1, old := old } }).emitState
    (.write d (d + 2) items handle reqId)
  items.foldl (fun x it => x.auditWrite (oidOf it.1) handle) s1

/-- Whether this module is a head without a partner, which places what the pair scope covers at a cycle start (R334). -/
def Block.loneHead (s : Block) : Bool := s.role == 2 && !s.paired

/-- The first cycle start that lies at least 2 µs on (R334). -/
def lateStart (s : Block) : Nat := ceilMultiple (max 1 s.tCyc) (s.clk.tb + 2000)

/-- An accepted write or command that waits for its instant (R175, R334). -/
def lateAdd (a : Attr) (v : AVal) (entry due : Nat) (s : Block) : Block := { s with late := s.late ++ [⟨a, v, entry, due⟩] }

/-- Whether an accepted request of an attribute waits for its instant: at a head without a partner, or in a pair's delta. -/
def Block.waits (s : Block) (a : Attr) : Bool := s.late.any (fun w => w.a == a) || s.pair.reqs.any (fun r => r.items.any (fun e => e.1 == a))

/-- A command of the pair scope (R334): at a paired head it is accepted only in ACTIVE, leaves the state unchanged and
waits in the delta; a head without a partner carries it out at a cycle start; at any other module it is as any command. -/
def pairCommand (i : Nat) (a : Attr) (v : AVal) (check : Block → Nat) (act : Block → Block)
    (onRefuse : Nat → Block → Block) (s : Block) : BRes :=
  if s.loneHead then hostCommand i a false check (fun x => lateAdd a v i (lateStart x) x) onRefuse s
  else if !s.paired then hostCommand i a false check act onRefuse s
  else if !s.hostUp then .next s
  else
    let s0 := s.countUp hostCount 31 0
    let g := s0.cmdGate i a false
    let c := gated g (if s0.pairState ≠ 2 then 0x030A else check s0)
    if c ≠ 0 then .next (onRefuse c (s0.refuseCmd i a c))
    else .next (pairEnqueue [(a, v)] i (s0.handleOf (.sess i)) 0 0 false s0)

/-- The machine with an attribute noted as written since the last commit (R79). -/
def Block.markVol (s : Block) (a : Attr) : Block := if s.vol.contains a then s else { s with vol := s.vol ++ [a] }

/-- No reaction of its own to a refusal. -/
def noRefuse (_ : Nat) (s : Block) : Block := s

end Sys2Proof.Machine
end

