-- ==== Sys2Proof/Machine/Dio.lean ====
section
/-! DEFINITION. Machine/Dio.lean: the isolated field I/O (chapter 11, R254 to R274). -/

namespace Sys2Proof.Machine

/-- Channel n. -/
def Block.dch (s : Block) (n : Nat) : DioCh := getL s.dio.ch n dioCh0
/-- Group g. -/
def Block.dgrp (s : Block) (g : Nat) : DioGrp := getL s.dio.grp g dioGrp0
/-- The machine with channel n replaced. -/
def Block.setDch (s : Block) (n : Nat) (c : DioCh) : Block := { s with dio := { s.dio with ch := setAt s.dio.ch n c } }
/-- The machine with group g replaced. -/
def Block.setDgrp (s : Block) (g : Nat) (c : DioGrp) : Block :=
  { s with dio := { s.dio with grp := setAt s.dio.grp g c } }

/-- The lead of the set a channel belongs to under a group CFG, itself when it belongs to none (R260). -/
def leadOf (cfg n : Nat) : Nat :=
  let g := n / 16
  let k := n % 16
  if bitAt (fld cfg 51 48) (k / 4) then 16 * g + k / 4 * 4
  else if bitAt (fld cfg 47 40) (k / 2) then 16 * g + k / 2 * 2
  else n

/-- The lead of a channel's set as configured. -/
def dioLead (s : Block) (n : Nat) : Nat := leadOf (s.get (dgCfg (n / 16))) n

/-- The lead of a channel's set as the field side holds it. -/
def dioLeadF (s : Block) (n : Nat) : Nat := leadOf (s.dgrp (n / 16)).cfgF n

/-- Whether a channel is a member, not the lead, of a set (R260). -/
def dioIsMember (s : Block) (n : Nat) : Bool := dioLead s n != n

/-- The CFG.MODE that rules a channel: its lead's (R260). -/
def dioMode (s : Block) (n : Nat) : Nat := s.fget (dioCfg (dioLead s n)) 1 0

/-- The CFG.MODE that rules a channel on the field side. -/
def dioModeF (s : Block) (n : Nat) : Nat := fld (s.dch (dioLeadF s n)).cfgF 1 0

/-- An output that other objects may name: configured as one and no member of a set (R260). -/
def dioIsOut (s : Block) (n : Nat) : Bool := s.fget (dioCfg n) 1 0 == 2 && !dioIsMember s n

/-- An input that other objects may name. -/
def dioIsIn (s : Block) (n : Nat) : Bool := s.fget (dioCfg n) 1 0 == 1 && !dioIsMember s n

/-- The channels of the group of a channel that share its lead under `lead`. -/
def setUnder (lead : Nat → Nat) (n : Nat) : List Nat :=
  ((List.range 16).map (fun k => 16 * (n / 16) + k)).filter (fun m => lead m == lead n)

/-- The channels of the set a channel belongs to. -/
def dioSet (s : Block) (n : Nat) : List Nat := setUnder (dioLead s) n

/-- The channels of the set a channel belongs to on the field side. -/
def dioSetF (s : Block) (n : Nat) : List Nat := setUnder (dioLeadF s) n

/-- The threshold switch that drives a channel of this module, if any (R119). -/
def dioSwitch (s : Block) (n : Nat) : Option Nat :=
  (List.range 32).find? (fun k =>
    s.bit (swCfg k) 0 && s.fget (swCfg k) 38 32 == n &&
    (s.fget (swCfg k) 51 40 == 0 || s.fget (swCfg k) 51 40 == s.img.node))

/-- The command of level 5 (R267): MAN in SERVICE, a switch, a line output, or SP. -/
def dioCommand (s : Block) (n : Nat) : Bool :=
  if s.outMode = 5 then (s.dch n).manSet && s.get (dioMan n) != 0
  else match (if s.role = 2 then none else dioSwitch s n) with
    | some k => s.bit (swStat k) 0
    | none => match (s.dch n).lineOn with
      | some b => b
      | none => s.get (dioSp n) != 0

/-- SAFE_ST or FB_ST as a frame command: 0 OFF, 1 ON, 2 KEEP. -/
def stCode (x : Nat) : Nat := if x = 1 then 1 else if x = 2 then 2 else 0

/-- The command that a frame carries for an output in an output mode, and whether level 4 sets it (R267, R268, *DIO mode
forcing*). -/
def dioTargetIn (m : Nat) (s : Block) (n : Nat) : Nat × Bool :=
  let cls := s.fget (dioCfg n) 5 4
  let cmd := b2n (dioCommand s n)
  match m with
  | 1 => if cls = 0 then (stCode (s.fget (dioCfg n) 7 6), true) else (0, true)
  | 2 => (cmd, false)
  | 3 =>
    if cls = 0 then (2, true)
    else if cls = 3 then
      (match s.get modeHoldFan with
       | 0 => (0, true)
       | 1 => (cmd, false)
       | _ => (1, true))
    else (0, true)
  | 4 =>
    if cls = 0 then (stCode (s.fget (dioCfg n) 9 8), true)
    else if cls = 3 then (1, true) else (0, true)
  | 5 => (cmd, false)
  | _ => (0, true)

/-- The command the next frame carries for an output: the SAFE values in the first after bring-up (R78, R272). -/
def dioTarget (s : Block) (n : Nat) : Nat × Bool :=
  dioTargetIn (if (s.dgrp (n / 16)).first then 1 else s.outMode) s n

/-- The command of one channel's place in the frame: its lead's, off while a new configuration waits (R260, R273). -/
def dioSent (s : Block) (n : Nat) : Nat × Bool :=
  if dioMode s n ≠ 2 ∨ (s.dch n).offNext then (0, false) else dioTarget s (dioLead s n)

/-- The effective mask of a group (R269). -/
def dioMaskNow (s : Block) (g : Nat) : Nat :=
  if s.bit (dgProbe g) 31 then 2 ^ 18 - 1 - s.fget (dgProbe g) 17 0 else s.fget (dgMask g) 17 0

/-- Whether the pin of an output is on: the applied value unless levels 1 and 2 act (R261, R265, R266). -/
def dioPin (s : Block) (n : Nat) : Bool :=
  let c := s.dch n
  let g := s.dgrp (n / 16)
  c.want && !c.ovl && !c.latched && !g.low && !g.ot

/-- A channel with its run of overloads ended by an on-period of 1 s without one (R261). -/
def dioRunEnd (s : Block) (n : Nat) : DioCh :=
  let c := s.dch n
  if c.ovlRun != 0 && dioPin s n && c.onSince + nsPerS ≤ s.clk.raw then { c with ovlRun := 0 } else c

/-- A channel whose pin goes off by levels 1 and 2: its run of overloads as it stands, and a switching (R261, R262). -/
def dioCut (s : Block) (n : Nat) : Block :=
  let c := dioRunEnd s n
  s.setDch n (if dioPin s n then { c with swAt := s.clk.raw } else c)

/-- Every output of a group off (R265, R266). -/
def dioCutAll (g : Nat) (s : Block) : Block := forN 16 (fun k x => dioCut x (16 * g + k)) s

/-- Whether a channel contributes to the group fault bit (R269). -/
def dioContrib (c : DioCh) : Bool := c.ovl || c.latched || c.ovlRun != 0 || c.wb || c.rb || c.pm

/-- The group fault bit the field side computes under a mask (R269). -/
def dioFaultBit (s : Block) (g mask : Nat) : Bool :=
  (List.range 16).any (fun k => dioContrib (dioRunEnd s (16 * g + k)) && !bitAt mask k) ||
  ((s.dgrp g).uv && !bitAt mask 16) || ((s.dgrp g).ot && !bitAt mask 17)

/-- Notes now as the tick of the fault bit's last change where `s` shows another bit than `old` did (R269). -/
def dioNote (g : Nat) (old s : Block) : Block :=
  if dioFaultBit old g (old.dgrp g).mask = dioFaultBit s g (s.dgrp g).mask then s
  else s.setDgrp g { s.dgrp g with chgTs := s.clk.tb }

/-- The transition a frame is to carry after one more at `ts`: a second since the last frame undoes the first (R258). -/
def chgNext (c : DioCh) (ts : Nat) : Option Nat := if c.chg.isSome then none else some ts

/-- The filter of an input starts: counter and filtered state take the raw state, a free value here (R256, log entry 47). -/
def dioFilterStart (n : Nat) (s : Block) : Block :=
  let raw := Config.freeBool s.fresh
  let c := s.dch n
  { s.setDch n { c with filt := raw, cnt := if raw then fld c.cfgF 23 16 else 0
                        chg := if raw = c.filt then c.chg else chgNext c s.clk.tb } with fresh := s.fresh + 1 }

/-- The field side of a channel takes its configuration frame: the conditions of another use end (R256, R257, R262). -/
def dioTake (n : Nat) (s : Block) : Block :=
  let c := s.dch n
  let new := s.get (dioCfg n)
  let m := dioMode s n
  let c1 := { c with cfgF := new, offNext := false, wb := c.wb && m == 1 && bitAt new 3, rb := c.rb && m == 2
                     pm := c.pm && m == 2 && 1 < (dioSet s n).length }
  if m = 1 then dioFilterStart n (s.setDch n c1) else s.setDch n { c1 with filt := false, cnt := 0, chg := none }

/-- The field side of a group takes its configuration at bring-up (R272); an input whose configuration it holds already
filters on. -/
def dioLoad (g : Nat) (s : Block) : Block :=
  let s1 := forN 16 (fun k x =>
    let n := 16 * g + k
    if (x.dch n).cfgF = x.get (dioCfg n) ∧ (x.dgrp g).cfgF = x.get (dgCfg g) then x else dioTake n x) s
  s1.setDgrp g { s1.dgrp g with cfgF := s1.get (dgCfg g), first := true, badRun := 0, lostFrames := 0 }

/-- The logic side applies one channel's command as it sends it (R258, R267): STATE, FORCED, KEEP and the count; KEEP leaves
STATE at the value last sent. -/
def dioSend (n : Nat) (s : Block) : Block :=
  if dioMode s n ≠ 2 then s
  else
    let t := dioSent s n
    let was := s.bit (dioStat n) 2
    let on := if t.1 = 2 then was else t.1 == 1
    let s1 := s.put (dioStat n) (setFld (setFld (setFld (s.get (dioStat n)) 2 2 (b2n on)) 3 3 (b2n t.2)) 6 6 (b2n (t.1 == 2)))
    if on && !was then s1.countUp (dioCount n) 31 0 else s1

/-- A field-side output with another applied value: a switching ends read-back and parallel mismatches (R262). -/
def dioApply (n : Nat) (want : Bool) (s : Block) : Block :=
  let c := dioRunEnd s n
  if want = c.want then s.setDch n c
  else s.setDch n { c with want := want, swAt := s.clk.raw, onSince := if want then s.clk.raw else c.onSince, rb := false, pm := false }

/-- The field side takes one channel's command from an accepted frame, and after it the configuration that waits (R263,
R273). -/
def dioFieldApply (s : Block) (n : Nat) : Block :=
  let t := dioSent s n
  let s1 := dioApply n (if t.1 = 2 then (s.dch n).want else t.1 == 1) s
  if (s.dch n).offNext then dioTake n s1 else s1

/-- An accepted frame (R263, R269): the commands, the mask and its number, then the group's configuration. -/
def dioAccept (g : Nat) (s : Block) : Block :=
  let s1 := s.setDgrp g { s.dgrp g with pattern := false, mask := dioMaskNow s g, ackSeq := (s.dgrp g).maskSeq }
  let s2 := forN 16 (fun k x => dioFieldApply x (16 * g + k)) s1
  dioNote g s (s2.setDgrp g { s2.dgrp g with cfgF := s2.get (dgCfg g) })

/-- The words INPUTS, APPLIED and KEEP of a group's VALUES. -/
def dioWord (f : Nat → Bool) : Nat := sumN ((List.range 16).map (fun k => b2n (f k) * 2 ^ k))

/-- Delivers one input at a valid frame (R258). -/
def dioDeliver (gf : Bool) (s : Block) (n : Nat) : Block :=
  if dioMode s n ≠ 1 then s
  else
    let c := s.dch n
    let edge := match c.chg with | some t => t | none => s.fget (dioValue n) 191 128
    let s1 := s.put (dioValue n) (pack [(s.clk.tb, 0), (b2n c.filt, 64), (b2n gf, 65), (edge, 128)])
    let s2 := s1.putBit (dioStat n) 2 c.filt
    match c.chg with
    | none => s2
    | some t =>
      let s3 := (s2.setDch n { c with chg := none }).countUp (dioCount n) 31 0
      if s.bit (dioCfg n) 11 then s3.raiseAt t 0xD0 sevInfo 0 (dioObj n) (b2n c.filt) else s3

/-- MASKED and GFLT of a channel, and its value if it is an input (R258, R269). -/
def dioAnswerOne (fb : Bool) (mask n : Nat) (s : Block) : Block :=
  let off := bitAt mask (n % 16)
  ((dioDeliver (fb && !off) s n).putBit (dioStat n) 5 (fb && !off)).putBit (dioStat n) 4 off

/-- The logic side takes the answer of a group (R258, R264, R269). -/
def dioAnswer (g : Nat) (s : Block) : Block :=
  let gr := s.dgrp g
  let fb := dioFaultBit s g gr.mask
  let old := s.bit (dgStat g) 4
  let s1 := forN 16 (fun k x => dioAnswerOne fb gr.mask (16 * g + k) x) s
  let s2 := s1.setDgrp g { gr with badRun := 0, lostFrames := 0, fbit := fb }
  let fts := if fb = old then s.fget (dgValues g) 127 64 else gr.chgTs
  let out := fun (k : Nat) => dioMode s (16 * g + k) == 2
  let keep := fun (k : Nat) => s.bit (dioStat (16 * g + k)) 6
  let s3 := s2.put (dgValues g) (pack [(s.clk.tb, 0), (fts, 64),
    (dioWord (fun k => dioMode s (16 * g + k) == 1 && (s.dch (16 * g + k)).filt), 128),
    (dioWord (fun k => out k && s.bit (dioStat (16 * g + k)) 2 && !keep k), 144), (dioWord (fun k => out k && keep k), 160)])
  let s4 := (s3.putBit (dgStat g) 4 fb).putBit (dgStat g) 5 (gr.ackSeq == gr.maskSeq)
  if fb = old then s4
  else
    let s5 := if fb then s4.countUp (dgCount g) 31 0 else s4
    if s.bit (dgProbe g) 31 then s5
    else s5.raiseAt fts 0xD1 (if fb then sevFault else sevInfo) 0 (dgObj g) (pack [(g, 0), (gr.mask, 24)])

/-- BARRIER_FRAME (R258, R259, R263, R267): the 10 µs frame of a group. `frameOk`: the field side accepts the command
frame; `ansOk`: its answer arrives valid. -/
def execBarrierFrame (g : Nat) (frameOk ansOk : Bool) (s : State) : Res := onBlock s fun s =>
  if 6 ≤ g then .next s
  else if s.phase ≠ .active ∨ !s.bit (dgStat g) 0 ∨ !s.bit (dgCfg g) 0 then .next s
  else
    let s0 := s.advanceTb (nextMultiple 10000 s.clk.tb)
    let s1 := forN 16 (fun k x => dioSend (16 * g + k) x) s0
    let s2 := if frameOk then dioAccept g s1 else s1
    let s3 := s2.setDgrp g { s2.dgrp g with first := false }
    if ansOk && s3.fget (dgStat g) 3 2 == 0 then .next (dioAnswer g s3)
    else if ansOk then .next s3
    else .next ((s3.setDgrp g { s3.dgrp g with badRun := (s3.dgrp g).badRun + 1,
                                               lostFrames := (s3.dgrp g).lostFrames + 1 }).countUp (dgStat g) 31 16)

/-- Whether the field sides have their logic power (R24, R78, R272). -/
def dioPowered (s : Block) : Bool :=
  match s.phase with
  | .off => false
  | .park => false
  | .deepPark => false
  | _ => true

/-- DIO_INPUT_TRANSITION (R256): the counter of an input reaches N (`on`) or 0. -/
def execDioInputTransition (n : Nat) (on : Bool) (s : State) : Res := onBlock s fun s =>
  if 96 ≤ n then .next s
  else if !dioPowered s ∨ dioModeF s n ≠ 1 ∨ (s.dch n).filt = on then .next s
  else
    let c := s.dch n
    .next (s.setDch n { c with filt := on, cnt := if on then fld c.cfgF 23 16 else 0, chg := chgNext c s.clk.tb })

/-- WIRE_BREAK (R257): below 0.35 mA for 10 ms; nothing is declared while L+ is below 18 V. -/
def execWireBreak (n : Nat) (s : State) : Res := onBlock s fun s =>
  if 96 ≤ n then .next s
  else if !dioPowered s ∨ dioModeF s n ≠ 1 ∨ !bitAt (s.dch n).cfgF 3 ∨ (s.dgrp (n / 16)).uv ∨ (s.dch n).wb then .next s
  else .next (dioNote (n / 16) s (s.setDch n { s.dch n with wb := true }))

/-- WIRE_BREAK_CLEAR (R257): at or above 0.5 mA for 10 ms. -/
def execWireBreakClear (n : Nat) (s : State) : Res := onBlock s fun s =>
  if 96 ≤ n then .next s
  else if !dioPowered s ∨ (s.dgrp (n / 16)).uv ∨ !(s.dch n).wb then .next s
  else .next (dioNote (n / 16) s (s.setDch n { s.dch n with wb := false }))

/-- One channel after an overload: off, and latched when RETRY_MAX retries are used up (R261). -/
def dioOverloadOne (s : Block) (n : Nat) : Block :=
  let s := dioCut s n
  let c := s.dch n
  if fld (s.dgrp (n / 16)).cfgF 35 32 ≤ c.ovlRun then
    s.setDch n { c with latched := true, ovl := false, ovlRun := c.ovlRun + 1 }
  else s.setDch n { c with ovl := true, ovlRun := c.ovlRun + 1, retryAt := s.clk.raw + 100000000 }

/-- DIO_OVERLOAD (R261): the channel, or its whole set, is switched off, or latched. -/
def execDioOverload (n : Nat) (s : State) : Res := onBlock s fun s =>
  if 96 ≤ n then .next s
  else if !dioPin s n then .next s
  else .next (dioNote (n / 16) s ((dioSetF s n).foldl dioOverloadOne s))

/-- One channel switched on again after an overload, if its applied value is still on. -/
def dioRetryOne (s : Block) (n : Nat) : Block :=
  s.setDch n { s.dch n with ovl := false, swAt := s.clk.raw, onSince := s.clk.raw }

/-- DIO_OVERLOAD_RETRY (R261): 100 ms after the overload the output is on again if its applied value is on. -/
def execDioOverloadRetry (n : Nat) (s : State) : Res := onBlock s fun s =>
  if 96 ≤ n then .next s
  else if !dioPowered s ∨ !(s.dch n).ovl then .next s
  else
    let s0 := s.advanceTo (s.dch n).retryAt
    .next (dioNote (n / 16) s0 ((dioSetF s0 n).foldl dioRetryOne s0))

/-- Whether read-back of a channel may be compared: an output with L+ at 18 V or above, 10 ms after its last switching
(R262). -/
def dioCompared (s : Block) (n : Nat) : Bool :=
  dioModeF s n == 2 && !(s.dgrp (n / 16)).uv && (s.dch n).swAt + 10000000 ≤ s.clk.raw

/-- READBACK_MISMATCH (R262): declared (`on`) or ended. -/
def execReadbackMismatch (n : Nat) (on : Bool) (s : State) : Res := onBlock s fun s =>
  if 96 ≤ n then .next s
  else if !dioPowered s ∨ !dioCompared s n ∨ (s.dch n).rb = on ∨
      (on ∧ (s.dch n).want ∧ ((s.dch n).ovl ∨ (s.dch n).latched)) then .next s
  else .next (dioNote (n / 16) s (s.setDch n { s.dch n with rb := on }))

/-- PARALLEL_MISMATCH (R262): declared on a member of a set (`on`) or ended. -/
def execParallelMismatch (n : Nat) (on : Bool) (s : State) : Res := onBlock s fun s =>
  if 96 ≤ n then .next s
  else if !dioPowered s ∨ dioModeF s n ≠ 2 ∨ (dioSetF s n).length ≤ 1 ∨ (s.dch n).pm = on then .next s
  else .next (dioNote (n / 16) s (s.setDch n { s.dch n with pm := on }))

/-- One output under the link-timeout pattern (R263): the SAFE_ST that its field side holds. -/
def dioPatternOne (s : Block) (n : Nat) : Block :=
  if dioModeF s n ≠ 2 then dioApply n false s
  else match fld (s.dch (dioLeadF s n)).cfgF 7 6 with
    | 1 => dioApply n true s
    | 2 => s
    | _ => dioApply n false s

/-- LINK_TIMEOUT_PATTERN (R263, R78): no frame accepted for SST, with the configuration that the field side holds. -/
def execLinkTimeoutPattern (g : Nat) (s : State) : Res := onBlock s fun s =>
  if 6 ≤ g then .next s
  else if !dioPowered s ∨ !bitAt (s.dgrp g).cfgF 0 then .next s
  else
    let s1 := forN 16 (fun k x => dioPatternOne x (16 * g + k)) s
    .next (dioNote g s (s1.setDgrp g { s1.dgrp g with pattern := true }))

/-- DIO_LINK_LOST (R264): three consecutive answers missing or bad. -/
def execDioLinkLost (g : Nat) (s : State) : Res := onBlock s fun s =>
  if 6 ≤ g then .next s
  else if s.phase ≠ .active ∨ !s.bit (dgStat g) 0 ∨ s.fget (dgStat g) 3 2 ≠ 0 ∨ (s.dgrp g).badRun < 3 then .next s
  else
    let n := (s.dgrp g).lostFrames
    let s1 := s.setDgrp g { s.dgrp g with badRun := 0, retrainAt := s.clk.raw + 100000000 }
    .next (((s1.fput (dgStat g) 3 2 1).countUp (dgCount g) 63 32).raise 0xD2 sevFault (dgObj g) (pack [(g, 0), (n, 32)]))

/-- 0xD6 and FAILED of a group whose link does not train (R272). -/
def dioFailed (g : Nat) (s : Block) : Block :=
  ((s.putBit (dgStat g) 1 true).fput (dgStat g) 3 2 1).raise 0xD6 sevFault (dgObj g) g

/-- A group brought up (R272): READY with its field side configured, or FAILED. -/
def dioBringUp (g : Nat) (ok : Bool) (s : Block) : Block :=
  if ok then dioLoad g ((s.putBit (dgStat g) 0 true).fput (dgStat g) 3 2 0) else dioFailed g s

/-- DIO_LINK_RETRAIN (R264): a training attempt; `ok`: a valid answer arrives. A group that CFG.EN has started trains once, for
100 ms (R272). -/
def execDioLinkRetrain (g : Nat) (ok : Bool) (s : State) : Res := onBlock s fun s =>
  if 6 ≤ g then .next s
  else if s.phase ≠ .active ∨ s.bit (dgStat g) 1 ∨ s.fget (dgStat g) 3 2 = 0 then .next s
  else
    let s0 := s.advanceTo (s.dgrp g).retrainAt
    if !s0.bit (dgStat g) 0 then .next (dioBringUp g ok s0)
    else if ok then
      let n := (s0.dgrp g).lostFrames
      let s1 := s0.setDgrp g { s0.dgrp g with badRun := 0, lostFrames := 0 }
      .next ((s1.fput (dgStat g) 3 2 0).raise 0xD2 sevInfo (dgObj g) (pack [(g, 0), (n, 32)]))
    else .next ((s0.setDgrp g { s0.dgrp g with retrainAt := s0.clk.raw + 100000000 }).fput (dgStat g) 3 2 2)

/-- L_PLUS_UNDERVOLTAGE (R265): below 18 V for 1 ms. -/
def execLPlusUndervoltage (g : Nat) (s : State) : Res := onBlock s fun s =>
  if 6 ≤ g then .next s
  else if !dioPowered s ∨ (s.dgrp g).uv then .next s
  else .next (dioNote g s (s.setDgrp g { s.dgrp g with uv := true }))

/-- L_PLUS_LOW (R265): below 14 V for 100 µs, every output of the group off. -/
def execLPlusLow (g : Nat) (s : State) : Res := onBlock s fun s =>
  if 6 ≤ g then .next s
  else if !dioPowered s then .next s
  else
    let s1 := dioCutAll g s
    .next (dioNote g s (s1.setDgrp g { s1.dgrp g with low := true }))

/-- Every output of a group that takes its applied value again counts a new on-period. -/
def dioReturnOne (s : Block) (n : Nat) : Block :=
  if (s.dch n).want then s.setDch n { s.dch n with swAt := s.clk.raw, onSince := s.clk.raw } else s

/-- L_PLUS_RECOVERY (R265): at or above 18 V for 100 ms. -/
def execLPlusRecovery (g : Nat) (s : State) : Res := onBlock s fun s =>
  if 6 ≤ g then .next s
  else if !dioPowered s ∨ (!(s.dgrp g).uv ∧ !(s.dgrp g).low) then .next s
  else
    let s1 := if (s.dgrp g).low then forN 16 (fun k x => dioReturnOne x (16 * g + k)) s else s
    .next (dioNote g s (s1.setDgrp g { s1.dgrp g with uv := false, low := false }))

/-- FIELD_OVERTEMPERATURE (R266): 145 °C at the field side. -/
def execFieldOvertemperature (g : Nat) (s : State) : Res := onBlock s fun s =>
  if 6 ≤ g then .next s
  else if !dioPowered s ∨ (s.dgrp g).ot then .next s
  else
    let s1 := dioCutAll g s
    .next (dioNote g s (s1.setDgrp g { s1.dgrp g with ot := true }))

/-- FIELD_OVERTEMPERATURE_CLEAR (R266): below 125 °C for 1 s. -/
def execFieldOvertemperatureClear (g : Nat) (s : State) : Res := onBlock s fun s =>
  if 6 ≤ g then .next s
  else if !dioPowered s ∨ !(s.dgrp g).ot then .next s
  else
    let s1 := forN 16 (fun k x => dioReturnOne x (16 * g + k)) s
    .next (dioNote g s (s1.setDgrp g { s1.dgrp g with ot := false }))

/-- CMD CLEAR releases every overload latch of the group (R261). -/
def dioClearAct (g : Nat) (s : Block) : Block :=
  let one := fun (k : Nat) (x : Block) =>
    let c := x.dch (16 * g + k)
    if c.latched then x.setDch (16 * g + k) { c with latched := false, ovlRun := 0, swAt := x.clk.raw, onSince := x.clk.raw } else x
  (dioNote g s (forN 16 one s)).raise 0xD4 sevInfo (dgObj g) g

/-- The check of CMD and PROBE: the group READY (R274). -/
def dioReadyCheck (g : Nat) (s : Block) : Nat := if s.bit (dgStat g) 0 then 0 else 0x0303

/-- DIO_CLEAR (R261, R274). -/
def execDioClear (i g : Nat) (s : State) : Res := onBlock s fun s =>
  hostCommand i (dgCmd g) false (dioReadyCheck g) (dioClearAct g) noRefuse s

/-- Whether an origin owns SERVICE (R69). -/
def Block.ownsService (s : Block) (o : Origin) : Bool :=
  match o with
  | .sess i => s.fget modeState 18 16 == i + 1
  | .relay _ => false
  | .pair => true
  | .image => true

/-- The owner check of what only SERVICE takes (class 0x04 of R354): 0x0401 from another session. -/
def ownerErr (o : Origin) (s : Block) : Nat := if s.modeNo ≠ 5 ∨ s.ownsService o then 0 else 0x0401

/-- PROBE as written (R269, R270): a new mask sequence number, PROBE_ACK down until it is returned. -/
def dioProbeAct (g v : Nat) (s : Block) : Block :=
  let s1 := (s.put (dgProbe g) v).setDgrp g { s.dgrp g with maskSeq := (s.dgrp g).maskSeq + 1 }
  (s1.putBit (dgStat g) 5 false).putBit (dgStat g) 6 (bitAt v 31)

/-- The check of a PROBE write (R270, R274, R354). -/
def probeCheck (o : Origin) (g v : Nat) (s : Block) : Nat :=
  if s.modeNo ≠ 5 then 0x0301
  else if dioReadyCheck g s ≠ 0 then dioReadyCheck g s
  else firstErr [numErr s (dgProbe g) v, ownerErr o s]

/-- PROBE_WRITE (R270, R274). -/
def execProbeWrite (i g v : Nat) (s : State) : Res := onBlock s fun s =>
  hostCommand i (dgProbe g) false (probeCheck (.sess i) g v) (dioProbeAct g v) noRefuse s

/-- What a write of a group CFG does beside switching its sets (R272): EN taken away switches every output off and ends the
link; EN given starts the link, unless the group has FAILED. -/
def dioGroupEn (g : Nat) (was : Bool) (s : Block) : Block :=
  let on := s.bit (dgCfg g) 0
  if was && !on then
    let s1 := forN 16 (fun k x =>
      let y := dioApply (16 * g + k) false x
      y.setDch (16 * g + k) { y.dch (16 * g + k) with cfgF := 0, offNext := false }) s
    ((s1.setDgrp g { s1.dgrp g with cfgF := 0, first := false }).putBit (dgStat g) 0 false).fput (dgStat g) 3 2 0
  else if !was && on && !s.bit (dgStat g) 1 then
    (s.setDgrp g { s.dgrp g with retrainAt := s.clk.raw + 100000000 }).fput (dgStat g) 3 2 2
  else s

/-- A channel whose field side has lost its logic power (R24, R261). -/
def DioCh.lost (c : DioCh) : DioCh := { dioCh0 with manSet := c.manSet, lineOn := c.lineOn }

/-- The field sides lose their logic power at park entry (R272): every output off, every latch and configuration lost. -/
def dioParked (s : Block) : Block :=
  let s1 := forN 96 (fun n x => if dioMode x n = 2 then x.putBit (dioStat n) 2 false else x) s
  { s1 with dio := { ch := s1.dio.ch.map DioCh.lost
                     grp := s1.dio.grp.map (fun c => { dioGrp0 with maskSeq := c.maskSeq }) } }

/-- The groups brought up again after PARK (R74, R272). -/
def dioUnpark (s : Block) : Block := forN 6 (fun g x => if x.bit (dgStat g) 0 then dioLoad g x else x) s

/-- What a reset does to the field I/O: power lost at POR, BOR and DEEP PARK, else the field sides run on (R78, R273). -/
def dioReset (powerLost : Bool) (s : Block) : Block :=
  if powerLost then { s with dio := dioInit }
  else { s with dio := { ch := s.dio.ch.map (fun c => { c with manSet := false, lineOn := none, offNext := false, chg := none })
                         grp := s.dio.grp.map (fun c => { c with maskSeq := 0, ackSeq := 0, first := false, badRun := 0, lostFrames := 0 }) } }

end Sys2Proof.Machine
end

