-- ==== Sys2Proof/Machine/Valve.lean ====
section
/-! DEFINITION. Machine/Valve.lean: the valve banks and their shaped-current drive (chapter 10, R232 to R253). -/

namespace Sys2Proof.Machine

/-- Channel n. -/
def Block.vch (s : Block) (n : Nat) : ValveCh := getL s.valve.ch n valveCh0
/-- The machine with channel n replaced. -/
def Block.setVch (s : Block) (n : Nat) (c : ValveCh) : Block :=
  { s with valve := { s.valve with ch := setAt s.valve.ch n c } }

/-- Whether a channel is PROP. -/
def vProp (s : Block) (n : Nat) : Bool := s.bit (vlvCfg n) 1
/-- PI_I in mA. -/
def vPiI (s : Block) (n : Nat) : Nat := s.fget (vlvShape n) 15 0
/-- PI_T in 10 µs. -/
def vPiT (s : Block) (n : Nat) : Nat := s.fget (vlvShape n) 31 16
/-- HOLD_I in mA. -/
def vHoldI (s : Block) (n : Nat) : Nat := s.fget (vlvShape n) 47 32
/-- PROP_MAX in mA. -/
def vPropMax (s : Block) (n : Nat) : Nat := s.fget (vlvShape n) 63 48

/-- The boost account filled up to now: 20 mJ per ms, 2 units per ns (R241). -/
def boostNow (s : Block) : Nat := min boostCap (s.valve.acc + 2 * (s.clk.raw - s.valve.accAt))

/-- A thermal cap × (1 − 0.1·s) (R244). -/
def vCap (x st : Nat) : Nat := (rdiv (x * (10 - st) : Nat) 10).toNat

/-- The current a channel regulates to: PI_I in pull-in, capped HOLD_I in hold, capped target in PROP (R236, R244). -/
def vTarget (s : Block) (n : Nat) : Nat :=
  let c := s.vch n
  let st := s.fget (vlvStat n) 14 12
  if c.piFrom.isSome then vPiI s n
  else if !c.hold then 0
  else if vProp s n then min c.out (min (vPropMax s n) (vCap (vPropMax s n) st))
  else vCap (vHoldI s n) st

/-- The current a channel reserves (R238). -/
def vReserve (s : Block) (n : Nat) : Nat :=
  if !s.bit (vlvCfg n) 0 then 0
  else if vProp s n then vPropMax s n
  else if (s.vch n).resv then vHoldI s n else 0

/-- The reserved current of a bank. -/
def vBankRes (s : Block) (b : Nat) : Nat := sumN ((List.range 4).map (fun k => vReserve s (4 * b + k)))
/-- The reserved current of the module. -/
def vModRes (s : Block) : Nat := sumN ((List.range 24).map (fun n => vReserve s n))

/-- Pull-ins running in the module. -/
def vRunning (s : Block) : Nat := (s.valve.ch.filter (fun c => c.piFrom.isSome)).length
/-- Requests queued in the module. -/
def vQueued (s : Block) : Nat := (s.valve.ch.filter (fun c => c.req.isSome)).length

/-- The channel in pull-in of a bank. -/
def vBankPi (s : Block) (b : Nat) : Option Nat := (List.range 4).find? (fun k => (s.vch (4 * b + k)).piFrom.isSome)

/-- Whether a SHORT_GND holds a bank off under SGND_ACT BANK_OFF (R248). -/
def vSgndOff (s : Block) (b : Nat) : Bool :=
  !s.bit (bnkCfg b) 1 && (List.range 4).any (fun k => s.bit (vlvStat (4 * b + k)) 7 && s.fget (vlvStat (4 * b + k)) 6 4 == 3)

/-- Whether a bank's stage is off: disabled, not READY, faulted, shut down or without VBb (R233, R244, R248). -/
def vBankOff (s : Block) (b : Nat) : Bool :=
  vSgndOff s b || !s.bit (bnkCfg b) 0 || !s.bit (bnkStat b) 0 || s.fget (bnkStat b) 9 7 != 0 || s.bit (bnkStat b) 10 ||
  s.bit (bnkStat b) 12

/-- Whether levels 1 and 2 hold a channel off (R244). -/
def vBlocked (s : Block) (n : Nat) : Bool :=
  s.phase != .active || !s.bit (vlvCfg n) 0 || s.bit (vlvStat n) 7 || vBankOff s (n / 4)

/-- The STATE code of a channel. -/
def vStateCode (s : Block) (n : Nat) : Nat :=
  let c := s.vch n
  if !s.bit (vlvCfg n) 0 then 7
  else if vBankOff s (n / 4) then 6
  else if s.bit (vlvStat n) 7 then 5
  else if c.req.isSome then 1
  else if c.piFrom.isSome then 2
  else if c.hold then (if vProp s n then 4 else 3)
  else 0

/-- Brings a channel's status words, its bank's and the pool's up to date (R239 to R244). -/
def vSync (n : Nat) (s : Block) : Block :=
  let c := s.vch n
  let b := n / 4
  let st := setFld (setFld (s.get (vlvStat n)) 2 0 (vStateCode s n)) 15 15
    (b2n (match c.req with | some r => r.deadline.isNone | none => false))
  let s1 := s.put (vlvStat n) st
  let pi := vBankPi s b
  let hs := if vBankOff s b then 0 else
    match pi with
    | some k => if (s.vch (4 * b + k)).piVb then 1 else 2
    | none => 1
  let bs := setFld (setFld (setFld (s.get (bnkStat b)) 3 2 hs) 5 4 (pi.getD 0)) 6 6 (b2n pi.isSome)
  let s2 := s1.put (bnkStat b) bs
  let s3 := s2.fput (bnkValues b) 143 128 (vBankRes s b)
  s3.put vlvPool (pack [(vRunning s, 0), (vQueued s, 2), (boostNow s / 100000, 8), (vModRes s, 32)])

/-- The value levels 4 and 5 give and whether level 4 forces it (R244, R245, *Mode forcing by output class*). HOLD takes the value last
applied, also where level 1 or 2 has made that 0 (log entry 47). -/
def vWanted (s : Block) (n : Nat) : Nat × Bool :=
  let cls := s.fget (vlvCfg n) 3 2
  let last := if (s.vch n).req.isSome then 0 else (s.vch n).out
  match s.outMode with
  | 2 => (s.get (vlvSp n), false)
  | 3 => if cls = 0 then (last, true) else (0, true)
  | 4 =>
    if cls = 0 then
      (match s.fget (vlvCfg n) 5 4 with
       | 1 => (if vProp s n then s.fget (vlvCfg n) 47 32 else 1, true)
       | 2 => (last, true)
       | _ => (0, true))
    else (0, true)
  | 5 => (if (s.vch n).manSet then s.get (vlvMan n) else 0, false)
  | _ => (0, true)

/-- Turns a channel off: a queued request is withdrawn, a running pull-in ends (R237, R243). -/
def vOff (n : Nat) (s : Block) : Block :=
  let c := s.vch n
  s.setVch n { c with out := 0, req := none, piFrom := none, hold := false, resv := false, fullFrom := none,
                      dithFrom := none }

/-- Refuses a request: REFUSED, the count and 0xC0 with its cause and the time waited (R238, R240). -/
def vRefuse (n cause : Nat) (s : Block) : Block :=
  let c := s.vch n
  let us := match c.req with | some r => (s.clk.raw - r.tick) / 1000 | none => 0
  let s1 := (s.setVch n { c with out := 0, req := none, resv := false, hold := false }).putBit (vlvStat n) 3 true
  let s2 := (s1.countUp (vlvCount n) 95 64).fput (vlvValues n) 159 128 us
  s2.raise 0xC0 sevWarn (vlvObj n) (pack [(cause, 0), (us, 32)])

/-- The budget an off-to-on transition would exceed (R238): 0 none, 2 the bank's, 3 the module's. -/
def vBudget (s : Block) (n : Nat) : Nat :=
  if 8000 < vBankRes s (n / 4) + vHoldI s n then 2
  else if 30000 < vModRes s + vHoldI s n then 3 else 0

/-- Whether VBOOST may start a pull-in (R239, R242). -/
def vBoostOk (s : Block) : Bool := s.bit devSupply 2 && !s.pfActive

/-- A request first waits for VBOOST (R242): 0xC8. -/
def vBoostWarn (n : Nat) (s : Block) : Block :=
  ({ s with valve := { s.valve with boostW := true } }).raise 0xC8 sevWarn (vlvObj n) n

/-- An off-to-on transition of a SWITCH channel (R234, R238): refused on its budget, straight to hold with PI_T = 0,
else a pull-in request. -/
def vTurnOn (n : Nat) (forced : Bool) (s : Block) : Block :=
  let c := s.vch n
  let bud := vBudget s n
  if bud ≠ 0 then vRefuse n bud s
  else if vPiT s n = 0 then (s.setVch n { c with out := 1, resv := true, hold := true }).putBit (vlvStat n) 3 false
  else
    let tick := s.clk.raw + (ceilMultiple 1000 s.clk.tb - s.clk.tb)
    let r : PiReq := { deadline := if forced then none else some (tick + s.fget (vlvCfg n) 31 16 * 10000), tick := tick,
                       deferred := false, boost := !vBoostOk s && !s.bit (vlvCfg n) 9 }
    let s1 := (s.setVch n { c with out := 1, resv := true, req := some r }).putBit (vlvStat n) 3 false
    if r.boost then vBoostWarn n s1 else s1

/-- Clears a latched channel fault and says so (R248). -/
def vUnlatch (n : Nat) (s : Block) : Block :=
  let s1 := (s.putBit (vlvStat n) 7 false).fput (vlvStat n) 6 4
    (if (s.vch n).openOn then 1 else if (s.vch n).openOff then 2 else 0)
  s1.raise 0xC4 sevInfo (vlvObj n) 0

/-- The automatic clear of R248 at an off-to-on transition of the value of levels 4 and 5: at most 3 in 60 min. -/
def vAutoClear (n : Nat) (s : Block) : Block :=
  let c := s.vch n
  let recent := c.autoClr.filter (fun t => s.clk.raw < t + 3600 * nsPerS)
  if s.bit (vlvStat n) 7 && s.bit (vlvCfg n) 7 && recent.length < 3 then
    vUnlatch n (s.setVch n { c with autoClr := s.clk.raw :: recent })
  else s

/-- Whether the thermal cap cuts a PROP channel's target (R244). -/
def vCapped (s : Block) (n : Nat) : Bool :=
  vProp s n && (s.vch n).hold && vCap (vPropMax s n) (s.fget (vlvStat n) 14 12) < (s.vch n).out

/-- Sets or clears CAPPED, with 0xC7 at each change. -/
def vCapSync (n : Nat) (s : Block) : Block :=
  let now := vCapped s n
  if now == s.bit (vlvStat n) 10 then s
  else (s.putBit (vlvStat n) 10 now).raise 0xC7 (if now then sevWarn else sevInfo) (vlvObj n) 0

/-- Evaluates one channel against the *Output precedence* table (R7, R244): the applied value it takes and what a
change of it starts. `forcedReq`: a rising value issues a forced request (R240, R250). -/
def vEvalOne (n : Nat) (forcedReq : Bool) (s : Block) : Block :=
  let w := vWanted s n
  let c0 := s.vch n
  let s0 := if c0.want = 0 ∧ w.1 ≠ 0 then vAutoClear n s else s
  let blocked := vBlocked s0 n
  let s1 := (s0.setVch n { s0.vch n with want := w.1 }).putBit (vlvStat n) 9 (w.2 || blocked)
  let c := s1.vch n
  let v := if blocked then 0 else if vProp s n then min w.1 (vPropMax s n) else min w.1 1
  let s2 :=
    if v = 0 then
      (if c.out = 0 ∧ c.req.isNone then s1
       else if c.req.isSome ∧ w.1 ≠ 0 ∧ s1.bit (vlvCfg n) 0 ∧ !s1.bit (vlvStat n) 7 ∧ !s1.bit (bnkStat (n / 4)) 12 then
         -- the bank is faulted or shut down: its queued requests keep waiting (R249)
         s1
       else vOff n s1)
    else if vProp s n then
      s1.setVch n { c with out := v, hold := true,
                           dithFrom := if c.out = 0 then some s.clk.raw else c.dithFrom }
    else if c.out ≠ 0 then
      -- a queued request driven by mode forcing becomes forced (R252)
      match c.req with
      | some r => if w.2 || forcedReq then s1.setVch n { c with req := some { r with deadline := none } } else s1
      | none => s1
    else if c0.want ≠ 0 ∧ s.bit (vlvStat n) 3 then s1
    else vTurnOn n (forcedReq || w.2) s1
  vSync n (vCapSync n s2)

/-- The same, with the other channels of the bank where an automatic clear has ended what held the whole bank off (R248). -/
def vEval (n : Nat) (forcedReq : Bool) (s : Block) : Block :=
  let s1 := vEvalOne n forcedReq s
  if vSgndOff s (n / 4) && !vSgndOff s1 (n / 4) then
    forN 4 (fun k x => if 4 * (n / 4) + k = n then x else vEvalOne (4 * (n / 4) + k) false x) s1
  else s1

/-- Evaluates every channel. -/
def vEvalAll (forcedReq : Bool) (s : Block) : Block := forN 24 (fun n x => vEval n forcedReq x) s

/-- Evaluates the four channels of a bank. -/
def vEvalBank (b : Nat) (forcedReq : Bool) (s : Block) : Block := forN 4 (fun k x => vEval (4 * b + k) forcedReq x) s

/-- The energy a pull-in of channel n debits, in 10 nJ (R241). -/
def vDebit (s : Block) (n : Nat) : Nat :=
  let others := (List.range 4).map (fun k =>
    if 4 * (n / 4) + k = n then 0 else if (s.vch (4 * (n / 4) + k)).hold then vTarget s (4 * (n / 4) + k) else 0)
  48 * (vPiI s n + sumN others) * vPiT s n

/-- Whether a request meets R239 at this tick (by VBOOST, or by VBb under R242). -/
def vCanStart (s : Block) (n : Nat) : Bool :=
  (vBankPi s (n / 4)).isNone && vRunning s < 3 && !vBankOff s (n / 4) &&
  (if vBoostOk s then vDebit s n ≤ boostNow s else s.bit (vlvCfg n) 9)

/-- Order of two requests (R240): forced, deadline, request tick, channel. -/
def vBefore (a b : Nat × PiReq) : Bool :=
  match a.2.deadline, b.2.deadline with
  | none, some _ => true
  | some _, none => false
  | none, none => a.2.tick < b.2.tick || (a.2.tick == b.2.tick && a.1 < b.1)
  | some x, some y => x < y || (x == y && (a.2.tick < b.2.tick || (a.2.tick == b.2.tick && a.1 < b.1)))

/-- A list with an element at its place in an order. -/
def insertBy {α : Type} (lt : α → α → Bool) (x : α) : List α → List α
  | [] => [x]
  | y :: r => if lt x y then x :: y :: r else y :: insertBy lt x r

/-- The queue in the order of R240. -/
def vQueue (s : Block) : List (Nat × PiReq) :=
  (List.range 24).foldl (fun q n => match (s.vch n).req with | some r => insertBy vBefore (n, r) q | none => q) []

/-- Considers one request at a tick: it starts when R239 holds, else it is deferred (R239 to R242). -/
def vConsider (s : Block) (e : Nat × PiReq) : Block :=
  let n := e.1
  let c := s.vch n
  if vCanStart s n then
    let acc := boostNow s
    let debit := if vBoostOk s then vDebit s n else 0
    let s1 := s.setVch n { c with req := none, piFrom := some s.clk.raw, piVb := !vBoostOk s, hold := false }
    let s2 := { s1 with valve := { s1.valve with acc := acc - debit, accAt := s.clk.raw } }
    let s3 := (s2.countUp (vlvCount n) 31 0).fput (vlvValues n) 159 128 ((s.clk.raw - e.2.tick) / 1000)
    vSync n s3
  else
    let wait := !vBoostOk s && !s.bit (vlvCfg n) 9
    let s1 := s.setVch n { c with req := some { e.2 with deferred := true, boost := e.2.boost || wait } }
    let s2 := if e.2.deferred then s1 else s1.countUp (vlvCount n) 63 32
    let s3 := if wait && !e.2.boost then vBoostWarn n s2 else s2
    vSync n s3

/-- One scheduler tick: every request in the order of R240. -/
def vTick (s : Block) : Block := (vQueue s).foldl vConsider s

/-- PULLIN_START (R239, R240): the scheduler's next 1 µs tick. -/
def execPullinStart (s : State) : Res := onBlock s fun s =>
  if s.phase ≠ .active ∨ vQueued s = 0 then .next s
  else .next (vTick (s.advanceTb (ceilMultiple 1000 s.clk.tb)))

/-- The channel of an ended pull-in goes to hold (*Pull-in* steps 4 and 5). -/
def vPiDone (n : Nat) (s : Block) : Block :=
  vSync n (s.setVch n { s.vch n with piFrom := none, hold := true })

/-- PULLIN_END (R234, R240): PI_T has passed; the next request of the bank may start at the same tick. -/
def execPullinEnd (n : Nat) (s : State) : Res := onBlock s fun s =>
  if 24 ≤ n then .next s
  else match (s.vch n).piFrom with
    | none => .next s
    | some t => .next (vTick (vPiDone n (s.advanceTo (t + vPiT s n * 10000))))

/-- PULLIN_DEADLINE (R240): a request that is not forced and has not started at its deadline is refused. -/
def execPullinDeadline (n : Nat) (s : State) : Res := onBlock s fun s =>
  if 24 ≤ n then .next s
  else match (s.vch n).req with
    | none => .next s
    | some r => match r.deadline with
      | none => .next s
      | some d => .next (vSync n (vRefuse n 1 (s.advanceTo d)))

/-- Switches a bank's stage off: every channel off; queued requests stay or are withdrawn (R249, R250). -/
def vBankDrop (b : Nat) (keepQueue : Bool) (s : Block) : Block :=
  forN 4 (fun k x =>
    let n := 4 * b + k
    let c := x.vch n
    if keepQueue && c.req.isSome then vSync n (x.putBit (vlvStat n) 9 true)
    else vSync n ((vOff n x).putBit (vlvStat n) 9 true)) s

/-- Latches a short and applies its reaction (R246, R248). -/
def vShort (n kind ma : Nat) (s : Block) : Block :=
  let s1 := (s.fput (vlvStat n) 6 4 kind).putBit (vlvStat n) 7 true
  let s2 := (s1.countUp (vlvCount n) 127 96).raiseC 0xC2 sevFault (kind - 3) (vlvObj n) ma
  let s3 := vSync n ((vOff n s2).putBit (vlvStat n) 9 true)
  if kind = 3 ∧ !s.bit (bnkCfg (n / 4)) 1 then vBankDrop (n / 4) false s3 else s3

/-- Whether the off-state signatures of a channel are judged (R246, R247): DIAG_OFF, off, with the bank's high side on. -/
def vOffTest (s : Block) (n : Nat) : Bool :=
  s.bit (vlvCfg n) 8 && !(s.vch n).hold && (s.vch n).piFrom.isNone && !vBankOff s (n / 4)

/-- Whether the on-state signatures of a channel are judged. -/
def vOnTest (s : Block) (n : Nat) : Bool := (s.vch n).hold || (s.vch n).piFrom.isSome

/-- The signature that what is observed of a channel makes (R246, R247, R250, the *Channel fault signatures* table): 1 OPEN_ON, 2 OPEN_OFF,
3 SHORT_GND, 4 SHORT_SUP. A channel at full duty has no off phase, and one whose bank is VB_LOW reports UNDERCUR, not OPEN_ON. -/
def vSignature (s : Block) (n : Nat) (m : ValveLook) : Option Nat :=
  let c := s.vch n
  if vOnTest s n then
    if 8000 < m.iCh then some 4
    else if 100 ≤ m.iU ∧ m.vLs < 1000 ∧ !m.full then some 3
    else if c.piFrom.isSome then (if 2 * m.iCh < vPiI s n then some 1 else none)
    else if m.full ∧ 10 * m.iCh < vTarget s n ∧ s.fget (bnkCfg (n / 4)) 23 8 ≤ m.vCom ∧ !s.bit (bnkStat (n / 4)) 11 then some 1
    else none
  else if vOffTest s n then
    if m.vLs < 1000 then some (if 100 ≤ m.iU then 3 else 2)
    else if 1000 < m.vLs ∧ 1000 < ((m.vLs : Int) - m.vCom).natAbs then some 4
    else none
  else none

/-- VALVE_CHANNEL_FAULT (R246 to R248, R250): a signature of the *Channel fault signatures* table is declared, OPEN_ON of a pull-in at
the end of PI_T. With SGND_ACT BANK_OFF a SHORT_GND takes the whole bank off. -/
def execValveChannelFault (n : Nat) (m : ValveLook) (s : State) : Res := onBlock s fun s =>
  if 24 ≤ n then .next s
  else if s.phase ≠ .active ∨ !s.bit (vlvCfg n) 0 ∨ s.bit (vlvStat n) 7 then .next s
  else match vSignature s n m with
    | some 1 =>
      if (s.vch n).openOn then .next s
      else
        let s0 := match (s.vch n).piFrom with | some t => s.advanceTo (t + vPiT s n * 10000) | none => s
        .next (((s0.setVch n { s0.vch n with openOn := true }).fput (vlvStat n) 6 4 1).countUp (vlvCount n) 127 96
          |>.raiseC 0xC1 sevFault 1 (vlvObj n) 0)
    | some 2 =>
      if (s.vch n).openOff then .next s
      else .next (((s.setVch n { s.vch n with openOff := true }).fput (vlvStat n) 6 4
          (if (s.vch n).openOn then 1 else 2)).countUp (vlvCount n) 127 96
        |>.raiseC 0xC1 sevFault 0 (vlvObj n) 0)
    | some 3 => .next (vShort n 3 (ofS 32 m.iU) s)
    | some 4 => .next (vShort n 4 m.iCh s)
    | _ => .next s

/-- The fault that what is observed of a bank makes (R249): 1 HS_OVERCURRENT, 2 COM_SHORT_GND, 3 COM_SHORT_SUP, 0 none. -/
def bnkSignature (s : Block) (b iHs vCom vSrc : Nat) (rev : Bool) : Nat :=
  let on := s.fget (bnkStat b) 3 2 != 0
  if 16000 < iHs then 1
  else if on ∧ 2 * vCom < vSrc then 2
  else if rev ∨ (!on ∧ 2000 < vCom) then 3
  else 0

/-- VALVE_BANK_FAULT (R249): the bank goes off and latches. -/
def execValveBankFault (b iHs vCom vSrc : Nat) (rev : Bool) (s : State) : Res := onBlock s fun s =>
  if 6 ≤ b then .next s
  else if s.phase ≠ .active ∨ !s.bit (bnkStat b) 0 ∨ s.fget (bnkStat b) 9 7 ≠ 0 ∨ bnkSignature s b iHs vCom vSrc rev = 0 then .next s
  else
    let kind := bnkSignature s b iHs vCom vSrc rev
    let s1 := (s.fput (bnkStat b) 9 7 kind).fput (bnkValues b) 111 96 iHs
    .next ((vBankDrop b true s1).raise 0xC3 sevFault (bnkObj b) (pack [(kind, 0), (iHs % 2 ^ 16, 16)]))

/-- VB_LOW (R250): below VB_MIN for 1 ms. -/
def execVbLow (b mv : Nat) (s : State) : Res := onBlock s fun s =>
  if 6 ≤ b then .next s
  else if s.phase ≠ .active ∨ !s.bit (bnkStat b) 0 ∨ s.bit (bnkStat b) 11 ∨ s.fget (bnkCfg b) 23 8 ≤ mv then .next s
  else .next (((s.putBit (bnkStat b) 11 true).fput (bnkValues b) 79 64 mv).raise 0xC5 sevWarn (bnkObj b)
    (pack [(1, 0), (mv % 2 ^ 16, 16)]))

/-- VB_ABSENT (R250): below 4.0 V for 100 µs; the bank goes off and its queued requests are withdrawn. -/
def execVbAbsent (b mv : Nat) (s : State) : Res := onBlock s fun s =>
  if 6 ≤ b then .next s
  else if s.phase ≠ .active ∨ !s.bit (bnkStat b) 0 ∨ s.bit (bnkStat b) 12 ∨ 4000 ≤ mv then .next s
  else
    let s1 := (s.putBit (bnkStat b) 12 true).fput (bnkValues b) 79 64 mv
    .next ((vBankDrop b false s1).raise 0xC5 sevWarn (bnkObj b) (pack [(2, 0), (mv % 2 ^ 16, 16)]))

/-- VB_RETURN (R250): above VB_MIN + 0.5 V for 100 ms; forced re-requests where VBb was absent. -/
def execVbReturn (b mv : Nat) (s : State) : Res := onBlock s fun s =>
  if 6 ≤ b then .next s
  else if s.phase ≠ .active ∨ (!s.bit (bnkStat b) 11 ∧ !s.bit (bnkStat b) 12) ∨ mv ≤ s.fget (bnkCfg b) 23 8 + 500 then .next s
  else
    let s1 := ((s.putBit (bnkStat b) 11 false).putBit (bnkStat b) 12 false).fput (bnkValues b) 79 64 mv
    .next ((vEvalBank b (s.bit (bnkStat b) 12) s1).raise 0xC5 sevInfo (bnkObj b) (pack [(0, 0), (mv % 2 ^ 16, 16)]))

/-- The check of CMD: the channel's bank READY (R253). -/
def vReadyCheck (b : Nat) (s : Block) : Nat := if s.bit (bnkStat b) 0 then 0 else 0x0303

/-- The check of a channel CLEAR (R253); `present`: the condition persists. -/
def vClearCheck (n : Nat) (present : Bool) (s : Block) : Nat :=
  if vReadyCheck (n / 4) s ≠ 0 then 0x0303 else if !s.bit (vlvStat n) 7 || present then 0x0304 else 0

/-- A channel CLEAR taken (R248). -/
def vClearAct (n : Nat) (s : Block) : Block :=
  if s.fget (vlvStat n) 6 4 = 3 then vEvalBank (n / 4) false (vUnlatch n s) else vEval n false (vUnlatch n s)

/-- VALVE_CLEAR (R248, R253): clears a latched channel fault whose signature is absent. -/
def execValveClear (i n : Nat) (present : Bool) (s : State) : Res := onBlock s fun s =>
  hostCommand i (vlvCmd n) false (vClearCheck n present) (vClearAct n) noRefuse s

/-- The check of a RETRY (R240, R253). -/
def vRetryCheck (n : Nat) (s : Block) : Nat :=
  if vReadyCheck (n / 4) s ≠ 0 then 0x0303 else if !s.bit (vlvStat n) 3 then 0x0304
  else if (s.vch n).want ≠ 0 ∧ vBudget s n ≠ 0 then 0x0402 else 0

/-- A RETRY taken (R240). -/
def vRetryAct (n : Nat) (nodl : Bool) (s : Block) : Block :=
  if (s.vch n).want = 0 || vBlocked s n then vSync n (s.putBit (vlvStat n) 3 false) else vSync n (vTurnOn n nodl s)

/-- VALVE_RETRY (R240, R253): requests a refused pull-in again; `nodl`: without a deadline. -/
def execValveRetry (i n : Nat) (nodl : Bool) (s : State) : Res := onBlock s fun s =>
  hostCommand i (vlvCmd n) false (vRetryCheck n) (vRetryAct n nodl) noRefuse s

/-- The check of a bank CLEAR (R253); `present`: the condition persists. -/
def bnkClearCheck (b : Nat) (present : Bool) (s : Block) : Nat :=
  if vReadyCheck b s ≠ 0 then 0x0303 else if s.fget (bnkStat b) 9 7 = 0 || present then 0x0304 else 0

/-- A bank CLEAR taken (R249). -/
def bnkClearAct (b : Nat) (s : Block) : Block :=
  (vEvalBank b true (s.fput (bnkStat b) 9 7 0)).raise 0xC4 sevInfo (bnkObj b) 0

/-- BANK_CLEAR (R249, R253): clears a latched bank fault whose condition is absent; forced re-requests. -/
def execBankClear (i b : Nat) (present : Bool) (s : State) : Res := onBlock s fun s =>
  hostCommand i (bnkCmd b) false (bnkClearCheck b present) (bnkClearAct b) noRefuse s

/-- The dither offset of a PROP channel now, in half milliamperes (R236). -/
def vDither (s : Block) (n : Nat) : Int :=
  let f := s.fget (vlvShape n) 95 80
  let a := s.fget (vlvShape n) 79 64
  match (s.vch n).dithFrom with
  | none => 0
  | some t => if f = 0 then 0 else if (s.clk.raw - t) * 2 * f / nsPerS % 2 = 0 then (a : Int) else -(a : Int)

/-- CHOP_PERIOD (R235, R236, R244, R246, R250): a channel's chop period starts: the new target, step cap and dither half
take effect. `iMeas` is the mean current of the last period in mA, `vLs` in 10 mV; `full`: that period ran at full duty
without reaching the target. The bank's measured values, which no row carries, are free (log entry 47). -/
def execChopPeriod (n iMeas vLs : Nat) (full : Bool) (s : State) : Res := onBlock s fun s =>
  if 24 ≤ n then .next s
  else if s.phase ≠ .active ∨ !s.bit (vlvCfg n) 0 ∨ vBankOff s (n / 4) then .next s
  else
    let st := s.zoneStep (4 + n / 4)
    let s1 := s.fput (vlvStat n) 14 12 st
    let s2 := vCapSync n s1
    let c := s2.vch n
    let on := c.hold || c.piFrom.isSome
    let base := vTarget s2 n
    let tgt := if vProp s2 n && base != 0 && c.piFrom.isNone then
        (clampI 0 2500 (rdiv (2 * (base : Int) + vDither s2 n) 2)).toNat else base
    let good := on && !full && tgt != 0
    let from' := if on && full then (match c.fullFrom with | some t => some t | none => some s.clk.raw) else none
    let under := s.bit (bnkStat (n / 4)) 11 && (match c.fullFrom with | some t => on && full && t + 10000000 ≤ s.clk.raw | none => false)
    let clr := good && (c.openOn || c.openOff)
    let s3 := s2.setVch n { c with target := tgt, fullFrom := from', openOn := c.openOn && !good, openOff := c.openOff && !good }
    let s4 := s3.put (vlvValues n) (pack [(s.clk.tb, 0), (iMeas % 2 ^ 16, 64), (tgt, 80), (vLs % 2 ^ 16, 96),
      (s.fget (vlvValues n) 159 128, 128)])
    let s5 := if clr then (s4.fput (vlvStat n) 6 4 0).raise 0xC4 sevInfo (vlvObj n) 0 else s4
    let s6 := if under && !s.bit (vlvStat n) 8 then (s5.putBit (vlvStat n) 8 true).raise 0xC6 sevWarn (vlvObj n) 0
      else if good then s5.putBit (vlvStat n) 8 false else s5
    let d := s6.draw
    .next (d.2.put (bnkValues (n / 4)) (setFld (setFld (d.2.get (bnkValues (n / 4))) 63 0 s.clk.tb) 127 64 d.1))

/-- OPEN_OFF_CLEAR (R246): 10 ms off without the signature. -/
def execOpenOffClear (n : Nat) (s : State) : Res := onBlock s fun s =>
  if 24 ≤ n then .next s
  else if !(s.vch n).openOff ∨ (s.vch n).hold ∨ (s.vch n).piFrom.isSome then .next s
  else
    let s1 := s.setVch n { s.vch n with openOff := false }
    if (s.vch n).openOn then .next s1
    else .next ((s1.fput (vlvStat n) 6 4 0).raise 0xC4 sevInfo (vlvObj n) 0)

/-- A bank zone's state reaches the bank's and its channels' status and outputs (R244, R250). -/
def vZone (b : Nat) (s : Block) : Block :=
  let down := s.zoneDown (4 + b)
  let was := s.bit (bnkStat b) 10
  let s1 := (s.putBit (bnkStat b) 10 down).fput (bnkStat b) 15 13 (s.zoneStep (4 + b))
  let s2 := forN 4 (fun k x => (x.putBit (vlvStat (4 * b + k)) 11 down)) s1
  if down && !was then vBankDrop b true s2 else if was && !down then vEvalBank b true s2 else s2

/-- A write of CFG or SHAPE switches the channel off before the new values apply (R253). -/
def vReconfig (n : Nat) (s : Block) : Block := vEval n false (vOff n s)

/-- What a reset does to the valve banks: everything off; the boost account stands as it is (R241). -/
def valveReset (s : Block) : Block := { s with valve := { valveInit with acc := boostNow s, accAt := s.clk.raw } }

end Sys2Proof.Machine
end

