-- ==== Sys2Proof/Machine/Fe.lean ====
section
/-! DEFINITION. Machine/Fe.lean: the sine-excited front end, the retransmission outputs and the threshold switches
(chapter 05, R98 to R122). -/

namespace Sys2Proof.Machine

/-- Channel n. -/
def Block.fch (s : Block) (n : Nat) : FeCh := getL s.fe.ch n feCh0
/-- The machine with channel n replaced. -/
def Block.setFch (s : Block) (n : Nat) (c : FeCh) : Block := { s with fe := { s.fe with ch := setAt s.fe.ch n c } }

/-- TYPE of a channel: 0 OFF, 1 CAP, 2 RES2, 3 RES3, 4 RES4, 5 BRIDGE, 6 TOMO. -/
def feTyp (s : Block) (n : Nat) : Nat := s.get (feType n)

/-- Whether a TYPE is a RES type. -/
def isRes (t : Nat) : Bool := t == 2 || t == 3 || t == 4

/-- The output rate of a RATE code in Hz (the *Settle counts* table). -/
def feHz (code : Nat) : Nat := getL [1, 2, 5, 10, 20, 50, 100, 200, 500, 1000, 2000, 5000, 10000] code 10000

/-- The settle count N_S of a RATE code (R105). -/
def feNs (code : Nat) : Nat := if code ≤ 10 then 17 else 18

/-- The plan of an enabled ring of this module that it acquires itself (R123). -/
def tmOwnPlan (s : Block) (r : Nat) : Option TomoPlan :=
  if s.bit (tmCfg r) 0 && s.fget (tmCfg r) 11 8 == 0xF then
    some { owner := 0xF, ring := r, elec := (List.range 16).map (entry (s.get (tmElec r)) 8), band := s.get (tmBand r)
           pset := s.bit (tmCfg r) 2, phases := s.get (tmPhases r), rate := s.fget (tmCfg r) 19 16 }
  else none

/-- Every ring plan this module acquires, its own first. -/
def tmPlans (s : Block) : List TomoPlan := (List.range 12).filterMap (tmOwnPlan s) ++ s.tomo.plans

/-- The plan a TOMO channel is an electrode of. -/
def planOf (s : Block) (n : Nat) : Option TomoPlan :=
  if feTyp s n = 6 then (tmPlans s).find? (fun p => p.elec.contains n) else none

/-- The RATE code a channel runs at: its ring's for an electrode (R124). -/
def feCode (s : Block) (n : Nat) : Nat := match planOf s n with | some p => p.rate | none => s.get (feRate n)

/-- The value interval of a channel in ns. -/
def feT (s : Block) (n : Nat) : Nat := nsPerS / feHz (feCode s n)

/-- The tones of a TONES value that are on: FTW and AMP. -/
def feTonesOf (v : Nat) : List (Nat × Nat) :=
  ((List.range 16).map (fun k => (fld v (64 * k + 31) (64 * k), fld v (64 * k + 47) (64 * k + 32)))).filter (fun t => t.1 != 0)

/-- The lowest FTW of a list of tones, 0 for none. -/
def feLowest (l : List (Nat × Nat)) : Nat := match l with
  | [] => 0
  | t :: r => r.foldl (fun m u => min m u.1) t.1

/-- Whole periods of a tone, in ns, rounded down. -/
def fePeriods (k ftw : Nat) : Nat := if ftw = 0 then 0 else k * 80 * 2 ^ 32 / ftw

/-- The lowest tone word of a channel: its ring's base for an electrode (R125). -/
def feLow (s : Block) (n : Nat) : Nat :=
  match planOf s n with | some p => fld p.band 31 0 | none => feLowest (feTonesOf (s.get (feTones n)))

/-- T_REL (R106): T_D + 2 µs, T_D = min(2 periods of the lowest tone, 50 µs). -/
def feTrel (s : Block) (n : Nat) : Nat :=
  let l := feLow s n
  (if l = 0 then 50000 else min (fePeriods 2 l) 50000) + 2000

/-- A number of Hz in FTW × 12.5 MHz (R100). -/
def hzScale (f : Nat) : Nat := f * 2 ^ 32
/-- A tone word in FTW × 12.5 MHz. -/
def ftwScale (w : Nat) : Nat := w * 12500000

/-- Distance of two numbers. -/
def natDist (a b : Nat) : Nat := (a - b) + (b - a)

/-- Whether every pair of distinct positions of a list meets a relation. -/
def pairsAll (r : Nat → Nat → Bool) : List Nat → Bool
  | [] => true
  | x :: l => l.all (fun y => r x y && r y x) && pairsAll r l

/-- The tone plan rules of R99 and R101 for a type, a TONES value and a RATE code. -/
def fePlanOk (typ tones rate : Nat) : Bool :=
  let l := feTonesOf tones
  let w := l.map (fun t => ftwScale t.1)
  let fo := hzScale (feHz rate)
  let amps := sumN (l.map (fun t => t.2))
  if typ = 6 then true
  else
    (typ == 0 || !l.isEmpty) &&
    (typ == 0 || w.all (fun f => hzScale 1000 ≤ f && f ≤ (if typ = 1 then hzScale 2000000 else hzScale 100000))) &&
    w.all (fun f => fo ≤ f) &&
    pairsAll (fun a b => fo ≤ natDist a b && fo < natDist a (2 * b) && fo < natDist a (3 * b)) w &&
    (if isRes typ then l.all (fun t => 2000 ≤ t.2 && t.2 ≤ 40000) && 2 * (amps * amps) ≤ 56600 * 56600
     else typ == 0 || amps ≤ 50000)

/-- MON_CFG.REL against the tones (R109): at most 12.5 % with a tone below 2 kHz. -/
def feRelOk (tones mon : Nat) : Bool :=
  (feTonesOf tones).all (fun t => hzScale 2000 ≤ ftwScale t.1) || fld mon 7 0 ≤ 12

/-- Whether SIG_QTY is a quantity of the type (the *Channel paths by type* table); OFF and TOMO have none to hold. -/
def feQtyOk (typ qty : Nat) : Bool :=
  match typ with
  | 1 => qty ≤ 2
  | 2 => qty == 3
  | 3 => qty == 3
  | 4 => qty == 3
  | 5 => qty == 4
  | _ => true

/-- The check of LIN.TEMP_SRC (R116, R121): 0, or 0x0206. -/
def feTempRef (s : Block) (n : Nat) : Nat :=
  let t := s.fget (feLin n) 19 12
  if t = 0xFF then 0
  else if t = n ∨ !isRes (feTyp s t) ∨ s.fget (feLin t) 19 12 ≠ 0xFF then 0x0206 else 0

/-- The PWL table a temperature source requires (R117): 0, or 0x0205. -/
def fePwlRef (s : Block) (n : Nat) : Nat :=
  let l := s.get (feLin n)
  if fld l 19 12 = 0xFF then 0
  else match fld l 1 0 with
    | 1 => if (s.tab (fePwl n)).isSome then 0 else 0x0205
    | 2 => if bitAt l 8 then 0 else if (s.tab (cropPwl (fld l 7 4))).isSome then 0 else 0x0205
    | _ => 0

/-- Own-value checks of a channel attribute beyond its fields (R115, R121). -/
def feOwn (a : Attr) (v : Nat) : Nat :=
  if a.att = 0x025 then need ((fld v 19 12 ≤ 47 || fld v 19 12 == 0xFF) && fld v 23 20 ≤ 5) 0x0201 else 0

/-- Checks of a channel attribute that involve others, on the state the write leaves (R121, R379). -/
def feCross (a : Attr) (s : Block) : List Nat :=
  let n := a.idx
  let plan := need (feTyp s n == 6 || fePlanOk (feTyp s n) (s.get (feTones n)) (s.get (feRate n))) 0x0201
  let rel := need (feRelOk (s.get (feTones n)) (s.get (feMon n))) 0x0201
  let qty := need (feQtyOk (feTyp s n) (s.fget (feDrive n) 10 8)) 0x0201
  let crop := need (s.fget (feLin n) 1 0 != 2 || s.fget (feDrive n) 10 8 == 2) 0x0201
  match a.att with
  | 0x020 => [plan, qty]
  | 0x021 => [qty, crop]
  | 0x022 => [plan, rel]
  | 0x023 => [plan]
  | 0x024 => [rel]
  | 0x025 =>
    [crop, feTempRef s n, fePwlRef s n,
      need (s.fget (feLin n) 1 0 != 2 || s.bit (feLin n) 8 || (s.tab (cropSet (s.fget (feLin n) 7 4))).isSome) 0x0205]
  | _ => []

/-- The present step and state of a channel's group: whether its values are throttled (R108). -/
def feThr (s : Block) (n : Nat) : Bool := s.zoneStep (1 + n / 16) != 0
/-- Whether a channel's group is off with its zone (R108). -/
def feZoneOff (s : Block) (n : Nat) : Bool := s.zoneDown (1 + n / 16)

/-- Whether a channel runs: its group READY, a type and a tone. -/
def feRuns (s : Block) (n : Nat) : Bool :=
  s.phase == .active && s.bit (fgStat (n / 16)) 0 && feTyp s n != 0 &&
  (if feTyp s n = 6 then (planOf s n).isSome else !(feTonesOf (s.get (feTones n))).isEmpty)

/-- The STATE of a channel. -/
def feStateCode (s : Block) (n : Nat) : Nat :=
  if !feRuns s n then 0
  else if feZoneOff s n then 4
  else if (s.fch n).fault ≠ 0 then 3
  else if s.fget (feStat n) 23 16 ≠ 0 then 1 else 2

/-- Brings the STATE, THR and CAL bits of a channel up to date. -/
def feSync (n : Nat) (s : Block) : Block :=
  let v := setFld (setFld (setFld (s.get (feStat n)) 2 0 (feStateCode s n)) 14 14 (b2n (feThr s n))) 15 15
    (b2n (s.get (feCal n) == 1))
  s.put (feStat n) v

/-- Restarts a channel at a timebase value (R105): the grid, the settle count, and what was produced before and is not
released; QUAL is 3 until the first value where it was 5 (the *FE[n].STAT* table). An excitation fault stays until it clears
(R111). -/
def feRestartAt (t0 : Nat) (s : Block) (n : Nat) : Block :=
  let c := s.fch n
  let s1 := s.setFch n { c with
    t0 := t0, ivl := feT s n, m := 0, tSeen := false, tLost := false, tRep := false, tFrom := none
    held := c.held.map (fun h => if h.q = 0 then { h with q := 3 } else h) }
  let s2 := if feTyp s n ≠ 0 ∧ s.fget (feStat n) 6 4 = 5 then s1.fput (feStat n) 6 4 3 else s1
  feSync n (s2.fput (feStat n) 23 16 (feNs (feCode s n)))

/-- The end of the value interval in progress on a channel (R107, R129), of the grid that runs since its last restart; of a
restart still to come, its instant. -/
def feIntEnd (s : Block) (n : Nat) : Nat :=
  let c := s.fch n
  let w := if c.ivl = 0 then feT s n else c.ivl
  if s.clk.tb < c.t0 then c.t0 else c.t0 + ((s.clk.tb - c.t0) / w + 1) * w

/-- A ring whose electrodes restart is as at its start toward its temperatures (R117, R139). -/
def ringFresh (r : Nat) (s : Block) : Block :=
  let c := getL s.tomo.ch r tmCh0
  { s with tomo := { s.tomo with ch := setAt s.tomo.ch r { c with tSeen := false, tLost := false, tRep := false, tFrom := none } } }

/-- Restarts the 16 electrodes of a ring at one instant (R129), caused by electrode `e` (0xFF: a configuration write); a cause
that comes while a restart is still to come joins it. -/
def ringRestart (p : TomoPlan) (e : Nat) (s : Block) : Block :=
  let n0 := p.elec.headD 0
  let t := feIntEnd s n0
  let s1 := p.elec.foldl (feRestartAt t) s
  if p.owner ≠ 0xF then s1
  else if s.clk.tb < (s.fch n0).t0 then ringFresh p.ring s1
  else (ringFresh p.ring s1).raiseAt t 0x67 sevInfo 0 (tmObj p.ring) e

/-- Restarts a channel (R105), and with an electrode its whole ring (R129). -/
def feRestart (n : Nat) (s : Block) : Block :=
  match planOf s n with
  | some p => ringRestart p (p.elec.idxOf n) s
  | none => feRestartAt s.clk.tb s n

/-- Restarts every configured channel of a group together (R105). -/
def feGroupRestart (g : Nat) (s : Block) : Block :=
  forN 16 (fun k x => if feTyp x (16 * g + k) = 0 then x else feRestart (16 * g + k) x) s

/-- π as a fraction (log entry 24). -/
abbrev piNum : Nat := 3141592653589793238463
abbrev piDen : Nat := 1000000000000000000000

/-- Real part of x / y times |y|². -/
def cRe (x y : Int × Int) : Int := x.1 * y.1 + x.2 * y.2
/-- Imaginary part of x / y times |y|². -/
def cIm (x y : Int × Int) : Int := x.2 * y.1 - x.1 * y.2
/-- |y|². -/
def cAbs2 (y : Int × Int) : Int := y.1 * y.1 + y.2 * y.2

/-- C in aF as a fraction, from the current in nA and the drive voltage in µV (R103). -/
def feCapFrac (x d : Int × Int) (ftw : Nat) : Int × Int :=
  (cIm x d * (10 ^ 15 * 2 ^ 32 * piDen : Nat), cAbs2 d * (2 * piNum * 12500000 * ftw : Nat))

/-- The signal quantity of SIG_TONE (R103) from X (nA or µV), D (µV) and I_drive (nA) under a CELL value, or none where the
spec states no value: a division by zero, or a channel whose quantities are admittances only. -/
def feSignal (typ q ftw cell : Nat) (x d i : Int × Int) : Option Int :=
  match typ with
  | 1 =>
    if cAbs2 d = 0 ∨ ftw = 0 then none
    else
      let c := feCapFrac x d ftw
      match q with
      | 0 => some (rdivI c.1 c.2)
      | 1 => some (rdivI (cRe x d * 10 ^ 9) (cAbs2 d))
      | _ => some (rdivI ((c.1 - (fld cell 31 0 : Int) * c.2) * 1000000) (c.2 * (fld cell 63 32 : Int)))
  | 2 => if cAbs2 i = 0 then none else some (rdivI (cRe x i * 10 ^ 6 - (fld cell 95 64 : Int) * cAbs2 i) (cAbs2 i))
  | 3 => if cAbs2 i = 0 then none else some (rdivI ((2 * cRe x i - cRe d i) * 10 ^ 6) (cAbs2 i))
  | 4 => if cAbs2 i = 0 then none else some (rdivI (cRe x i * 10 ^ 6) (cAbs2 i))
  | 5 => if cAbs2 d = 0 then none else some (rdivI (cRe x d * 10 ^ 9) (cAbs2 d))
  | _ => none

/-- The lowest and highest S32 value. -/
abbrev s32Min : Int := -2147483648
abbrev s32Max : Int := 2147483647
/-- An integer limited to S32. -/
def sat32 (i : Int) : Int := clampI s32Min s32Max i

/-- The I/Q entries as FE[n].IQ shows them. -/
def feIqWord : List (Int × Int) → Nat
  | [] => 0
  | x :: r => satS 32 x.1 + satS 32 x.2 * 2 ^ 32 + feIqWord r * 2 ^ 64

/-- The next value number of a channel: values of odd SEQ are skipped under throttle (R108). -/
def feNext (s : Block) (n : Nat) : Nat :=
  let m := (s.fch n).m + 1
  if feThr s n && m % 2 == 1 then m + 1 else m

/-- FE_VALUE (R104, R105, R108, R111, R112): the channel produces its next value. `iq` holds X_k, `d` the drive voltage and
`i` the drive current of SIG_TONE; `ovl`: a full-scale sample lies in the window. -/
def execFeValue (n : Nat) (iq : List (Int × Int)) (d i : Int × Int) (ovl : Bool) (s : State) : Res := onBlock s fun s =>
  if 48 ≤ n then .next s
  else if !feRuns s n then .next s
  else
    let m := feNext s n
    let ts := (s.fch n).t0 + m * feT s n
    let s0 := s.advanceTb ts
    let left := feNs (feCode s n) - m
    let tone := s.fget (feDrive n) 7 4
    let c := s0.fch n
    let bad := if feZoneOff s n then 5 else if c.fault ≠ 0 then c.fault else if ovl then 4 else 0
    let q := if bad ≠ 0 then 4 else if left ≠ 0 then 3 else 0
    let h : FeHeld := { ts := ts, seq := m % 65536, q := q, cause := bad, thr := feThr s n, typ := feTyp s n
                        qty := s.fget (feDrive n) 10 8, ftw := fld (s.get (feTones n)) (64 * tone + 31) (64 * tone)
                        x := if feTyp s n = 6 then iq else [], sx := getL iq tone (0, 0), d := d, i := i }
    let s2 := s0.setFch n { c with m := m, held := c.held ++ [h], ovl := ovl }
    let s3 := (s2.put (feIq n) (feIqWord (iq.take 16))).fput (feStat n) 23 16 left
    let s4 := if ovl && !c.ovl then s3.raise 0x43 sevWarn (feObj n) 0 else s3
    .next (feSync n s4)

/-- A piecewise-linear table at a point (R115): the output and whether the point lies outside the rows. -/
def pwlAt (rows : List Int) (x : Int) : Int × Bool :=
  match rows with
  | a :: ya :: r => if x < a then (ya, true) else go a ya r x
  | _ => (0, true)
where
  /-- Walks the rows from the one at (a, ya). -/
  go (a ya : Int) : List Int → Int → Int × Bool
  | b :: yb :: r, x => if x ≤ b then (if x = a then ya else if x = b then yb
      else rdivI (ya * (b - a) + (x - a) * (yb - ya)) (b - a), false) else go b yb r x
  | _, x => (ya, x != a)

/-- The polynomial of R114 at s and T (none: t_n = 0), rounded and saturated, and whether it saturated. The sum is exact up to the
one rounding at its end: the spec states no format of the 64-bit intermediates of its Horner form (log entry 47). -/
def polyAt (c : List Int) (sCtr sHalf tCtr tHalf sig : Int) (t : Option Int) : Int × Bool :=
  let ps := sig - sCtr
  let pt := match t with | some v => v - tCtr | none => 0
  let num := sumI ((List.range 24).map (fun k =>
    getL c k 0 * ps ^ (k / 4) * sHalf ^ (5 - k / 4) * pt ^ (k % 4) * tHalf ^ (3 - k % 4)))
  let v := rdivI num (256 * sHalf ^ 5 * tHalf ^ 3)
  (sat32 v, sat32 v != v)

/-- The elements of a table attribute, all zero when absent. -/
def Block.elems (s : Block) (a : Attr) : Option (List Int) := (s.tab a).map (fun t => t.elems)

/-- Whether an eligible temperature exists for a value of channel n stamped `ts` (R116). -/
def feEligible (s : Block) (n ts : Nat) : Bool :=
  let t := s.fget (feLin n) 19 12
  let tts := s.fget (feLast t) 63 0
  t < 48 && (s.fch t).delivAt.isSome && tts < ts && ts ≤ tts + s.fget (feLin n) 31 28 * nsPerS

/-- The *Method selection* table at one value: the row (1 to 6), and the channel's temperature state after it. -/
def feMethod (s : Block) (n ts : Nat) : Nat × FeCh :=
  let c := s.fch n
  let l := s.get (feLin n)
  let el := feEligible s n ts
  let hold := fld l 27 24 * nsPerS
  let from' := match c.tFrom with | some t => t | none => ts
  let r : Nat × FeCh :=
    if !el then
      if c.tSeen then (4, { c with tLost := true, tFrom := none }) else (3, c)
    else if c.tLost then
      if ts < from' + hold then (5, { c with tFrom := some from', tRep := false })
      else (6, { c with tSeen := true, tLost := false, tFrom := none, tRep := false })
    else (6, { c with tSeen := true })
  if s.get (feCal n) = 1 ∧ s.modeNo = 5 then (1, r.2)
  else if fld l 19 12 = 0xFF then (2, c)
  else r

/-- A released value: VAL, QUAL, RANGE, the method row, and the channel after it. -/
structure FeOut where
  val : Int
  qual : Nat
  rng : Bool
  row : Nat
  ch : FeCh

/-- Linearises a measured value of signal `sig` (R114 to R117); `sat`: it has been saturated. `crop` is the crop set CROP_LINE
selects. -/
def feLinearise (s : Block) (n : Nat) (crop : Option Nat) (h : FeHeld) (sig : Int) (sat : Bool) : FeOut :=
  let l := s.get (feLin n)
  let src := fld l 1 0
  let signal : FeOut := ⟨sig, 2, sat, 0, s.fch n⟩
  let cset := if bitAt l 8 then crop else some (fld l 7 4)
  if src = 0 ∨ fld l 23 20 = 0 then signal
  else
    let m := feMethod s n h.ts
    let lo := toS 32 (s.fget (feLimits n) 31 0)
    let hi := toS 32 (s.fget (feLimits n) 63 32)
    let sc := clampI lo hi sig
    let clamped := sc != sig
    let pwl := if src = 1 then s.elems (fePwl n) else match cset with | some c => s.elems (cropPwl c) | none => none
    let poly := if src = 1 then some ((s.elems (fePoly n)).getD []) else
      match cset with | some c => s.elems (cropPoly c) | none => none
    let nv := s.get (feNorm n)
    let norm : Int × Int × Int × Int := if src = 1 then
        (toS 32 (fld nv 31 0), toS 32 (fld nv 63 32), toS 32 (fld nv 95 64), toS 32 (fld nv 127 96))
      else (8000000, 8000000, 4000, 6000)
    let usePoly := m.1 = 2 ∨ m.1 = 6
    if usePoly then
      match poly with
      | none => { signal with row := m.1, ch := m.2 }
      | some c =>
        let t := if m.1 = 2 then none else some (toS 32 (s.fget (feLast (fld l 19 12)) 95 64))
        let r := polyAt c norm.1 norm.2.1 norm.2.2.1 norm.2.2.2 sc t
        ⟨r.1, 0, sat || clamped || r.2, m.1, m.2⟩
    else
      match pwl with
      | none => { signal with row := m.1, ch := m.2 }
      | some rows =>
        let r := pwlAt rows sig
        ⟨sat32 r.1, 1, sat || r.2, m.1, m.2⟩

/-- The 192-bit word of VALUE and LAST_GOOD. -/
def feWord (h : FeHeld) (val sig : Int) (qual cause : Nat) (rng : Bool) : Nat :=
  pack [(h.ts % 2 ^ 64, 0), (ofS 32 val, 64), (ofS 32 sig, 96), (qual, 128), (b2n rng, 131), (b2n h.thr, 132),
    (cause, 136), (h.seq, 144)]

/-- The threshold switches with EN whose source is channel n of this module. -/
def swOf (s : Block) (n : Nat) : List Nat :=
  (List.range 32).filter (fun k => s.bit (swCfg k) 0 && s.fget (swCfg k) 13 8 == n &&
    (s.fget (swCfg k) 27 16 == 0 || s.fget (swCfg k) 27 16 == s.img.node))

/-- Sets the state of a switch, with 0x4A at a transition (R119). -/
def swSet (k : Nat) (on : Bool) (s : Block) : Block :=
  if s.bit (swStat k) 0 = on then s
  else
    let v := setBit (s.get (swStat k)) 0 on
    (s.put (swStat k) (setFld v 31 16 (fld v 31 16 + 1))).raise 0x4A sevInfo (swObj k) (pack [(k, 0), (b2n on, 8)])

/-- Evaluates a switch on a value (R119). -/
def swEval (val : Int) (s : Block) (k : Nat) : Block :=
  let st := toS 32 (s.fget (swPoints k) 31 0)
  let rs := toS 32 (s.fget (swPoints k) 63 32)
  let low := s.bit (swCfg k) 1
  let on := if low then decide (val ≤ st) else decide (st ≤ val)
  let off := if low then decide (rs ≤ val) else decide (val ≤ rs)
  (if on then swSet k true s else if off then swSet k false s else s).putBit (swStat k) 1 false

/-- A switch applies INV_ACT (R119). -/
def swInvalid (s : Block) (k : Nat) : Block :=
  if s.bit (swStat k) 1 then s
  else
    let s1 := match s.fget (swCfg k) 3 2 with
      | 0 => swSet k false s
      | 1 => swSet k true s
      | _ => s
    (s1.putBit (swStat k) 1 true).raise 0x4B sevWarn (swObj k) 0

/-- The AO outputs that retransmit channel n (R118). -/
def aoOf (s : Block) (n : Nat) : List Nat :=
  (List.range 8).filter (fun k => s.bit (aoCfg k) 8 && s.fget (aoCfg k) 5 0 == n)

/-- DEV.SUPPLY_STAT VREF_AO_OK (R27). -/
def Block.vrefOk (s : Block) : Bool := s.bit devSupply 4

/-- A number put into a set held as a list. -/
def setIns (k : Nat) (l : List Nat) : List Nat := if l.contains k then l else k :: l

/-- The STAT of an AO output brought up to date (R40, R118): INV while its source is invalid or VREF_AO is out of its window, ZERO
while it is held at 0 V. -/
def aoShow (k : Nat) (s : Block) : Block :=
  let on := s.fe.aoOn.contains k
  let lost := s.bit (aoCfg k) 8 && !s.vrefOk
  (s.putBit (aoStat k) 16 (lost || (on && s.fe.aoInv.contains k))).putBit (aoStat k) 17 (!on || lost)

/-- An AO after a delivered value (R118): the fraction. -/
def aoUpdate (val : Int) (s : Block) (k : Nat) : Block :=
  if s.role ≠ 1 then s
  else
    let lo := toS 32 (s.fget (aoSpan k) 31 0)
    let hi := toS 32 (s.fget (aoSpan k) 63 32)
    let f := clampI 0 65535 (rdivI ((val - lo) * 65535) (hi - lo))
    aoShow k ({ s with fe := { s.fe with aoOn := setIns k s.fe.aoOn, aoInv := s.fe.aoInv.filter (fun j => j != k) } }.fput
      (aoStat k) 15 0 f.toNat)

/-- An AO applies its invalid action (R118); before its first delivered value it stays at 0 V. -/
def aoInvalid (s : Block) (k : Nat) : Block :=
  if !s.fe.aoOn.contains k ∨ s.fe.aoInv.contains k then s
  else
    let s1 := if s.bit (aoCfg k) 9 then s.fput (aoStat k) 15 0 (s.fget (aoCfg k) 31 16) else s
    (aoShow k { s1 with fe := { s1.fe with aoInv := setIns k s1.fe.aoInv } }).raise 0x4B sevWarn (aoObj k) 0

/-- Every output and switch that follows channel n applies its invalid action (R118, R119). -/
def feInvalid (n : Nat) (s : Block) : Block :=
  if (s.fch n).delivAt.isNone then s
  else
    let s1 := (aoOf s n).foldl aoInvalid s
    if s.role = 2 then s1 else (swOf s1 n).foldl swInvalid s1

/-- Delivers a value to what this chapter hangs on it: LAST_GOOD, the outputs and the switches (R106, R118, R119). -/
def feDeliver (n word : Nat) (val : Int) (s : Block) : Block :=
  let s1 := (s.put (feLast n) word).setFch n { s.fch n with delivAt := some s.clk.tb }
  let s2 := (aoOf s1 n).foldl (aoUpdate val) s1
  if s.role = 2 then s2 else (swOf s2 n).foldl (swEval val) s2

/-- The oldest value a channel holds and has not released. -/
def feHead (s : Block) (n : Nat) : Option FeHeld := (s.fch n).held.head?

/-- 0x47 on the first value with RANGE after one without (R117); `was`: RANGE of the value before. -/
def feRangeEv (n : Nat) (was rng : Bool) (s : Block) : Block :=
  if rng && !was then s.raise 0x47 sevWarn (feObj n) 0 else s

/-- Releases the oldest value of a channel at TS + T_REL (R106): the machine after it, and whether it was delivered. Its signal
quantity is computed now, under the CELL in force (R103, R121); one the spec states no value of is free (log entry 4). -/
def feRelease (n : Nat) (crop : Option Nat) (h : FeHeld) (s : Block) : Block × Bool :=
  let s0 := s.advanceTb (h.ts + feTrel s n)
  let c0 := s0.fch n
  let dr := s0.draw
  let known := feSignal h.typ h.qty h.ftw (s0.get (feCell n)) h.sx h.d h.i
  let raw := match known with | some v => v | none => toS 32 dr.1
  let sig := sat32 raw
  let sat := sig != raw
  let s1 := (match known with | some _ => s0 | none => dr.2).setFch n { c0 with held := c0.held.drop 1 }
  let was := s.bit (feValue n) 131
  let cause := if feZoneOff s1 n then 5 else h.cause
  let q := if cause ≠ 0 then 4 else h.q
  if q = 4 then
    let s2 := (s1.put (feValue n) (feWord h s32Min s32Min 4 cause false)).put (feStat n)
      (setFld (setFld (setFld (s1.get (feStat n)) 6 4 4) 11 8 cause) 13 13 0)
    (feInvalid n (feSync n s2), false)
  else if q = 3 then
    let s2 := (s1.put (feValue n) (feWord h s32Min sig 3 0 sat)).put (feStat n)
      (setFld (setFld (setFld (s1.get (feStat n)) 6 4 3) 11 8 0) 13 13 (b2n sat))
    (feInvalid n (feSync n (feRangeEv n was sat s2)), false)
  else
    let o := feLinearise s1 n crop h sig sat
    let old := s1.fch n
    let w := feWord h o.val sig o.qual 0 o.rng
    let hist := if (planOf s1 n).isSome then (h.ts, h.x, h.d) :: old.hist else old.hist
    let s2 := s1.setFch n { o.ch with held := old.held, meth := o.qual, hist := hist, tRep := o.row == 4 || o.ch.tRep }
    let s3 := (s2.put (feValue n) w).put (feStat n)
      (setFld (setFld (setFld (setFld (s1.get (feStat n)) 6 4 o.qual) 11 8 0) 13 13 (b2n o.rng)) 12 12
        (b2n (feEligible s1 n h.ts)))
    let s4 := if o.row = 4 ∧ !old.tRep then s3.raise 0x46 sevWarn (feObj n) 0 else s3
    let s5 := if o.row ≠ 0 ∧ o.qual ≠ old.meth ∧ old.delivAt.isSome then
        s4.raise 0x45 sevInfo (feObj n) (pack [(o.qual, 0), (o.row, 8)]) else s4
    (feSync n (feDeliver n w o.val (feRangeEv n was o.rng s5)), true)

/-- Whether what follows channel n acts on its invalid action at instant `t` (R118): the last value released was not delivered, none
has been delivered for 4 output intervals, or the channel is OFF. -/
def feSilent (s : Block) (n t : Nat) : Bool :=
  match (s.fch n).delivAt with
  | none => true
  | some d => decide (3 ≤ s.fget (feStat n) 6 4) || feStateCode s n == 0 || decide (d + 4 * feT s n ≤ t)

/-- AO_INVALID_TIMEOUT (R118, R119): no value of channel n delivered for 4 output intervals. -/
def execAoInvalidTimeout (n : Nat) (s : State) : Res := onBlock s fun s =>
  if 48 ≤ n then .next s
  else match (s.fch n).delivAt with
    | none => .next s
    | some t => .next (feInvalid n (s.advanceTb (t + 4 * feT s n)))

/-- The write pending on a channel, or a new one due at the end of the value interval in progress (R107). -/
def fePendOf (s : Block) (n : Nat) : FePend :=
  match (s.fch n).pend with
  | some p => p
  | none => ⟨feIntEnd s n, none, none⟩

/-- Applies a TONES and RATE write (R107): the new waveform and rate, a restart at its instant, and 0x48. -/
def fePendApply (n : Nat) (p : FePend) (s : Block) : Block :=
  let s1 := match p.tones with | some v => s.put (feTones n) v | none => s
  let s2 := match p.rate with | some v => s1.put (feRate n) v | none => s1
  let s3 := feRestart n (s2.setFch n { s2.fch n with pend := none })
  s3.raise 0x48 sevInfo (feObj n) (s3.fget (feStat n) 23 16)

/-- Takes an accepted TONES or RATE write: pending, or applied at once on a channel that produces no values (R107). -/
def feExcWrite (n : Nat) (tones rate : Option Nat) (s : Block) : Block :=
  let p := fePendOf s n
  let q : FePend := { p with tones := tones.or p.tones, rate := rate.or p.rate }
  let a := match tones with | some _ => feTones n | none => feRate n
  let s1 := s.markVol a
  if feRuns s n then s1.setFch n { s1.fch n with pend := some q }
  else
    let s2 := match tones with | some v => s1.put (feTones n) v | none => s1
    let s3 := match rate with | some v => s2.put (feRate n) v | none => s2
    feRestart n s3

/-- The check of a TONES or RATE write (R101, R109, R121), with what is pending counted as written. -/
def feExcCheck (n : Nat) (tones rate : Option Nat) (s : Block) : Nat :=
  let p := fePendOf s n
  let t := (tones.or p.tones).getD (s.get (feTones n))
  let r := (rate.or p.rate).getD (s.get (feRate n))
  if feTyp s n = 6 then 0x0309
  else if 13 ≤ r ∨ 2 ^ 1024 ≤ t then 0x0201
  else need (fePlanOk (feTyp s n) t r && feRelOk t (s.get (feMon n))) 0x0201

/-- FE_TONES_WRITE (R101, R107, R121). -/
def execFeTonesWrite (i n v : Nat) (s : State) : Res := onBlock s fun s =>
  hostCommand i (feTones n) false (fun x => stateFirst (feExcCheck n (some v) none x) (numErr x (feTones n) v))
    (feExcWrite n (some v) none) noRefuse s

/-- FE_RATE_WRITE (R101, R107, R121). -/
def execFeRateWrite (i n v : Nat) (s : State) : Res := onBlock s fun s =>
  hostCommand i (feRate n) false (fun x => stateFirst (feExcCheck n none (some v) x) (numErr x (feRate n) v))
    (feExcWrite n none (some v)) noRefuse s

/-- FE_EXCITATION_APPLY (R107): the end of the value interval of a pending write. -/
def execFeExcitationApply (n : Nat) (s : State) : Res := onBlock s fun s =>
  if 48 ≤ n then .next s
  else match (s.fch n).pend with
    | none => .next s
    | some p => .next (fePendApply n p (s.advanceTb p.due))

/-- FE_GROUP_RESTART (R105, R121). -/
def execFeGroupRestart (i g : Nat) (s : State) : Res := onBlock s fun s =>
  hostCommand i (fgRestart g) false (fun x => need (x.bit (fgStat g) 0) 0x0303) (feGroupRestart g) noRefuse s

/-- Declares an excitation fault (R109 to R111): every value not yet released is INVALID with its cause. -/
def feDeclare (n cls qty dev : Nat) (s : Block) : Block :=
  let c := s.fch n
  let s1 := s.setFch n { c with
    fault := cls, faultAt := s.clk.raw, tested := false, testAt := s.clk.raw + nsPerS
    held := c.held.map (fun h => { h with q := 4, cause := cls }) }
  let s2 := feSync n (s1.countUp (feCnt n) 31 0)
  s2.raise (0x3F + cls) sevFault (feObj n) (pack [(qty % 256, 0), (dev % 65536, 16)])

/-- What the drive stage limits its current to in voltage drive, 25 mA peak, in nA (R99). -/
abbrev feDriveLimit : Nat := 25000000

/-- The compliance of the stage in current drive, 10 V, in µV (R99). -/
abbrev feCompliance : Nat := 10000000

/-- Full scale of a channel's sensed quantity (the *Sense ranges* table): current in nA, voltage in µV. -/
def feFullScale (typ rng : Nat) : Nat :=
  if typ = 1 ∨ typ = 6 then getL [100000, 1000000, 10000000, 25000000] rng 25000000
  else getL [20000, 200000, 2000000, 10000000] rng 10000000

/-- Full scale ABS refers to: the range's for the sensed quantity (2), the limits of the stage for drive voltage (0) and drive
current (1), which have no range (log entry 47). -/
def feScaleOf (s : Block) (n qty : Nat) : Nat :=
  match qty with
  | 0 => feCompliance
  | 1 => feDriveLimit
  | _ => feFullScale (feTyp s n) (s.fget (feDrive n) 1 0)

/-- The samples of a quantity in T_D (R109): 12.5 MSPS for the sensed quantity, 6.25 MSPS each for the two others (R98). -/
def feNt (s : Block) (n qty : Nat) : Nat := (feTrel s n - 2000) / (if qty ≤ 1 then 160 else 80)

/-- Whether a sample is out of band (R109): farther from its expected value than REL × the expected peak + ABS × full scale. -/
def feOutOfBand (mon peak scale : Nat) (x : Int × Int) : Bool :=
  fld mon 7 0 * 10 * peak + fld mon 15 8 * scale < (x.1 - x.2).natAbs * 1000

/-- What the excitation monitor has measured when it looks at one quantity: the samples of the trailing T_D with their expected
values, and the amplitudes of the response, the drive voltage and the drive current, each with the one expected or
commanded (µV and nA). -/
structure FeMonIn where
  win  : List (Int × Int)
  resp : Nat × Nat
  volt : Nat × Nat
  curr : Nat × Nat

/-- The class of a fault by the *Excitation fault classes* table: 1 OPEN, 2 SHORT, 3 DEGRADED; OPEN where both apply (log
entry 47). -/
def feClass (typ : Nat) (m : FeMonIn) : Nat :=
  let below := fun (k : Nat) (a : Nat × Nat) => decide (k * a.1 < a.2)
  if isRes typ then
    if feCompliance ≤ m.volt.1 || below 2 m.curr then 1
    else if below 10 m.volt && below 10 m.resp then 2 else 3
  else if below 10 m.resp then 1
  else if below 2 m.volt || feDriveLimit ≤ m.curr.1 then 2 else 3

/-- The expected peak of a monitored quantity. -/
def feExpPeak (qty : Nat) (m : FeMonIn) : Nat := if qty = 0 then m.volt.2 else if qty = 1 then m.curr.2 else m.resp.2

/-- How long a test application of a SHORT lasts (R110): max(4 periods, 100 µs). -/
def feTestLen (s : Block) (n : Nat) : Nat := max (fePeriods 4 (feLow s n)) 100000

/-- Whether the drive of a channel is on (R108, R110): off with its zone, and in SHORT but for the test applications. -/
def feDriveOn (s : Block) (n : Nat) : Bool :=
  let c := s.fch n
  feRuns s n && !feZoneOff s n && (c.fault != 2 || (c.tested && decide (s.clk.raw < c.testAt - nsPerS + feTestLen s n)))

/-- Whether the last value delivered is older than the last restart: until one is, the response is checked only against OPEN and
SHORT. -/
def feNoneYet (s : Block) (n : Nat) : Bool := (s.fch n).delivAt.isNone || decide (s.fget (feLast n) 63 0 ≤ (s.fch n).t0)

/-- The largest deviation in 0.1 % of the expected peak (R111). -/
def feDeviation (peak : Nat) (l : List (Int × Int)) : Nat :=
  l.foldl (fun m x => max m (satU 16 ((x.1 - x.2).natAbs * 1000 / peak))) 0

/-- The excitation fault a look of the monitor declares (R109, R110): its class, where the out-of-band samples of the trailing
T_D reach max(1, ⌈N_T / 8⌉). -/
def feMonitor (n qty : Nat) (m : FeMonIn) (s : Block) : Option Nat :=
  let nt := feNt s n qty
  let bad := (m.win.take nt).filter (feOutOfBand (s.get (feMon n)) (feExpPeak qty m) (feScaleOf s n qty))
  let cls := feClass (feTyp s n) m
  if !feDriveOn s n ∨ bad.length < max 1 ((nt + 7) / 8) ∨ (2 ≤ qty ∧ cls = 3 ∧ feNoneYet s n) then none else some cls

/-- EXCITATION_FAULT (R109 to R111): the monitor looks at one quantity: 0 drive voltage, 1 drive current, 2 the sensed quantity.
A fault of the class that holds already only starts the clear time again; in SHORT that is the next test's. -/
def execExcitationFault (n qty : Nat) (win : List (Int × Int)) (resp volt curr : Nat × Nat) (s : State) : Res :=
  onBlock s fun s =>
    if 48 ≤ n then .next s
    else
      let m : FeMonIn := ⟨win, resp, volt, curr⟩
      match feMonitor n qty m s with
      | none => .next s
      | some cls =>
        let c := s.fch n
        if c.fault = cls then .next (s.setFch n { c with faultAt := s.clk.raw, tested := c.tested && cls != 2 })
        else .next (feDeclare n cls qty (feDeviation (feExpPeak qty m) (win.take (feNt s n qty))) s)

/-- The clear time of a channel (R111): max(100 periods of the lowest tone, CLR × 10 ms). -/
def feClearTime (s : Block) (n : Nat) : Nat :=
  max (fePeriods 100 (feLow s n)) (s.fget (feMon n) 23 16 * 10000000)

/-- EXCITATION_FAULT_CLEAR (R111): every quantity has stayed in band for the clear time; a SHORT needs a test first. -/
def execExcitationFaultClear (n : Nat) (s : State) : Res := onBlock s fun s =>
  if 48 ≤ n then .next s
  else
    let c := s.fch n
    if c.fault = 0 ∨ (c.fault = 2 ∧ !c.tested) then .next s
    else
      let s1 := s.advanceTo (c.faultAt + feClearTime s n)
      .next ((feRestart n (s1.setFch n { c with fault := 0, tested := false })).raise 0x44 sevInfo (feObj n) 0)

/-- SHORT_TEST (R110): every 1 s a channel in SHORT applies its drive as a test. -/
def execShortTest (n : Nat) (s : State) : Res := onBlock s fun s =>
  if 48 ≤ n then .next s
  else
    let c := s.fch n
    if c.fault ≠ 2 then .next s
    else
      let s0 := s.advanceTo c.testAt
      .next (s0.setFch n { c with testAt := c.testAt + nsPerS, tested := true, faultAt := s0.clk.raw })

/-- A group FAILED: its channels are OFF until the next reset (R120). -/
def feGroupFail (g : Nat) (s : Block) : Block :=
  let s1 := (s.putBit (fgStat g) 0 false).putBit (fgStat g) 1 true
  let one := fun (k : Nat) (x : Block) =>
    let n := 16 * g + k
    let y := x.setFch n { x.fch n with held := [], pend := none, fault := 0 }
    feInvalid n (feSync n (y.fput (feStat n) 6 4 5))
  forN 16 one s1

/-- FE_GROUP_LINK_FAULT (R120): three consecutive bad frames; `pass`: the repeated self-test passes. -/
def execFeGroupLinkFault (g : Nat) (pass : Bool) (s : State) : Res := onBlock s fun s =>
  if 3 ≤ g then .next s
  else if s.phase ≠ .active ∨ !s.bit (fgStat g) 0 then .next s
  else
    let one := fun (k : Nat) (x : Block) =>
      let c := x.fch (16 * g + k)
      x.setFch (16 * g + k) { c with held := c.held.map (fun h => { h with q := 4, cause := 6 }) }
    let again := match getL s.fe.linkAt g none with | some t => decide (s.clk.raw < t + 60 * nsPerS) | none => false
    let s1 := forN 16 one s
    let s2 := s1.fput (fgStat g) 15 8 (satU 8 (s1.fget (fgStat g) 15 8 + 3))
    let s3 := { s2 with fe := { s2.fe with linkAt := setAt s2.fe.linkAt g (some s2.clk.raw) } }
    let s4 := s3.raise 0x49 sevFault (fgObj g) (pack [(g, 0), (2, 8)])
    if again then .next (feGroupFail g s4)
    else if pass then .next (feGroupRestart g s4)
    else .next ((feGroupFail g s4).raise 0x49 sevFault (fgObj g) (pack [(g, 0), (1, 8)]))

/-- A zone's state reaches the group's and its channels' status; the end of a shutdown restarts them (R108). -/
def feZone (g : Nat) (s : Block) : Block :=
  let down := s.zoneDown (1 + g)
  let was := s.bit (fgStat g) 3
  let s1 := (s.putBit (fgStat g) 2 (s.zoneStep (1 + g) != 0)).putBit (fgStat g) 3 down
  let s2 := forN 16 (fun k x => feSync (16 * g + k) x) s1
  if was && !down && s.bit (fgStat g) 0 then feGroupRestart g s2 else s2

/-- VREF_AO back in its window, or out of it, as DEV.SUPPLY_STAT says (R40, R118): the outputs resume what their sources give, or
go to 0 V invalid. -/
def aoVref (s : Block) : Block := forN 8 aoShow s

/-- Effects of a write of a channel attribute (R105, R121): TYPE, DRIVE, TONES and RATE restart it. -/
def feWritten (a : Attr) (s : Block) : Block :=
  let n := a.idx
  match a.att with
  | 0x020 => if s.get (feType n) = 0 then feInvalid n (feSync n
      ((s.setFch n { s.fch n with held := [], pend := none, fault := 0 }).put (feStat n)
        (setFld (setFld (s.get (feStat n)) 23 16 (feNs (feCode s n))) 6 4 5))) else feRestart n s
  | 0x021 => feRestart n s
  | 0x022 => feRestart n s
  | 0x023 => feRestart n s
  | 0x030 => feSync n s
  | _ => s

/-- Effects of a write of an AO attribute (R118): an output that is disabled, newly enabled or given another source is at 0 V until
a value is delivered; one that acts on FIXED takes a new FAIL_FRAC. -/
def aoWritten (old : Block) (a : Attr) (s : Block) : Block :=
  let k := a.idx
  if a.att ≠ 0x020 then s
  else if !s.bit (aoCfg k) 8 ∨ !old.bit (aoCfg k) 8 ∨ old.fget (aoCfg k) 5 0 ≠ s.fget (aoCfg k) 5 0 then
    aoShow k ({ s with fe := { s.fe with aoOn := s.fe.aoOn.filter (fun j => j != k), aoInv := s.fe.aoInv.filter (fun j => j != k) } }.fput
      (aoStat k) 15 0 0)
  else if s.fe.aoInv.contains k ∧ s.bit (aoCfg k) 9 then s.fput (aoStat k) 15 0 (s.fget (aoCfg k) 31 16)
  else s

/-- Effects of a write of SW_CFG (R119): a switch that is disabled, newly enabled or given another source is off until a value
is delivered. -/
def swWritten (old : Block) (a : Attr) (s : Block) : Block :=
  let k := a.idx
  let src := fun (x : Block) => (x.fget (swCfg k) 13 8, x.fget (swCfg k) 27 16)
  if a.att ≠ 0x020 ∨ (s.bit (swCfg k) 0 ∧ old.bit (swCfg k) 0 ∧ src old = src s) then s
  else (swSet k false s).putBit (swStat k) 1 false

end Sys2Proof.Machine
end

