-- ==== Sys2Proof/Machine/Enc.lean ====
section
/-! DEFINITION. Machine/Enc.lean: the encoder inputs (chapter 12, R275 to R285, R289). The emulation outputs and the
commands that move their sources stand in Emu.lean. -/

namespace Sys2Proof.Machine

/-- Input e. -/
def Block.ech (s : Block) (e : Nat) : EncCh := getL s.enc.ch e encCh0
/-- The machine with input e replaced. -/
def Block.setEch (s : Block) (e : Nat) (c : EncCh) : Block := { s with enc := { s.enc with ch := setAt s.enc.ch e c } }

/-- MODE of an input: 0 QUAD1, 1 QUAD2, 2 QUAD4, 3 PULSE_DIR, 4 TACHO, 5 HALL. -/
def encMode (s : Block) (e : Nat) : Nat := s.fget (encCfg e) 4 2
/-- CPR. -/
def encCpr (s : Block) (e : Nat) : Nat := s.fget (encCfg e) 63 32
/-- FILT in ns. -/
def encFilt (s : Block) (e : Nat) : Nat := 4 * s.fget (encCfg e) 23 16
/-- S_MIN in ns (R276). -/
def encSmin (s : Block) (e : Nat) : Nat := max 48 (encFilt s e + 28)
/-- Edges of one line cycle (the *Counting modes* table). -/
def encEpc (mode : Nat) : Nat := match mode with | 1 => 2 | 2 => 4 | 5 => 6 | _ => 1
/-- Whether an input is enabled and READY. -/
def encOn (s : Block) (e : Nat) : Bool := s.bit (encCfg e) 0 && s.bit (encStat e) 0

/-- The place of a Hall state UVW in the positive sequence, 6 for 000 and 111 (log entry 28). -/
def hallPos (a b z : Bool) : Nat :=
  match a, b, z with
  | true, false, false => 0
  | true, true, false => 1
  | false, true, false => 2
  | false, true, true => 3
  | false, false, true => 4
  | true, false, true => 5
  | _, _, _ => 6

/-- What an accepted edge is (R277): no count, an illegal transition, or a count with its direction (true negative). -/
inductive EdgeKind where
  | none
  | illegal
  | count (neg : Bool)
deriving DecidableEq, Repr

/-- Decodes an accepted edge of line 0 A, 1 B or 2 Z to level `lvl`, seen at `ts`; `c` is the channel before it. -/
def encDecode (mode smin : Nat) (c : EncCh) (line : Nat) (lvl : Bool) (ts : Nat) : EdgeKind :=
  let near := fun (t : Option Nat) => match t with | some u => decide (ts < u + smin) | none => false
  match mode with
  | 5 =>
    let p := hallPos (if line = 0 then lvl else c.a) (if line = 1 then lvl else c.b) (if line = 2 then lvl else c.z)
    if p = 6 then .illegal
    else if p = c.hall then .none
    else if p = (c.hall + 1) % 6 then .count false
    else if c.hall = (p + 1) % 6 then .count true
    else .illegal
  | 4 => if line = 0 ∧ lvl then .count false else .none
  | 3 =>
    if line = 0 ∧ lvl then
      let dir := if near c.tB then !c.b else c.b
      .count (!dir)
    else .none
  | m =>
    if 1 < line then .none
    else if near (if line = 0 then c.tB else c.tA) then .illegal
    else if line = 0 then
      let neg := lvl == c.b
      if m = 0 then (if lvl != neg then .count neg else .none) else .count neg
    else if m = 2 then .count (lvl != c.a)
    else .none

/-- Sets a line's level and the tick of its edge; a valid Hall state is noted. -/
def encLevel (mode : Nat) (c : EncCh) (line : Nat) (lvl : Bool) (ts : Nat) : EncCh :=
  let c1 := match line with
    | 0 => { c with a := lvl, tA := some ts }
    | 1 => { c with b := lvl, tB := some ts }
    | _ => { c with z := lvl }
  let p := hallPos c1.a c1.b c1.z
  if mode = 5 ∧ p ≠ 6 then { c1 with hall := p } else c1

/-- A run with one more edge, without the edges no speed value can reach any more (R279). -/
def encPush (ts : Nat) (rc : Int) (run : List (Nat × Int)) : List (Nat × Int) :=
  (ts, rc) :: (run.take 7 ++ (run.drop 7).filter (fun e => ts ≤ e.1 + 100000000))

/-- Faults an input at `ts`, the edge or the detection (R284). -/
def encFault (e cause ts : Nat) (s : Block) : Block :=
  if s.bit (encStat e) 2 then s
  else ((s.putBit (encStat e) 2 true).fput (encStat e) 5 3 cause).raiseAt ts 0xE2 sevFault 0 (encObj e) cause

/-- An illegal transition (R277, R284). -/
def encIllegal (e ts : Nat) (s : Block) : Block :=
  let c := s.ech e
  let first := c.terr.isEmpty || c.terr.all (fun t => t + nsPerS ≤ ts)
  let recent := ts :: c.terr.filter (fun t => ts < t + nsPerS)
  let s1 := (s.setEch e { c with terr := recent }).countUp (encCount e) 31 0
  let s2 := if first then s1.raiseAt ts 0xE3 sevWarn 0 (encObj e) (s1.fget (encCount e) 31 0) else s1
  if s2.fget (encTiming e) 95 88 < recent.length then encFault e 3 ts s2 else s2

/-- PERIOD of a sample class in ns (R164). -/
def clsPeriod (s : Block) (k : Nat) : Nat := 4 * s.fget (clsCfg k) 31 0

/-- Declares a standstill: the next edge starts a new run (R278). -/
def encStill (e : Nat) (s : Block) : Block :=
  (s.setEch e { s.ech e with still := true, run := [] }).putBit (encStat e) 6 true

/-- Whether a class A boundary up to `t` has declared a standstill (R278, R289). -/
def encStillBy (s : Block) (e t : Nat) : Bool :=
  match (s.ech e).tL with
  | some u => s.phase == .active && ceilMultiple (max 1 (clsPeriod s 0)) (u + s.fget (encTiming e) 31 16 * 1000000) ≤ t
  | none => false

/-- A counted edge (R277, R278): COUNT, the run, a reversal. -/
def encCounted (e ts : Nat) (neg : Bool) (s0 : Block) : Block :=
  let s := if !(s0.ech e).still && encStillBy s0 e ts then encStill e s0 else s0
  let c := s.ech e
  let d : Int := if neg != s.bit (encCfg e) 5 then -1 else 1
  let rev := !c.still && c.tL.isSome && c.dirNeg != neg
  let base := if c.still || rev then [] else c.run
  let s1 := s.setEch e { c with
    count := c.count + d, rc := c.rc + d, run := encPush ts (c.rc + d) base, dirNeg := neg, tL := some ts, still := false }
  let s2 := s1.putBit (encStat e) 7 neg
  let s3 := if rev then s2.countUp (encCount e) 127 96 else s2
  if base.isEmpty then s3 else s3.putBit (encStat e) 6 false

/-- An accepted edge of an input (R276, R277), seen FILT ago. -/
def encEdge (e line : Nat) (lvl : Bool) (s : Block) : Block :=
  let ts := s.clk.tb - encFilt s e
  let k := encDecode (encMode s e) (encSmin s e) (s.ech e) line lvl ts
  let s1 := s.setEch e (encLevel (encMode s e) (s.ech e) line lvl ts)
  match k with
  | .none => s1
  | .illegal => encIllegal e ts s1
  | .count neg => encCounted e ts neg s1

/-- Whether a standstill is due at the present instant (R278). -/
def encStillDue (s : Block) (e : Nat) : Bool :=
  match (s.ech e).tL with
  | some t => !(s.ech e).still && t + s.fget (encTiming e) 31 16 * 1000000 ≤ s.clk.tb
  | none => false

/-- STANDSTILL (R278): the first class A boundary at or after T_STOP from the latest edge. -/
def execStandstill (e : Nat) (s : State) : Res := onBlock s fun s =>
  if 8 ≤ e then .next s
  else if s.phase ≠ .active ∨ !encOn s e ∨ (s.ech e).still then .next s
  else match (s.ech e).tL with
    | none => .next s
    | some t => .next (encStill e (s.advanceTb (ceilMultiple (clsPeriod s 0) (t + s.fget (encTiming e) 31 16 * 1000000))))

/-- The speed v_L at the latest edge (R279) as a fraction in counts and ns. -/
def encVL (s : Block) (e : Nat) : Int × Nat :=
  match (s.ech e).run with
  | [] => (0, 1)
  | l :: r =>
    let win := s.fget (encTiming e) 15 0 * 10000
    let m := (r.filter (fun x => l.1 ≤ x.1 + win)).length
    let k := min r.length (max m (encEpc (encMode s e)))
    if k = 0 then (0, 1)
    else match r[k - 1]? with
      | some x => (l.2 - x.2, l.1 - x.1)
      | none => (0, 1)

/-- The speed reported at this instant (R280), in counts and ns, and whether it decays. -/
def encSpeed (s : Block) (e : Nat) : (Int × Nat) × Bool :=
  let c := s.ech e
  match c.run with
  | l :: p :: _ =>
    let v := encVL s e
    let dt := s.clk.tb - l.1
    if l.1 - p.1 < dt then
      if v.2 < v.1.natAbs * dt then ((if v.1 < 0 then -1 else 1, dt), true) else (v, true)
    else (v, false)
  | _ => ((0, 1), false)

/-- One input at a class A boundary (R280, R281, R289): a PRESET, a standstill, then VALUES. -/
def encSample (e : Nat) (s : Block) : Block :=
  if !encOn s e then s
  else
    let s0 := match (s.ech e).preset with
      | some v => s.setEch e { s.ech e with count := v, preset := none }
      | none => s
    let s1 := if encStillDue s0 e then encStill e s0 else s0
    let v := encSpeed s1 e
    let sp := rdivI (v.1.1 * 100 * nsPerS) v.1.2
    let rpm := if encCpr s1 e = 0 then 0 else rdivI (v.1.1 * 600 * nsPerS) (v.1.2 * encCpr s1 e)
    let et := match (s1.ech e).tL with | some t => t | none => 0
    let s2 := (s1.put (encValues e) (pack [(s1.clk.tb % 2 ^ 64, 0), (ofS 64 (s1.ech e).count, 64), (satS 32 sp, 128),
      (satS 32 rpm, 160), (et % 2 ^ 64, 192)])).putBit (encStat e) 8 v.2
    if s2.bit (encStat e) 2 then s2
    else s2.setEch e { s2.ech e with del := (s2.clk.tb, toS 32 (satS 32 sp)) }

/-- Every input at a class A boundary. -/
def encSampleAll (s : Block) : Block := forN 8 encSample s

/-- SPEED of an input in 0.01 counts per second, as last reported. -/
def encSp (s : Block) (e : Nat) : Int := toS 32 (s.fget (encValues e) 159 128)

/-- The deviation of a captured count from the index, in (−CPR/2, CPR/2] (R282). -/
def encDev (c : Int) (ofs cpr : Nat) : Int :=
  let m := (c - ofs) % (cpr : Int)
  if (cpr : Int) < 2 * m then m - cpr else m

/-- An index captured by an input (R282, R283), stamped `ts`. -/
def encIndexAct (e ts : Nat) (s : Block) : Block :=
  let c := s.ech e
  let d := encDev c.count (s.fget (encTiming e) 63 32) (encCpr s e)
  let s1 := (s.put (encIdx e) (pack [(ts % 2 ^ 64, 0), (ofS 64 c.count, 64), (ofS 32 d, 128)])).setEch e { c with z := !c.dirNeg }
  let fix := fun (x : Block) => x.setEch e { x.ech e with count := (x.ech e).count - d }
  if s.bit (encCfg e) 7 && !s.bit (encStat e) 9 then
    let s2 := ((fix s1).putBit (encStat e) 9 true).countUp (encCount e) 63 32
    if d = 0 then s2 else s2.raiseAt ts 0xE0 sevInfo 1 (encObj e) (ofS 32 d)
  else if d.natAbs ≤ s.fget (encTiming e) 79 64 then
    let s2 := ((fix s1).fput (encStat e) 23 16 0).countUp (encCount e) 63 32
    if d = 0 then s2 else s2.raiseAt ts 0xE0 sevInfo 0 (encObj e) (ofS 32 d)
  else
    let run := satInc 8 (s.fget (encStat e) 23 16)
    let s2 := (s1.fput (encStat e) 23 16 run).countUp (encCount e) 95 64
    let s3 := s2.raiseAt ts 0xE1 sevWarn 0 (encObj e) (pack [(ofS 32 d, 0), (run, 32)])
    if s.fget (encTiming e) 87 80 ≤ run then encFault e 1 ts s3 else s3

/-- ENCODER_LINE_FAULT (R284): pair 0 A, 1 B or 2 Z shows no valid differential level (RS-422 only). -/
def execEncoderLineFault (e pair : Nat) (s : State) : Res := onBlock s fun s =>
  if 8 ≤ e ∨ 3 ≤ pair then .next s
  else if s.phase ≠ .active ∨ !encOn s e ∨ s.bit (encCfg e) 1 then .next s
  else .next (encFault e 2 s.clk.tb (s.putBit (encStat e) (10 + pair) true))

/-- Own-value checks of an input's or output's attribute beyond its fields (R290). -/
def encOwn (a : Attr) (v : Nat) : Nat :=
  if a.kind = 0 then
    (match a.att with
     | 0x020 => need (fld v 4 2 ≤ 5 && !(bitAt v 6 && fld v 63 32 == 0)) 0x0201
     | _ => 0)
  else
    (match a.att with
     | 0x020 => need (fld v 7 4 < (match fld v 2 1 with | 1 => 12 | 3 => 0 | _ => 8)) 0x0201
     | 0x021 => need (fld v 31 0 != 0) 0x0201
     | _ => 0)

/-- IDX_OFS against CPR (R282, R290). -/
def encOfsOk (s : Block) (e : Nat) : Bool := !s.bit (encCfg e) 6 || s.fget (encTiming e) 63 32 < encCpr s e

/-- The check of CMD and of an input that must be READY (R290). -/
def encReady (a : Attr) (s : Block) : Nat := need (s.bit a 0) 0x0303

/-- The check of an input's CLEAR (R290); `present`: a fault cause persists. -/
def encClearCheck (e : Nat) (present : Bool) (s : Block) : Nat :=
  if encReady (encStat e) s ≠ 0 then 0x0303 else need (s.bit (encStat e) 2 && !present) 0x0304

/-- An input's CLEAR taken (R284). -/
def encClearAct (e : Nat) (s : Block) : Block :=
  let cause := s.fget (encStat e) 5 3
  let v := setFld (setFld (setFld (setFld (s.get (encStat e)) 5 2 0) 9 9 0) 12 10 0) 23 16 0
  ((s.put (encStat e) v).setEch e { s.ech e with run := [], terr := [] }).raise 0xE2 sevInfo (encObj e) cause

/-- ENC_CLEAR (R284, R290): clears a fault whose causes are absent, the runs and the reference. -/
def execEncClear (i e : Nat) (present : Bool) (s : State) : Res := onBlock s fun s =>
  hostCommand i (encCmd e) false (encClearCheck e present) (encClearAct e) noRefuse s

/-- Starts every enabled input at boot step 10 from the count last saved (R285). -/
def encBoot (failed : Nat → Bool) (saved : List Int) (s : Block) : Block :=
  forN 8 (fun e x =>
    let c := x.ech e
    let x1 := x.setEch e { encCh0 with a := c.a, b := c.b, z := c.z, hall := c.hall,
                                       count := if x.bit (encCfg e) 0 then getL saved e 0 else c.count }
    if x.bit (encCfg e) 0 then
      let x2 := x1.put (encValues e) (ofS 64 (x1.ech e).count * 2 ^ 64)
      (x2.putBit (encStat e) 0 (!failed e)).putBit (encStat e) 1 (failed e)
    else x1) s

/-- What power fail, a reset or park saves of the encoders (R29, R77, R285). -/
def encSave (s : Block) : List Int := s.enc.ch.map (fun c => c.count)

/-- At UNPARK the first class A boundary starts a new run (R285). -/
def encUnpark (s : Block) : Block := forN 8 (fun e x => if encOn x e then encStill e x else x) s

end Sys2Proof.Machine
end

