-- ==== Sys2Proof/Machine/Sources.lean ====
section
/-! DEFINITION. Machine/Sources.lean: the delivered value of a loop source and its validity (R150), of this module or of
another node. -/

namespace Sys2Proof.Machine

/-- The last delivered value of a source of this module and its timestamp (R106, R150, R222, R281): the value fields are
those of log entry 29. -/
def srcOwn (s : Block) (oid : Nat) : Option (Int × Nat) :=
  let a := attrOf oid
  let n := a.idx
  match a.blk, a.kind, a.att with
  | 5, 0, k =>
    if (k = 0 ∨ k = 0x011 ∨ k = 0x012) ∧ (s.fch n).delivAt.isSome then
      some (toS 32 (s.fget (feLast n) 95 64), s.fget (feLast n) 63 0) else none
  | 7, 0, 0x012 => if s.fget (lpOut n) 63 0 = 0 then none else some (toS 32 (s.fget (lpOut n) 95 64), s.fget (lpOut n) 63 0)
  | 8, 0, 0x013 => if s.fget (lnFlow n) 63 0 = 0 then none else some (toS 32 (s.fget (lnFlow n) 95 64), s.fget (lnFlow n) 63 0)
  | 9, 0, 0x012 => if s.fget (axAir n) 63 0 = 0 then none else some (toS 32 (s.fget (axAir n) 95 64), s.fget (axAir n) 63 0)
  | 9, 1, 0x011 => if s.fget axsBaro 63 0 = 0 then none else some (s.fget axsBaro 95 64, s.fget axsBaro 63 0)
  | 0xC, 0, 0x011 => if (s.ech n).del.1 = 0 then none else some ((s.ech n).del.2, (s.ech n).del.1)
  | _, _, _ => none

/-- Whether an object ID names a loop source. -/
def isSource (oid : Nat) : Bool :=
  let a := attrOf oid
  a.idx < instCount a.blk a.kind && oid < 2 ^ 32 &&
  (match a.blk, a.kind, a.att with
   | 5, 0, k => k == 0 || k == 0x011 || k == 0x012
   | 7, 0, 0x012 => true
   | 8, 0, 0x013 => true
   | 9, 0, 0x012 => true
   | 9, 1, 0x011 => true
   | 0xC, 0, 0x011 => true
   | _, _, _ => false)

/-- Whether a NODE field names this module. -/
def Block.ownNode (s : Block) (node : Nat) : Bool := node == 0 || node == s.img.node

/-- The node a NODE field names. -/
def Block.nodeOf (s : Block) (node : Nat) : Nat := if s.ownNode node then s.img.node else node

/-- The last delivered value of a source: of this module, or, of another node and at a paired HEAD of any node, as the
SNAPSHOT gave it (R150, R325), once it has carried a delivered value. -/
def srcRead (s : Block) (oid node : Nat) : Option (Int × Int) :=
  if s.ownNode node && !s.paired then (srcOwn s oid).map (fun v => (v.1, (v.2 : Int)))
  else match s.remote.find? (fun r => r.node == s.nodeOf node && r.oid == oid) with
    | some r => if r.dlv then some (r.val, r.ts) else none
    | none => none

/-- The value of a source that is valid at instant `t` under a MAX_AGE in ns (R150). -/
def srcValid (s : Block) (oid node maxAge t : Nat) : Option Int :=
  match srcRead s oid node with
  | some v => if (t : Int) ≤ v.2 + maxAge then some v.1 else none
  | none => none

/-- The same for a kernel of this module's own output stages, which reads local values in a pair too (R325). -/
def srcValidLocal (s : Block) (oid node maxAge t : Nat) : Option Int :=
  if s.ownNode node then
    match srcOwn s oid with
    | some v => if t ≤ v.2 + maxAge then some v.1 else none
    | none => none
  else srcValid s oid node maxAge t

end Sys2Proof.Machine
end

