-- ==== Sys2Proof/Machine/Axis.lean ====
section
/-! DEFINITION. Machine/Axis.lean: the direct fan and blower drive (chapter 09, R204 to R231). -/

namespace Sys2Proof.Machine

/-- Axis a. -/
def Block.xch (s : Block) (a : Nat) : AxCh := getL s.axis.ch a axCh0
/-- The machine with axis a replaced. -/
def Block.setXch (s : Block) (a : Nat) (c : AxCh) : Block := { s with axis := { s.axis with ch := setAt s.axis.ch a c } }

/-- STATE of an axis: 0 OFF, 1 STOPPED, 2 CATCH, 3 ALIGN or MAGNETISE, 4 START, 5 RUN, 6 STOPPING, 7 RETRY_WAIT, 8 STALLED,
9 TRIPPED, 10 ZONE_OFF, 11 COAST_UV. -/
def axSt (s : Block) (a : Nat) : Nat := s.fget (axStat a) 5 2
/-- Whether the motor is a PM motor. -/
def axPm (s : Block) (a : Nat) : Bool := s.bit (axCfg a) 1
/-- Whether the class is DISCHARGE. -/
def axDisch (s : Block) (a : Nat) : Bool := s.bit (axCfg a) 2
/-- N_MAX, N_MIN and SL_MIN in 0.1 rpm. -/
def axNmax (s : Block) (a : Nat) : Nat := s.fget (axSpeed a) 31 0
def axNmin (s : Block) (a : Nat) : Nat := s.fget (axSpeed a) 63 32
def axSlMin (s : Block) (a : Nat) : Nat := s.fget (axSpeed a) 95 64
/-- Whether an axis is enabled and READY. -/
def axOn (s : Block) (a : Nat) : Bool := s.bit (axCfg a) 0 && s.bit (axStat a) 0
/-- Whether the gates switch in a state (R207); in CATCH, the zero-vector pulses. -/
def axSwitching (st : Nat) : Bool := 2 ≤ st && st ≤ 6
/-- DRVEN (R18). -/
def Block.drven (s : Block) : Bool := s.bit axsStat 1

/-- The value levels 4 and 5 select, none for stop, and whether level 4 forces it (R70, R227, R228). -/
def axSelect (s : Block) (a : Nat) : Option Int × Bool :=
  let sp := some (toS 32 (s.get (axSp a)))
  match s.outMode with
  | 2 => (sp, false)
  | 3 =>
    if axDisch s a then (none, true)
    else (match s.get modeHoldFan with
      | 0 => (none, true)
      | 1 => (sp, false)
      | _ => (some (axNmin s a), true))
  | 4 => if axDisch s a then (none, true) else (some (axNmax s a), true)
  | 5 => if (s.xch a).manSet then (some (toS 32 (s.get (axMan a))), false) else (none, false)
  | _ => (none, true)

/-- The speed reference target (R212): none for stop. -/
def axTarget (s : Block) (a : Nat) : Option Int :=
  match (axSelect s a).1 with
  | none => none
  | some v =>
    if v.natAbs < axNmin s a ∨ (v < 0 ∧ !s.bit (axCfg a) 8) then none
    else some (clampI (-(axNmax s a : Int)) (axNmax s a) v)

/-- The effective current limit in mA (R211). -/
def axLimit (s : Block) (a : Nat) : Nat :=
  let st := s.fget (axStat a) 13 11
  let l1 := (rdiv (s.get (axCurLimit a) * (8 - st) : Nat) 8).toNat
  let l2 := if (s.xch a).cont then min l1 (s.fget (axProt a) 95 64) else l1
  if axPm s a && (axSt s a == 3 || axSt s a == 4) then min l2 (s.fget (axStart a) 31 0) else l2

/-- Whether levels 1, 2 or 4 set the applied value (R227). -/
def axForced (s : Block) (a : Nat) : Bool :=
  (axSelect s a).2 || axSt s a == 9 || axSt s a == 11 || s.zoneDown (10 + a) || !s.drven

/-- The applied value a loop tracks (R158, R227): SPEED_REF, 0 while the gates are off. -/
def axApplied (s : Block) (a : Nat) : Int :=
  if axSwitching (axSt s a) then rdiv (s.xch a).ref 1000000000 else 0

/-- Enters a STATE, with 0xA0 when it changes (R207, R230). -/
def axEnter (a st : Nat) (s : Block) : Block :=
  let old := axSt s a
  if old = st then s
  else
    let s1 := (s.fput (axStat a) 5 2 st).setXch a { s.xch a with at' := s.clk.raw }
    let s2 := s1.raise 0xA0 sevInfo (axObj a) (pack [(old, 0), (st, 8)])
    s2.putBit (axStat a) 14 (axForced s2 a)

/-- Switches the gates off and enters a state that holds them off. -/
def axGatesOff (a st : Nat) (s : Block) : Block :=
  let s1 := axEnter a st s
  let s2 := s1.setXch a { s1.xch a with ref := 0, next := (0, 0, 0), duty := (0, 0, 0), curCmd := (0, 0), curFrom := none, known := false,
                                        against := false }
  -- the axis uses its feedback again from the next start (R218)
  if st = 1 then (s2.putBit (axStat a) 6 (s2.fget (axCfg a) 4 3 == 0)).putBit (axStat a) 7 false else s2

/-- Whether a start request is present and may be served (R213, R224, R227). -/
def axMayStart (s : Block) (a : Nat) : Bool :=
  axOn s a && (axTarget s a).isSome && !s.bit (axStat a) 15 && !s.zoneDown (10 + a) && s.drven

/-- The state of an axis at rest: STOPPED, or ZONE_OFF while its zone is shut down (R227, R230). -/
def axRest (s : Block) (a : Nat) : Nat := if s.zoneDown (10 + a) then 10 else 1

/-- Starts from a catch (R213): STATE CATCH and one more start. -/
def axStartAct (a : Nat) (s : Block) : Block :=
  let s1 := (axEnter a 2 s).countUp (axCount a) 31 0
  s1.setXch a { s1.xch a with catchAt := s1.clk.raw, ref := 0, against := false }

/-- NO_CURVE (R226): class FAN without a FAN_CURVE. -/
def axCurveSync (a : Nat) (s : Block) : Block :=
  let now := s.bit (axCfg a) 0 && !axDisch s a && (s.tab (axCurve a)).isNone
  if now = s.bit (axStat a) 27 then s
  else (s.putBit (axStat a) 27 now).raiseC 0xAA (if now then sevWarn else sevInfo) 1 (axObj a) 0

/-- Brings an axis up (R226): READY or FAILED, STOPPED, its feedback, its bridge and its MCLK. -/
def axBringUp (a : Nat) (failed nrdy : Bool) (s : Block) : Block :=
  if !s.bit (axCfg a) 0 then s.put (axStat a) (pack [(b2n failed, 1)])
  else
    let s1 := s.put (axStat a) (pack [(b2n (!failed), 0), (b2n failed, 1), (axRest s a, 2), (b2n (s.fget (axCfg a) 4 3 == 0), 6),
      (1, 14), (b2n nrdy, 15), (b2n (s.bit (axStat a) 27), 27)])
    axCurveSync a (s1.putBit axsStat (2 + a / 4) true)

/-- A CFG that has waited for its axis to stop applied (R231). -/
def axCfgApply (a : Nat) (s : Block) : Block :=
  match (s.xch a).cfgNext with
  | none => s
  | some v =>
    let s1 := (s.put (axCfg a) v).setXch a { s.xch a with cfgNext := none }
    axBringUp a (s1.bit (axStat a) 1) (s1.bit (axStat a) 15) s1

/-- The machine at the present or next class A boundary. -/
def Block.toClassA (s : Block) : Block := s.advanceTb (ceilMultiple (max 1 (clsPeriod s 0)) s.clk.tb)

/-- AXIS_START (R213): a start request on a STOPPED axis; one that finds BRIDGE_NRDY waits (R224, R226). -/
def execAxisStart (a : Nat) (s : State) : Res := onBlock s fun s =>
  if 12 ≤ a then .next s
  else if s.phase ≠ .active ∨ axSt s a ≠ 1 ∨ !axOn s a ∨ (axTarget s a).isNone then .next s
  else if axMayStart s a then .next (axStartAct a s.toClassA)
  else if s.bit (axStat a) 15 then .next (s.raise 0xAC sevWarn (axObj a) 0)
  else .next s

/-- A start failure or an open phase (R214, R215): gates off, RETRY_WAIT or STALLED. -/
def axFail (a crit : Nat) (s : Block) : Block :=
  let n := satInc 8 (s.fget (axStat a) 23 16)
  let wait := match n with | 1 => 10 | 2 => 30 | 3 => 90 | _ => 300
  let s1 := (s.fput (axStat a) 23 16 n).countUp (axCount a) 63 32
  let s2 := s1.raise 0xA1 sevWarn (axObj a) (pack [(n, 0), (crit, 8)])
  if s.fget (axCfg a) 23 16 ≤ n then (axGatesOff a 8 s2).raise 0xA2 sevFault (axObj a) 0
  else
    let s3 := axGatesOff a 7 s2
    s3.setXch a { s3.xch a with waitEnd := s3.clk.raw + wait * nsPerS }

/-- Enters ALIGN or MAGNETISE (R213). -/
def axAlign (a : Nat) (s : Block) : Block :=
  let s1 := axEnter a 3 s
  s1.setXch a { s1.xch a with ref := 0, against := false }

/-- Enters RUN with the reference at a speed. -/
def axRun (a : Nat) (ref : Int) (s : Block) : Block :=
  let s1 := axEnter a 5 s
  let t := axTarget s1 a
  let ag := match t with | some v => decide (v * ref < 0) | none => false
  s1.setXch a { s1.xch a with ref := ref * 1000000000, against := ag }

/-- AXIS_CATCH_DONE (R216): the catch ends, with the speed found (0.1 rpm) when the rotor turns. -/
def execAxisCatchDone (a : Nat) (found : Bool) (speed : Int) (s : State) : Res := onBlock s fun s =>
  if 12 ≤ a then .next s
  else if axSt s a ≠ 2 then .next s
  else
    let due := (s.xch a).catchAt + (if axPm s a then 3000000 else if found then 0 else 500000000)
    let s0 := s.advanceTo due
    if (axTarget s0 a).isNone then .next (axGatesOff a 1 s0)
    else if found && axSlMin s0 a ≤ speed.natAbs then .next (axRun a speed s0)
    else .next (axAlign a s0)

/-- AXIS_ALIGN_DONE (R213, R214): 200 ms of ALIGN or T_MAG of MAGNETISE; `flux` is the estimated rotor flux in % of rated. -/
def execAxisAlignDone (a flux : Nat) (s : State) : Res := onBlock s fun s =>
  if 12 ≤ a then .next s
  else if axSt s a ≠ 3 then .next s
  else
    let dur := if axPm s a then 200000000 else s.fget (axStart a) 127 112 * 1000000
    let s0 := s.advanceTo ((s.xch a).at' + dur)
    if (axTarget s0 a).isNone then .next (axGatesOff a 1 s0)
    else if !axPm s0 a ∧ flux < 80 then .next (axFail a 2 s0)
    else .next (axEnter a 4 s0)

/-- RPM of an encoder input in 0.1 rpm. -/
def encRpm (s : Block) (e : Nat) : Int := toS 32 (s.fget (encValues e) 191 160)

/-- Feedback speed of an axis: the encoder's, by FB_ENC. -/
def axFbSpeed (s : Block) (a : Nat) : Int := encRpm s (s.fget (axCfg a) 7 5)

/-- When the start check of an axis is due (R213): a PM reference reaching START_SPD, the end of an IM's START_WIN. -/
def axCheckDue (s : Block) (a : Nat) : Nat :=
  let st := s.get (axStart a)
  if axPm s a then
    (s.xch a).at' + (if fld st 95 64 = 0 then 0 else (fld st 63 32 * nsPerS + fld st 95 64 - 1) / fld st 95 64)
  else (s.xch a).catchAt + fld st 111 96 * 100000000

/-- AXIS_START_CHECK (R213, R214): `bemf` is the observed back-EMF in % of ψ × ω_e of the reference; `reached`: an IM's
speed has reached START_SPD. -/
def execAxisStartCheck (a bemf : Nat) (reached : Bool) (s : State) : Res := onBlock s fun s =>
  if 12 ≤ a then .next s
  else if axSt s a ≠ 4 then .next s
  else
    let spd := s.fget (axStart a) 63 32
    let s0 := if !axPm s a && reached then s else s.advanceTo (axCheckDue s a)
    let sign : Int := match axTarget s0 a with | some v => if v < 0 then -1 else 1 | none => 1
    let fb := s0.fget (axCfg a) 4 3
    if (axTarget s0 a).isNone then .next (axGatesOff a 1 s0)
    else if axPm s0 a ∧ bemf < 50 then .next (axFail a 1 s0)
    else if !axPm s0 a ∧ !reached then .next (axFail a 3 s0)
    else if fb ≠ 0 ∧ 2 * (axFbSpeed s0 a).natAbs < spd then .next (axFail a 4 s0)
    else .next (axRun a (sign * spd) s0)

/-- AXIS_RETRY_WAIT_END (R215): the axis starts again, or comes to rest and keeps ATTEMPTS. -/
def execAxisRetryWaitEnd (a : Nat) (s : State) : Res := onBlock s fun s =>
  if 12 ≤ a then .next s
  else if axSt s a ≠ 7 then .next s
  else
    let s0 := s.advanceTo (s.xch a).waitEnd
    if axMayStart s0 a then .next (axStartAct a s0.toClassA) else .next (axGatesOff a (axRest s0 a) s0)

/-- AXIS_ATTEMPTS_RESET (R215): 60 s of uninterrupted RUN. -/
def execAxisAttemptsReset (a : Nat) (s : State) : Res := onBlock s fun s =>
  if 12 ≤ a then .next s
  else if axSt s a ≠ 5 then .next s
  else .next ((s.advanceTo ((s.xch a).at' + 60 * nsPerS)).fput (axStat a) 23 16 0)

/-- AXIS_STOP (R217, R230): a stop request ends a catch or start at once and a run by STOP_MODE. -/
def execAxisStop (a : Nat) (s : State) : Res := onBlock s fun s =>
  if 12 ≤ a then .next s
  else
    let st := axSt s a
    if s.phase ≠ .active ∨ (axTarget s a).isSome ∨ st < 2 ∨ 5 < st then .next s
    else
      let s0 := s.toClassA
      if st = 5 ∧ s.bit (axCfg a) 9 then .next (axEnter a 6 s0) else .next (axGatesOff a 1 s0)

/-- AXIS_RAMP_STOP_DONE (R217): the reference of a RAMP stop has reached 0. -/
def execAxisRampStopDone (a : Nat) (s : State) : Res := onBlock s fun s =>
  if 12 ≤ a then .next s
  else if axSt s a ≠ 6 ∨ (s.xch a).ref ≠ 0 then .next s
  else .next (axCfgApply a (axGatesOff a 1 s))

/-- A trip at an edge at timebase `ts` (R92, R223, R224): latched while the gates switch, BRIDGE_NRDY with the gates off. -/
def axTripAct (a cause phase ts : Nat) (s : Block) : Block :=
  if axSwitching (axSt s a) then
    let s1 := (s.fput (axStat a) 26 24 cause).countUp (axCount a) 95 64
    let s2 := s1.raiseAt ts 0xA3 sevFault 0 (axObj a) (pack [(cause, 0), (phase % 256, 8)])
    axGatesOff a 9 s2
  else if s.bit (axStat a) 15 then s
  else
    let s1 := s.putBit (axStat a) 15 true
    if axSt s a = 1 ∧ (axTarget s a).isSome then s1.raise 0xAC sevWarn (axObj a) 0 else s1

/-- The cause of a hardware trip (R223, R224): 1 OC where a phase's value exceeds OC_TRIP in magnitude, 2 OV where the DC link's exceeds
OV_LIM, 3 MOD from a run of 64 equal bits on, 0 none. -/
def axTripCause (s : Block) (a stream : Nat) (v : Int) (stuck : Nat) : Nat :=
  if 64 ≤ stuck then 3
  else if stream = 3 then (if (s.fget (axProt a) 15 0 : Int) < v then 2 else 0)
  else if s.fget (axScale a) 127 96 < v.natAbs then 1 else 0

/-- AXIS_TRIP (R223): a phase stream, 0 to 2, or the DC link's, 3. -/
def execAxisTrip (a stream : Nat) (v : Int) (stuck : Nat) (s : State) : Res := onBlock s fun s =>
  if 12 ≤ a then .next s
  else if s.phase ≠ .active ∨ !axOn s a ∨ axTripCause s a stream v stuck = 0 then .next s
  else .next (axTripAct a (axTripCause s a stream v stuck) stream s.clk.tb s)

/-- BFLT_FAULT (R19, R92, R224): BFLTa has been low for BFLT_FILT; the trip is stamped at its fall. -/
def execBfltFault (a : Nat) (s : State) : Res := onBlock s fun s =>
  if 12 ≤ a then .next s
  else if s.phase ≠ .active ∨ !axOn s a then .next s
  else .next (axTripAct a 4 0 (s.clk.tb - 4 * s.fget (axProt a) 59 48) s)

/-- AXIS_DC_UNDERVOLTAGE (R224): below UV_LIM for 1 ms with the gates switching. -/
def execAxisDcUndervoltage (a : Nat) (v : Int) (s : State) : Res := onBlock s fun s =>
  if 12 ≤ a then .next s
  else if s.phase ≠ .active ∨ !axOn s a ∨ !axSwitching (axSt s a) ∨ (s.fget (axProt a) 31 16 : Int) ≤ v then .next s
  else .next ((axGatesOff a 11 s).raise 0xA5 sevWarn (axObj a) 0)

/-- Leaves a state that held the gates off: a start request present starts from its catch. -/
def axResume (a : Nat) (s : Block) : Block :=
  let s1 := axCfgApply a (axGatesOff a (axRest s a) s)
  if axMayStart s1 a then axStartAct a s1 else s1

/-- AXIS_UV_RECOVERY (R225): above UV_LIM + 5 % for 100 ms. -/
def execAxisUvRecovery (a : Nat) (v : Int) (s : State) : Res := onBlock s fun s =>
  if 12 ≤ a then .next s
  else if axSt s a ≠ 11 ∨ 100 * v ≤ 105 * (s.fget (axProt a) 31 16 : Int) then .next s
  else .next (axResume a (s.raise 0xA5 sevInfo (axObj a) 0))

/-- The open phase of an axis (R224): the one below 10 % of both others, while |i| is 20 % of CUR_LIMIT or more. -/
def axOpenOf (s : Block) (a iu iv iw : Nat) : Option Nat :=
  if 25 * (iu * iu + iv * iv + iw * iw) < 3 * s.get (axCurLimit a) * s.get (axCurLimit a) then none
  else if 10 * iu < iv ∧ 10 * iu < iw then some 0
  else if 10 * iv < iu ∧ 10 * iv < iw then some 1
  else if 10 * iw < iu ∧ 10 * iw < iv then some 2
  else none

/-- AXIS_OPEN_PHASE (R214, R224): counted as a start failure. -/
def execAxisOpenPhase (a iu iv iw : Nat) (s : State) : Res := onBlock s fun s =>
  if 12 ≤ a then .next s
  else if axSt s a ≠ 4 ∧ axSt s a ≠ 5 then .next s
  else match axOpenOf s a iu iv iw with
    | none => .next s
    | some p => .next (axFail a 5 (s.raise 0xAF sevFault (axObj a) p))

/-- AXIS_TRIP_AUTO_CLEAR (R225): 5 s after the condition ended, at most 3 times in 60 min. -/
def execAxisTripAutoClear (a : Nat) (s : State) : Res := onBlock s fun s =>
  if 12 ≤ a then .next s
  else if axSt s a ≠ 9 ∨ !s.bit (axCfg a) 10 then .next s
  else
    let s0 := s.advanceTo ((s.xch a).at' + 5 * nsPerS)
    let recent := (s0.xch a).autoClr.filter (fun t => s0.clk.raw < t + 3600 * nsPerS)
    if 3 ≤ recent.length then .next s0
    else
      let s1 := s0.setXch a { s0.xch a with autoClr := s0.clk.raw :: recent }
      .next (axResume a ((s1.fput (axStat a) 26 24 0).raise 0xA4 sevInfo (axObj a) 0))

/-- The check of an axis CLEAR (R231); `present`: the trip condition persists. -/
def axClearCheck (a : Nat) (present : Bool) (s : Block) : Nat :=
  if !s.bit (axStat a) 0 then 0x0303 else need (axSt s a == 8 || (axSt s a == 9 && !present)) 0x0304

/-- An axis CLEAR taken (R226). -/
def axClearAct (a : Nat) (s : Block) : Block :=
  let s1 := if axSt s a = 9 then (s.fput (axStat a) 26 24 0).raise 0xA4 sevInfo (axObj a) 0 else s
  axResume a (s1.fput (axStat a) 23 16 0)

/-- AXIS_CLEAR (R215, R225, R231): clears a trip whose condition is absent, or STALLED, and resets ATTEMPTS. -/
def execAxisClear (i a : Nat) (present : Bool) (s : State) : Res := onBlock s fun s =>
  hostCommand i (axCmd a) false (axClearCheck a present) (axClearAct a) noRefuse s

/-- Whether a condition of R218 holds: 1 no feedback edge for max(3 × the interval expected, 2 ms), `since` the ns without one; 2 the
feedback speed more than 20 % off the estimator's; 3 an encoder fault. -/
def axTachLost (s : Block) (a cond since : Nat) : Bool :=
  let e := s.fget (axCfg a) 7 5
  let est := (s.xch a).est
  match cond with
  | 1 => decide (2000000 ≤ since) && decide (1800 * nsPerS ≤ since * (est.natAbs * encCpr s e))
  | 2 => decide (est.natAbs < 5 * (axFbSpeed s a - est).natAbs)
  | 3 => s.bit (encStat e) 2
  | _ => false

/-- TACH_LOSS (R218): condition 1 missing edges, 2 speed mismatch, 3 encoder fault. -/
def execTachLoss (a cond since : Nat) (s : State) : Res := onBlock s fun s =>
  if 12 ≤ a then .next s
  else if axSt s a ≠ 5 ∨ s.fget (axCfg a) 4 3 = 0 ∨ s.bit (axStat a) 6 ∨ (s.xch a).est.natAbs < axSlMin s a ∨
      !axTachLost s a cond since then .next s
  else
    let s1 := ((s.putBit (axStat a) 6 true).putBit (axStat a) 7 true).countUp (axCount a) 127 96
    .next (s1.raise 0xA7 sevWarn (axObj a) (pack [(cond, 0), (ofS 32 (s.xch a).est, 32)]))

/-- AXIS_CUR_LIM (R211): the limit has kept the speed low for 5 s. -/
def execAxisCurLim (a : Nat) (s : State) : Res := onBlock s fun s =>
  if 12 ≤ a then .next s
  else match (s.xch a).curFrom with
    | none => .next s
    | some t =>
      if s.bit (axStat a) 8 then .next s
      else
        let s0 := s.advanceTo (t + 5 * nsPerS)
        .next ((s0.putBit (axStat a) 8 true).raise 0xA9 sevWarn (axObj a) (axLimit s0 a))

/-- BRIDGE_NRDY_CLEAR (R224): the bridge is ready again with the gates off. -/
def execBridgeNrdyClear (a : Nat) (s : State) : Res := onBlock s fun s =>
  if 12 ≤ a then .next s
  else if s.phase ≠ .active ∨ !s.bit (axStat a) 15 ∨ axSwitching (axSt s a) then .next s
  else .next ((s.putBit (axStat a) 15 false).raise 0xAC sevInfo (axObj a) 0)

/-- BARO_SAMPLE (R221): every 100 ms; `ok`: the sensor reports no fault. -/
def execBaroSample (p : Nat) (ok : Bool) (s : State) : Res := onBlock s fun s =>
  if s.phase ≠ .active then .next s
  else
    let s0 := s.advanceTo s.axis.baroAt
    let good := ok && 50000 ≤ p && p ≤ 115000
    let s1 := { s0 with axis := { s0.axis with baroAt := s0.clk.raw + 100000000 } }
    let s2 := s1.put axsBaro (pack [(s1.clk.tb % 2 ^ 64, 0), (p % 2 ^ 32, 64)])
    if good = s2.bit axsStat 0 then .next s2
    else .next ((s2.putBit axsStat 0 good).raise 0xAB (if good then sevInfo else sevWarn) axsObj 0)

/-- Phase current of a control window in mA (R208, R209): (2ρ − 1) × I_FS over T_PWM / 50 ns bits. -/
def axCurrent (s : Block) (a ones : Nat) : Int :=
  let n := 2 * s.fget (axPwm a) 15 0
  rdiv ((2 * (ones : Int) - n) * (s.fget (axScale a) 31 0 : Int)) n

/-- DC link voltage of a control window in 0.1 V (R208). -/
def axVdc (s : Block) (a ones : Nat) : Int :=
  let n := 2 * s.fget (axPwm a) 15 0
  rdiv ((2 * (ones : Int) - n) * toS 32 (s.fget (axScale a) 63 32)) n + toS 32 (s.fget (axScale a) 95 64)

/-- A commanded high interval in 4 ns after the limits of R206. -/
def axDuty (s : Block) (a d : Nat) : Nat :=
  let t := 25 * s.fget (axPwm a) 15 0
  let m := 2 * s.fget (axPwm a) 27 16 + s.fget (axPwm a) 39 28
  let x := min d t
  if x < m then 0 else if t - x < m then t else x

/-- Moves a reference toward a target by at most `up` while its magnitude rises and `down` while it falls; a falling
reference holds under `brake` (R212). -/
def axMove (ref tgt : Int) (up down : Nat) (brake : Bool) : Int :=
  if ref = tgt then ref
  else
    let rising := decide ((0 ≤ ref ∧ ref < tgt) ∨ (ref ≤ 0 ∧ tgt < ref))
    let lim := if rising then up else down
    let goal := if rising then tgt else if (0 < ref ∧ tgt < 0) ∨ (ref < 0 ∧ 0 < tgt) then 0 else tgt
    if !rising && brake then ref
    else clampI (ref - lim) (ref + lim) goal

/-- Torque in 10⁻¹⁰ N·m (R210), none where the formula divides by zero. -/
def axTorque (s : Block) (a : Nat) (r : AxisIn) : Option Int :=
  let p : Int := s.fget (axCfg a) 39 32
  let m : Int := s.fget (axMotor a) 127 96
  let lr : Int := s.fget (axMotor a) 95 64
  if axPm s a then some (15 * p * m * r.iq)
  else if lr = 0 then none
  else some (rdivI (15 * p * m * m * r.imd * r.iq) (lr * 1000000))

/-- Shaft power in W as a fraction (R219) from a torque in 10⁻¹⁰ N·m and a speed in 0.1 rpm, each a fraction by `k`. -/
def axPower (s : Block) (a : Nat) (t n : Int) (k : Nat) : Int × Int :=
  let nref : Int := s.fget (axAirCfg a) 31 0
  let loss : Int := s.fget (axMotor a) 255 224
  (t * n * piNum * nref - loss * n * k * (3000000000000 * piDen : Nat), (3000000000000 * piDen : Nat) * nref * k * k)

/-- The motor overload model one sample on (R211), none where the formula divides by zero; `i2` is I² in mA². -/
def axTheta (s : Block) (a i2 : Nat) : Option Nat :=
  let ic := s.fget (axProt a) 95 64
  let tm := s.fget (axProt a) 111 96
  if ic = 0 ∨ tm = 0 then none
  else
    let th : Int := (s.xch a).theta
    some (max 0 (th + rdivI (((i2 : Int) * 10 ^ 15 - th * (ic * ic : Nat)) * (clsPeriod s 0 : Int))
      ((ic * ic : Nat) * tm * nsPerS))).toNat

/-- The speed the axis uses: feedback, or the observer when sensorless (R210, R218). -/
def axSpeedNow (s : Block) (a : Nat) (r : AxisIn) : Int := if s.bit (axStat a) 6 then r.est else axFbSpeed s a

/-- A phase command in 4 ns with the dead-time compensation of DT_COMP (R206): ±DT, with the sign of the phase's current. -/
def axComp (s : Block) (a : Nat) (i : Int) (x : Nat) : Nat :=
  if !s.bit (axCfg a) 11 ∨ i = 0 then x
  else if 0 < i then min (25 * s.fget (axPwm a) 15 0) (x + s.fget (axPwm a) 27 16)
  else x - s.fget (axPwm a) 27 16

/-- Three new duties of the kernel (R209, R210) for phase currents `iu`, `iv`, `iw`: free phase commands (log entry 30), compensated and
within the limits of R206. -/
def axNewDuties (a : Nat) (iu iv iw : Int) (s : Block) : (Nat × Nat × Nat) × Block :=
  let d1 := s.draw
  let d2 := d1.2.draw
  let d3 := d2.2.draw
  let t := 25 * s.fget (axPwm a) 15 0 + 1
  let leg := fun (i : Int) (d : Nat) => axDuty s a (axComp s a i (d % t))
  ((leg iu d1.1, leg iv d2.1, leg iw d3.1), d3.2)

/-- The current command of a class A sample in mA rms, d and q (R210, R211, R213): START_I of a PM motor in ALIGN and START, I_MAG of an IM,
and the free output of the speed controller (log entry 30); together never above the effective current limit. -/
def axCurCmd (a : Nat) (s : Block) : (Int × Int) × Block :=
  let lim : Int := axLimit s a
  let mag : Int := min (s.fget (axMotor a) 223 192 : Int) lim
  match axSt s a, axPm s a with
  | 2, _ => ((0, 0), s)
  | 3, true => ((lim, 0), s)
  | 4, true => ((lim, 0), s)
  | 3, false => ((mag, 0), s)
  | _, pm =>
    let id : Int := if pm then 0 else mag
    let b : Int := isqrt (lim * lim - id * id).toNat
    let d := s.draw
    ((id, clampI (-b) b (toS 32 d.1)), d.2)

/-- The two gates of a leg at a tick of the carrier period, high then low (R206), for a commanded high interval `x` of a period of `t`
ticks with dead time `dt`, all in 4 ns: the interval lies about the peak, and each gate starts `dt` late. -/
def legGates (t dt x k : Nat) : Bool × Bool :=
  let on := (t - x) / 2
  (decide (on + dt ≤ k ∧ k < on + x) || (x == t && decide (k < t)), decide (k < on ∨ on + x + dt ≤ k) || x == 0)

/-- The gates of a leg of an axis at tick `k` after a valley (R206, R207, R216): low unless its state switches; in the catch of a PM motor
all three low gates for 100 µs of every 1 ms, three times. -/
def axGate (s : Block) (a leg k : Nat) : Bool × Bool :=
  let d := (s.xch a).duty
  let x := if leg = 0 then d.1 else if leg = 1 then d.2.1 else d.2.2
  let st := axSt s a
  if st = 2 ∧ axPm s a then
    let t := s.clk.raw - (s.xch a).catchAt
    (false, decide (t < 3000000 ∧ t % 1000000 < 100000))
  else if axSwitching st then legGates (25 * s.fget (axPwm a) 15 0) (s.fget (axPwm a) 27 16) x k
  else (false, false)

/-- The overload model and the limit step of a class A sample (R211, R229). -/
def axLimits (a i2 : Nat) (s : Block) : Block :=
  let s0 := s.fput (axStat a) 13 11 (s.zoneStep (10 + a))
  let d := s0.draw
  let th := match axTheta s0 a i2 with | some t => t | none => d.1
  let s1 := match axTheta s0 a i2 with | some _ => s0 | none => d.2
  let was := (s1.xch a).cont
  let now := if was then decide (1000000000000000 ≤ th) else decide (1100000000000000 ≤ th)
  let s2 := (s1.setXch a { s1.xch a with theta := th, cont := now }).putBit (axStat a) 10 now
  if now && !was then s2.raise 0xA6 sevWarn (axObj a) 0 else s2

/-- The reference of a class A sample (R212, R213, R216). -/
def axRefStep (a : Nat) (vdc : Int) (s : Block) : Block :=
  let c := s.xch a
  let p := clsPeriod s 0
  let acc := s.fget (axSpeed a) 127 96 * p
  let dec := s.fget (axSpeed a) 159 128 * p
  let brake := decide ((s.fget (axProt a) 47 32 : Int) < vdc)
  let e9 : Int := 1000000000
  match axSt s a with
  | 4 =>
    let sign : Int := match axTarget s a with | some v => if v < 0 then -1 else 1 | none => 1
    let spd : Int := s.fget (axStart a) 63 32
    let tgt := match axTarget s a with
      | some v => if axPm s a then sign * spd else v
      | none => c.ref / e9
    let up := if axPm s a then s.fget (axStart a) 95 64 * p else acc
    s.setXch a { c with ref := axMove c.ref (tgt * e9) up dec brake }
  | 5 =>
    if c.against then
      let r := axMove c.ref 0 acc dec brake
      let s1 := s.setXch a { c with ref := r }
      if r.natAbs ≤ axSlMin s a * 1000000000 then axAlign a s1 else s1
    else match axTarget s a with
      | some v => s.setXch a { c with ref := axMove c.ref (v * e9) acc dec brake }
      | none => s
  | 6 => s.setXch a { c with ref := axMove c.ref 0 acc dec brake }
  | _ => s

/-- CUR_LIM's condition and end at a class A sample (R211). -/
def axCurStep (a : Nat) (n : Int) (lim : Bool) (s : Block) : Block :=
  let c := s.xch a
  let ref := c.ref / 1000000000
  let low := lim && axSt s a == 5 && decide (n.natAbs * 100 < ref.natAbs * 98)
  if low then s.setXch a { c with curFrom := some (c.curFrom.getD s.clk.raw) }
  else
    let s1 := s.setXch a { c with curFrom := none }
    if s.bit (axStat a) 8 then (s1.putBit (axStat a) 8 false).raise 0xA9 sevInfo (axObj a) (axLimit s1 a) else s1

/-- Time with the gates switching, in HOURS per 0.1 h (R207, the *Other AXIS[a] attributes* table). -/
def axHoursStep (a dt : Nat) (s : Block) : Block :=
  let t := (s.xch a).gateNs + dt
  let s1 := s.setXch a { s.xch a with gateNs := t % (360 * nsPerS) }
  if t < 360 * nsPerS then s1 else s1.put (axHours a) (satU 32 (s1.get (axHours a) + t / (360 * nsPerS)))

/-- The class A sample of one axis (R209 to R212): the duties of the sample before take effect, the control values are read
and the kernel runs. -/
def axSample (a : Nat) (r : AxisIn) (s : Block) : Block :=
  if !axOn s a then s
  else
    let iu := axCurrent s a r.onesU
    let iv := axCurrent s a r.onesV
    let iw := axCurrent s a r.onesW
    let vdc := axVdc s a r.onesL
    let i2 := ((iu * iu + iv * iv + iw * iw) / 3).toNat
    let c := s.xch a
    let moved := if axSt s a = 5 ∨ axSt s a = 6 then c.angle + r.turn else c.angle
    let s0 := s.setXch a { c with duty := c.next, est := r.est, angle := moved }
    let n := axSpeedNow s0 a r
    let s1 := axCurStep a n r.lim (axRefStep a vdc (axLimits a i2 s0))
    let st := axSt s1 a
    let on := axSwitching st && st != 2
    let s2 := if on then axHoursStep a (clsPeriod s1 0) s1 else s1
    let dd := axNewDuties a iu iv iw s2
    let cc := axCurCmd a dd.2
    let s3 := if on then cc.2.setXch a { cc.2.xch a with next := dd.1, curCmd := cc.1 } else s2
    let known := (s3.xch a).known || (decide (n.natAbs < axSlMin s3 a) && ((s3.fget (axCfg a) 4 3 != 0) || (axPm s3 a && r.seen)))
    let s4 := if st = 1 then s3.setXch a { s3.xch a with known := known } else s3
    let td := s4.draw
    let te := axTorque s4 a r
    let s5 := match te with | some _ => s4 | none => td.2
    let t := match te with | some v => v | none => toS 32 td.1
    let c5 := s5.xch a
    let s6 := if st = 5 then s5.setXch a { c5 with sumT := c5.sumT + t, sumN := c5.sumN + n, cnt := c5.cnt + 1 } else s5
    let sd := s6.draw
    let pw := axPower s6 a t n 1
    let s7 := if (st = 1 ∧ !known) ∨ pw.2 = 0 then sd.2 else s6
    let speed := if st = 1 ∧ !known then toS 32 sd.1 else n
    let power := if pw.2 = 0 then toS 32 sd.1 else rdivI pw.1 pw.2
    let s8 := s7.put (axValues a) (pack [(s7.clk.tb % 2 ^ 64, 0), (satS 32 speed, 64), (satS 32 (axApplied s7 a), 96),
      (satU 32 (isqrt i2), 128), (satS 32 (rdivI t 100000000), 160), (satS 32 power, 192), ((clampI 0 65535 vdc).toNat, 224)])
    (s8.putBit (axStat a) 9 (on && r.vsat)).putBit (axStat a) 14 (axForced s8 a)

/-- The duties of an axis hold for another P_A when class A overruns (R169, R209). -/
def axOverrun (a : Nat) (s : Block) : Block := s.setXch a { s.xch a with next := (s.xch a).duty }

/-- Every axis at a class A sample. -/
def axSampleAll (rs : List AxisIn) (s : Block) : Block :=
  forN 12 (fun a x => axSample a (getL rs a ⟨0, 0, 0, 0, 0, 0, 0, false, false, false, 0⟩) x) s

/-- Air density in 0.0001 kg/m³ as a fraction, and whether it is an estimate (R221). -/
def axRho (s : Block) (a : Nat) : (Int × Int) × Bool :=
  let ok := s.bit axsStat 0
  let p : Int := if ok then s.fget axsBaro 95 64 else s.get axsBaroDef
  let cfg := s.get (axAirCfg a)
  let t := if fld cfg 95 64 = 0 then none
    else srcValidLocal s (fld cfg 95 64) (fld cfg 107 96) (fld cfg 111 108 * nsPerS) s.clk.tb
  let tc : Int := match t with | some v => v | none => 2000
  (fracPos (p * 100000000, 28705 * (tc + 27315)), !ok || t.isNone)

/-- The word of AIRFLOW. -/
def axAirWord (ts q qual flags pr rho : Nat) : Nat :=
  pack [(ts % 2 ^ 64, 0), (q, 64), (qual, 96), (flags, 98), (pr, 112), (rho, 128)]

/-- QUAL events of the airflow (R222). -/
def axAirQual (a qual flags : Nat) (s : Block) : Block :=
  let run := axSt s a == 5
  let c := s.xch a
  if run && qual == 0 then
    let s1 := s.setXch a { c with airV := true }
    if !c.airV && s.fget (axAir a) 97 96 == 1 then s1.raise 0xAA sevInfo (axObj a) flags else s1
  else if run && c.airV then (s.setXch a { c with airV := false }).raise 0xAA sevWarn (axObj a) flags
  else if run then s
  else s.setXch a { c with airV := false }

/-- The airflow estimate of one axis at a class C boundary (R219 to R222). -/
def axAirSample (a : Nat) (s : Block) : Block :=
  if !axOn s a then s
  else
    let c := s.xch a
    let s0 := s.setXch a { c with sumT := 0, sumN := 0, cnt := 0 }
    let rho := axRho s a
    let rhoW := (clampI 0 65535 (rdivI rho.1.1 rho.1.2)).toNat
    match s.tab (axCurve a) with
    | none => s0.fput (axAir a) 97 96 2
    | some tb =>
      let ts := s.clk.tb
      if axSt s a = 5 ∧ c.cnt ≠ 0 then
        let nref : Int := s.fget (axAirCfg a) 31 0
        let rref : Int := s.fget (axAirCfg a) 47 32
        let k : Int := c.cnt
        let ps := axPower s a c.sumT c.sumN c.cnt
        let pn := fracPos (10 * ps.1 * (nref * k) ^ 3 * rref * rho.1.2, ps.2 * c.sumN ^ 3 * rho.1.1)
        let d := s0.draw
        if pn.2 = 0 ∨ nref = 0 ∨ rref = 0 then
          -- no value is stated at standstill or without references
          let s1 := axAirQual a 1 6 d.2
          s1.put (axAir a) (axAirWord ts (d.1 % 2 ^ 32) 1 (2 + 4 * b2n rho.2) (d.1 % 2 ^ 16) rhoW)
        else
          let iq := interp 3 1 0 tb.elems tb.rows pn
          let ip := interp 3 1 2 tb.elems tb.rows pn
          let q := rdivI (iq.1.1 * c.sumN) (iq.1.2 * nref * k)
          let pr := rdivI (ip.1.1 * c.sumN ^ 2 * rho.1.1) (10 * ip.1.2 * (nref * k) ^ 2 * rho.1.2 * rref)
          let low := decide (10 * c.sumN.natAbs < 3 * nref.natAbs * c.cnt)
          let flags := b2n iq.2 + 2 * b2n low + 4 * b2n rho.2
          let qual := if flags = 0 then 0 else 1
          (axAirQual a qual flags s0).put (axAir a)
            (axAirWord ts (satS 32 q) qual flags (clampI 0 65535 pr).toNat rhoW)
      else if axSt s a = 1 ∧ c.known then
        (axAirQual a 0 8 s0).put (axAir a) (axAirWord ts 0 0 (8 + 4 * b2n rho.2) 0 rhoW)
      else (axAirQual a 2 0 s0).fput (axAir a) 97 96 2

/-- Every axis at a class C sample. -/
def axAirAll (s : Block) : Block := forN 12 axAirSample s

/-- A zone's state reaches its axis (R227, R229). -/
def axZone (a : Nat) (s : Block) : Block :=
  let down := s.zoneDown (10 + a)
  let st := axSt s a
  if !axOn s a then s
  else if down ∧ st ≠ 0 ∧ st ≠ 7 ∧ st ≠ 8 ∧ st ≠ 9 ∧ st ≠ 10 then axGatesOff a 10 s
  else if !down ∧ st = 10 then axResume a s
  else s

/-- Own-value checks of an axis attribute beyond its fields (the *Other AXIS[a] attributes* table). -/
def axOwn (a : Attr) (v : Nat) : Nat :=
  if a.kind ≠ 0 then 0
  else match a.att with
    | 0x023 => need (10 * fld v 127 96 ≤ 8 * fld v 31 0) 0x0201
    | 0x025 => need (fld v 63 32 ≤ fld v 31 0 && fld v 127 96 != 0 && fld v 159 128 != 0 && fld v 191 160 == 0) 0x0201
    | 0x028 => need (fld v 31 16 < fld v 47 32 && fld v 47 32 < fld v 15 0 && 10 ≤ fld v 111 96 && fld v 111 96 ≤ 7200) 0x0201
    | 0x029 => need (fld v 95 64 == 0 || fld v 111 108 != 0) 0x0201
    | _ => 0

/-- Strictly ascending. -/
def ascending : List Int → Bool
  | a :: b :: r => a < b && ascending (b :: r)
  | _ => true

/-- Column k of a table of w columns. -/
def column (w k : Nat) (l : List Int) : List Int := (List.range (l.length / w)).map (fun r => getL l (w * r + k) 0)

/-- A FAN_CURVE's order (R220). -/
def fanCurveOk (l : List Int) : Bool :=
  ascending (column 3 0 l) && ascending (column 3 1 l) && (column 3 0 l).all (fun x => 0 < x) && (column 3 1 l).all (fun x => 0 < x)

/-- Carrier and class A timing of an axis (R205): P_A a whole multiple, 1 to 20, of T_PWM. -/
def axCarrierOk (s : Block) (a : Nat) : Bool :=
  let t := 100 * s.fget (axPwm a) 15 0
  let p := clsPeriod s 0
  !s.bit (axCfg a) 0 || (t != 0 && p % t == 0 && p / t ≤ 20)

/-- Bandwidths (R210). -/
def axBwOk (s : Block) (a : Nat) : Bool :=
  let bi := s.fget (axCtrl a) 15 0
  let bn := s.fget (axCtrl a) 31 16
  50 ≤ bi && bi * 10 * clsPeriod s 0 ≤ nsPerS && 1 ≤ bn && bn ≤ bi

/-- START_WIN against the steps of a start (R213). -/
def axWinOk (s : Block) (a : Nat) : Bool :=
  let st := s.get (axStart a)
  let spd := fld st 63 32
  let acc := if axPm s a then fld st 95 64 else s.fget (axSpeed a) 127 96
  let win := fld st 111 96 * 100000000
  let pre := if axPm s a then 203000000 else 500000000 + fld st 127 112 * 1000000
  if spd = 0 then pre ≤ win else acc != 0 && pre * acc + spd * nsPerS ≤ win * acc

/-- FB_ENC (R231): its mode, and no other axis uses it. -/
def axFbOk (s : Block) (a : Nat) : Bool :=
  let fb := s.fget (axCfg a) 4 3
  let e := s.fget (axCfg a) 7 5
  fb == 0 || !s.bit (axCfg a) 0 ||
  ((if fb = 2 then encMode s e == 5 else encMode s e ≤ 2) &&
   (List.range 12).all (fun b => b == a || !s.bit (axCfg b) 0 || s.fget (axCfg b) 4 3 == 0 || s.fget (axCfg b) 7 5 != e))

/-- Whether a source is a temperature: an FE channel in 0.01 °C; the unit of another node's, which a HEAD alone reads, is not known
here. -/
def tempSrcOk (s : Block) (oid node : Nat) : Bool :=
  let a := attrOf oid
  a.blk == 5 && a.kind == 0 && a.idx < 48 && isSource oid && (if s.ownNode node then s.fget (feLin a.idx) 23 20 == 2 else s.role == 2)

/-- Checks of an axis attribute that involve others (R205, R210, R213, R231). -/
def axCross (a : Attr) (s : Block) : List Nat :=
  let n := a.idx
  if a.kind ≠ 0 then []
  else match a.att with
    | 0x020 => [need (10 * s.get (axCurLimit n) ≤ 7 * s.fget (axScale n) 127 96) 0x0201]
    | 0x021 => [need (axCarrierOk s n && (!s.bit (axCfg n) 0 || axWinOk s n)) 0x0201, need (axFbOk s n) 0x0206]
    | 0x022 => [need (axCarrierOk s n) 0x0201]
    | 0x026 => [need (axBwOk s n) 0x0201]
    | 0x027 => [need (axWinOk s n) 0x0201]
    | 0x029 => [need (s.fget (axAirCfg n) 95 64 == 0 || tempSrcOk s (s.fget (axAirCfg n) 95 64) (s.fget (axAirCfg n) 107 96)) 0x0206]
    | _ => []

/-- MCLK_ON of the three groups of four axes (R204, R226): the clocks of those with an enabled axis run, or none does. -/
def axMclk (on : Bool) (s : Block) : Block :=
  forN 3 (fun g x => x.putBit axsStat (2 + g) (on && (List.range 4).any (fun k => x.bit (axCfg (4 * g + k)) 0))) s

/-- Effects of a write of an axis attribute (R217, R226, R231): a write of CFG stops the axis and clears STALLED and ATTEMPTS; a running
axis that stops by a ramp takes the new value when it has stopped. -/
def axWritten (old : Block) (a : Attr) (s : Block) : Block :=
  let n := a.idx
  if a.kind ≠ 0 then s
  else match a.att with
    | 0x021 =>
      if (axSt old n = 5 ∨ axSt old n = 6) ∧ old.bit (axCfg n) 9 then
        let s1 := (s.put (axCfg n) (old.get (axCfg n))).setXch n { s.xch n with cfgNext := some (s.get (axCfg n)) }
        axEnter n 6 s1
      else
        let s1 := if axSwitching (axSt s n) then axGatesOff n 1 s else s
        axBringUp n (s1.bit (axStat n) 1) (s1.bit (axStat n) 15) (s1.setXch n { s1.xch n with cfgNext := none })
    | 0x02A => axCurveSync n s
    | 0x031 => s.setXch n { s.xch n with manSet := true }
    | _ => s

/-- Every gate goes low with DRVEN, a module-wide gate stop (R18, R86, R172): running axes stop. -/
def axGateStop (s : Block) : Block :=
  forN 12 (fun a x => if axSwitching (axSt x a) then axCfgApply a (axGatesOff a 1 x) else x) (s.putBit axsStat 1 false)

end Sys2Proof.Machine
end

