-- ==== Sys2Proof/Machine/Real.lean ====
section
/-! DEFINITION. Machine/Real.lean: the fixed-point numbers of the drying model and its exp, ln and real power (R179). The
spec bounds the relative error of the routines by 2^−40 and gives no bits: each result here is the exact value to well
below 2^−41, times 1 plus a free error of at most 2^−41 that depends on the argument alone (log entry 38). -/

namespace Sys2Proof.Machine

/-- A real number in units of 2^−200. -/
abbrev Fx := Int

/-- The unit. -/
def fxU : Int := 2 ^ 200
/-- A fraction as a real (denominator not 0). -/
def fxQ (n d : Int) : Fx := rdivI (n * fxU) d
/-- Product. -/
def fxMul (a b : Fx) : Fx := rdiv (a * b) (2 ^ 200)
/-- Quotient (divisor not 0). -/
def fxDiv (a b : Fx) : Fx := rdivI (a * fxU) b
/-- The integer nearest a real times `k`. -/
def fxRound (a : Fx) (k : Int) : Int := rdiv (a * k) (2 ^ 200)

/-- A result with the free error of R179. -/
def libResult (f : Nat) (x p y : Int) : Int := y + rdiv (y * ((Config.libErr f x p % 2 ^ 20 : Nat) - 2 ^ 19)) (2 ^ 60)

/-- The sum of r^k / k! from the term `t` of number `k` on, `n` terms. -/
def expSum : Nat → Nat → Fx → Fx → Fx
  | 0, _, _, _ => 0
  | n + 1, k, t, r => t + expSum n (k + 1) (rdiv (t * r) (2 ^ 200 * (k + 1))) r

/-- ln 2. -/
def fxLn2 : Fx := 1113844574712631719546256151097547306333272293549090750737802

/-- The exact exp. -/
def expRaw (x : Fx) : Fx :=
  let n := x / fxLn2
  let y := expSum 48 0 fxU (x - n * fxLn2)
  if 0 ≤ n then y * 2 ^ n.toNat else rdiv y (2 ^ (-n).toNat)

/-- exp. -/
def fxExp (x : Fx) : Fx := libResult 0 x 0 (expRaw x)

/-- The sum of z^(2k+1) / (2k+1), from the power `t` of number `k` on, `n` terms. -/
def lnSum : Nat → Nat → Fx → Fx → Fx
  | 0, _, _, _ => 0
  | n + 1, k, t, z2 => rdiv t (2 * k + 1) + lnSum n (k + 1) (fxMul t z2) z2

/-- The exact ln of a number above 0. -/
def lnRaw (x : Fx) : Fx :=
  let e : Int := (Nat.log2 x.toNat : Nat) - 200
  let m := if 0 ≤ e then x / 2 ^ e.toNat else x * 2 ^ (-e).toNat
  let z := fxDiv (m - fxU) (m + fxU)
  e * fxLn2 + 2 * lnSum 68 0 z (fxMul z z)

/-- ln of a number above 0. -/
def fxLn (x : Fx) : Fx := libResult 1 x 0 (lnRaw x)

/-- The real power of a number at or above 0, for an exponent above 0. -/
def fxPow (x p : Fx) : Fx := 
  if x ≤ 0 then 0 else libResult 2 x p (expRaw (fxMul p (lnRaw x)))

end Sys2Proof.Machine
end

