-- ==== Sys2Proof/Machine/Val.lean ====
section
/-! DEFINITION. Machine/Val.lean: attribute values as bytes: the value and table encodings of R8, R49 and R51, and the
length an overlay entry takes (R79). -/

namespace Sys2Proof.Machine

/-- The table type an attribute is declared with, 0 where it is no table. -/
def ttypeOf (a : Attr) : Nat := match specOf a.blk a.kind a.att with | some sp => sp.ttype | none => 0

/-- The access code of an attribute, if the object space has it (R10, R362). -/
def accessOf (a : Attr) : Option Access :=
  if a.idx < instCount a.blk a.kind then (specOf a.blk a.kind a.att).map (fun sp => sp.acc) else none

/-- Bytes of an element format, 0 for a format the *Element formats* table does not list. -/
def elemSize (f : Nat) : Nat := match f with | 1 => 2 | 2 => 4 | 3 => 2 | 4 => 4 | _ => 0

/-- The width of an attribute's value in bytes. -/
def valLen (a : Attr) : Nat := (widthOf a + 7) / 8

/-- The table an attribute holds, as a value. -/
def Block.cur (s : Block) (a : Attr) : Option AVal :=
  if ttypeOf a ≠ 0 then (s.tab a).map AVal.tab else some (.num (s.get a))

/-- The machine with an attribute holding a value. -/
def Block.setVal (s : Block) (a : Attr) (v : AVal) : Block := match v with | .num n => s.put a n | .tab t => s.putTab a t

/-- The attributes as they have been accepted, what waits for its instant among them (R175, R334): what a READ shows and a
check sees (log entry 10). -/
def Block.seen (s : Block) : Block :=
  s.late.foldl (fun x w => if accessOf w.a = some .wo then x else x.setVal w.a w.v) s

/-- The bytes of a value of an attribute. -/
def avalBytes (a : Attr) (v : AVal) : List Byte :=
  match v with
  | .num n => leBytes (valLen a) n
  | .tab t => leBytes 2 t.ttype ++ leBytes 1 t.efmt ++ leBytes 1 0 ++ leBytes 2 t.rows ++ leBytes 2 t.cols ++
      (t.elems.map (fun x => leBytes (elemSize t.efmt) (ofS (8 * elemSize t.efmt) x))).flatten

/-- The elements of a table value. -/
def elemsOf (sz : Nat) : Nat → List Byte → List Int
  | 0, _ => []
  | n + 1, b => toS (8 * sz) (leNat (b.take sz)) :: elemsOf sz n (b.drop sz)

/-- What the *Table types* table asks of a table type: the least and the most rows, the columns, and the element format. -/
def tableDims (ttype : Nat) : Nat × Nat × Nat × Nat :=
  match ttype with
  | 1 => (1, 16, 6, 4)
  | 2 => (120, 120, 812, 3)
  | 3 => (2, 64, 2, 2)
  | 4 => (6, 6, 4, 2)
  | 5 => (1, 1, 64, 2)
  | 6 => (2, 32, 3, 2)
  | 7 => (2, 32, 2, 2)
  | _ => (1, 0, 0, 0)

/-- The value of a table attribute in bytes, or the error of R51: TTYPE, EFMT, dimensions, length, in this order; a value
shorter than its header is of a wrong length (log entry 47). -/
def parseTable (ttype : Nat) (b : List Byte) : Except Nat Table :=
  let d := tableDims ttype
  let ef := leAt b 2 1
  let r := leAt b 4 2
  let c := leAt b 6 2
  if b.length < 8 then .error 0x0202
  else if leAt b 0 2 ≠ ttype ∨ ef ≠ d.2.2.2 then .error 0x0202
  else if r < d.1 ∨ d.2.1 < r ∨ c ≠ d.2.2.1 ∨ b.length ≠ 8 + r * c * elemSize ef then .error 0x0204
  else if leAt b 3 1 ≠ 0 then .error 0x0201
  else .ok ⟨ttype, ef, r, c, elemsOf (elemSize ef) (r * c) (b.drop 8)⟩

/-- The value of an attribute in bytes, or the error of its length or table form (R51, R362). -/
def parseVal (a : Attr) (b : List Byte) : Except Nat AVal :=
  if ttypeOf a ≠ 0 then (match parseTable (ttypeOf a) b with | .ok t => .ok (.tab t) | .error e => .error e)
  else if b.length ≠ valLen a then .error 0x0202
  else .ok (.num (leNat b))

/-- An entry of the overlay as MRAM holds it (R79): OBJ_ID, the length of the value, the value, and the padding. -/
def entryBytes (a : Attr) (v : AVal) : List Byte :=
  leBytes 4 (oidOf a) ++ leBytes 4 (avalBytes a v).length ++ avalBytes a v ++ zeros (padTo4 (avalBytes a v).length)

/-- The entries of an overlay in MRAM (R8, R79). -/
def overlayBytes (o : Overlay) : List Byte := (o.entries.map (fun e => entryBytes e.1 e.2)).flatten

end Sys2Proof.Machine
end

