-- ==== Sys2Proof/Machine/Serac.lean ====
section
/-! DEFINITION. Machine/Serac.lean: the loop engine's arithmetic, its coefficient banks, and the placement and fit of its
work on the cores (chapter 07, R147 to R149, R156, R159, R163 to R173). -/

namespace Sys2Proof.Machine

/-- 2^30, the unit of a coefficient. -/
abbrev qU : Int := 1073741824

/-- Saturation to the signal format Q8.24. -/
def satSig (x : Int) : Int := clampI (-2147483648) 2147483647 x
/-- Saturation to the state format Q12.36. -/
def satState (x : Int) : Int := clampI (-(2 ^ 47 : Nat)) ((2 ^ 47 : Nat) - 1) x
/-- Saturation to the accumulator Q12.52. -/
def satAcc (x : Int) : Int := clampI (-(2 ^ 63 : Nat)) ((2 ^ 63 : Nat) - 1) x

/-- A coefficient times a signal as it enters the accumulator (R149): shifted right by 2 bits toward minus infinity. -/
def qProd (c x : Int) : Int := (c * x) / 4

/-- The accumulator rounded to a signal (R149). -/
def rndSig (a : Int) : Int := satSig (rdiv a (2 ^ 28))
/-- The accumulator rounded to a state (R149). -/
def rndState (a : Int) : Int := satState (rdiv a (2 ^ 16))

/-- One second-order section of a bank (the *COEF_BANK row* table). -/
structure Sec where
  b0    : Int
  b1    : Int
  b2    : Int
  a1    : Int
  a2    : Int
  flags : Nat
deriving DecidableEq, Repr

/-- SHIFT of a section. -/
def Sec.shift (c : Sec) : Nat := fld c.flags 10 8
/-- INTEG of a section. -/
def Sec.integ (c : Sec) : Bool := bitAt c.flags 0

/-- The sections of a table's elements. -/
def secsOf : List Int → List Sec
  | b0 :: b1 :: b2 :: a1 :: a2 :: f :: r => ⟨b0, b1, b2, a1, a2, ofS 32 f⟩ :: secsOf r
  | _ => []

/-- One sample of a section (R149): its output and its new states. -/
def secEval (c : Sec) (st : Int × Int) (x : Int) : Int × (Int × Int) :=
  let xs := satSig (x * 2 ^ c.shift)
  let y := rndSig (satAcc (qProd c.b0 xs + st.1 * 2 ^ 16))
  let s1 := rndState (satAcc (satAcc (qProd c.b1 xs - qProd c.a1 y) + st.2 * 2 ^ 16))
  let s2 := rndState (satAcc (qProd c.b2 xs - qProd c.a2 y))
  (y, (s1, s2))

/-- One sample of a cascade: the output of the last section, and the new states. -/
def cascEval : List Sec → List (Int × Int) → Int → Int × List (Int × Int)
  | [], _, x => (x, [])
  | c :: cs, sts, x =>
    let r := secEval c (sts.headD (0, 0)) x
    let q := cascEval cs (sts.drop 1) r.1
    (q.1, r.2 :: q.2)

/-- Format, stability and integral sign of one row (R156): 0, or its error. -/
def secCheck (c : Sec) : Nat :=
  if [c.b0, c.b1, c.b2, c.a1, c.a2].any (fun x => x == -2147483648) ∨ fld c.flags 7 1 ≠ 0 ∨ fld c.flags 31 11 ≠ 0 then 0x0202
  else
    let a1 := c.a1
    let a2 := c.a2
    let inside := decide (-qU < a2 ∧ a2 < qU ∧ -(qU + a2) < a1 ∧ a1 < qU + a2)
    let pole1 := c.integ && decide (a1 + a2 = -qU ∧ -qU < a2 ∧ a2 < qU)
    if !inside && !pole1 then 0x0203
    else if a1 + a2 = -qU ∧ c.b0 + c.b1 + c.b2 ≤ 0 then 0x0201
    else 0

/-- The first failing row of a bank and its error; error 0 when every row passes (R156). -/
def bankCheck (cs : List Sec) : Nat × Nat :=
  match (numbered cs).find? (fun e => secCheck e.2 != 0) with
  | some e => (e.1, secCheck e.2)
  | none => (0, 0)

/-- The back-calculation section of a cascade (R159): the last INTEG, or section 0. -/
def backSec (cs : List Sec) : Nat :=
  match ((numbered cs).filter (fun e => e.2.integ)).getLast? with
  | some e => e.1
  | none => 0

/-- G_k as a fraction: the product of b0 × 2^SHIFT over the sections after k, over 2^30 each (R159). -/
def gainAfter (cs : List Sec) : Int × Nat :=
  (cs.drop (backSec cs + 1)).foldl (fun g c => (g.1 * c.b0 * 2 ^ c.shift, g.2 * 2 ^ 30)) (1, 1)

/-- Whether a bank can reach no target: |G_k| below 2^−20 (R159). -/
def bankNoBc (cs : List Sec) : Bool :=
  let g := gainAfter cs
  decide (g.1.natAbs * 2 ^ 20 < g.2)

/-- Back-calculation of a cascade toward `w` from its output `u` (R159): the output reached and the new states. -/
def backCalc (cs : List Sec) (sts : List (Int × Int)) (x u w : Int) : Int × List (Int × Int) :=
  let g := gainAfter cs
  let k := backSec cs
  if g.1 = 0 then cascEval cs sts x
  else
    let d := satState (rdivI ((w - u) * 2 ^ 12 * g.2) g.1)
    let s := getL sts k (0, 0)
    cascEval cs (setAt (sts ++ List.replicate (k + 1 - sts.length) (0, 0)) k (satState (s.1 + d), s.2)) x

/-- Whether a back-calculated output has reached its target: |w − u'| at most 2^−20 (R159). -/
def reached (w u : Int) : Bool := decide ((w - u).natAbs ≤ 16)

/-- A section at rest for an input (R162): zero states at a pole at z = 1, else the states of its steady output. -/
def restState (c : Sec) (x : Int) : Int × Int :=
  let d := qU + c.a1 + c.a2
  if d = 0 then (0, 0)
  else
    let xs := satSig (x * 2 ^ c.shift)
    let n := c.b0 + c.b1 + c.b2
    (satState (rdivI ((n * qU - c.b0 * d) * xs) (d * 2 ^ 18)), satState (rdivI ((c.b2 * d - c.a2 * n) * xs) (d * 2 ^ 18)))

/-- A cascade at rest for an input, evaluated on it (R162). -/
def restCascade : List Sec → Int → Int × List (Int × Int)
  | [], x => (x, [])
  | c :: cs, x =>
    let r := secEval c (restState c x) x
    let q := restCascade cs r.1
    (q.1, r.2 :: q.2)

/-- The attribute of a loop's bank. -/
def lpBank (n : Nat) (b : Bool) : Attr := if b then lpBankB n else lpBankA n

/-- The sections of a loop's bank, none when the bank is absent. -/
def bankOf (s : Block) (n : Nat) (b : Bool) : Option (List Sec) := (s.elems (lpBank n b)).map secsOf

/-- The sections of a loop's active bank when it is valid (R156). -/
def activeSecs (s : Block) (n : Nat) : Option (List Sec) :=
  match bankOf s n (s.bit (lpStat n) 16) with
  | some cs => if (bankCheck cs).2 = 0 ∧ !cs.isEmpty then some cs else none
  | none => none

/-- Whether a core works: READY and not removed (R172). -/
def coreOn (s : Block) (c : Nat) : Bool := s.bit (coreStat c) 0 && !s.bit (coreStat c) 2
/-- The working cores, in rising order. -/
def coresOn (s : Block) : List Nat := (List.range 4).filter (coreOn s)

/-- The clock divisor of every core: 1, 2 or 4 by the step of the core ASIC zone (R147, R173). -/
def coreDiv (s : Block) : Nat := match s.zoneStep 0 with | 0 => 1 | 1 => 2 | _ => 4

/-- CLASS and PRIO of a loop. -/
def lpClass (s : Block) (n : Nat) : Nat := s.fget (lpCfg n) 2 1
def lpPrio (s : Block) (n : Nat) : Nat := s.fget (lpCfg n) 23 16

/-- Whether a loop counts as work: enabled and not shed. -/
def lpWorks (s : Block) (n : Nat) : Bool := s.bit (lpCfg n) 0 && !s.bit (lpStat n) 5

/-- The cost of a loop in CLK_LE cycles (R167). -/
def lpCost (s : Block) (n : Nat) : Nat :=
  let cs := (bankOf s n (s.bit (lpStat n) 16)).getD []
  let down := cs.length - (backSec cs + 1)
  let nin := s.fget (lpCfg n) 7 6 + 1
  let model := if s.bit (lpCfg n) 25 then 8 + 4 * ((s.elems (lpWitness n)).map (fun l => l.length / 6)).getD 0 else 0
  12 + 4 * nin + 4 * cs.length + 4 * down + model

/-- The loops of a class that work, in the order of R166: PRIO, then number. -/
def lpOrder (s : Block) (k : Nat) : List Nat :=
  (List.range 256).foldl (fun l n =>
    if lpWorks s n && lpClass s n == k then
      insertBy (fun a b => lpPrio s a < lpPrio s b || (lpPrio s a == lpPrio s b && a < b)) n l
    else l) []

/-- Cycles of a tomography frame (R137). -/
def tomoCost (s : Block) (r : Nat) : Nat :=
  let i := s.fget (tmCfg r) 37 32
  (2 * i + 1) * 97440 + 812 * i + 40000

/-- Whether a ring's kernel is shed (R170), by whichever class. -/
def ringShed (s : Block) (r : Nat) : Bool := s.serac.cls.any (fun c => c.shed.contains (.ring r))

/-- Whether a ring's kernel is class D work: enabled, KERNEL_CLASS D, not shed. -/
def tomoD (s : Block) (r : Nat) : Bool := s.bit (tmCfg r) 0 && !s.bit (tmCfg r) 1 && !ringShed s r

/-- Cycles of each core in one class, indexed by core. -/
abbrev Load := List Nat

/-- The core of a list with the lowest load, ties to the lowest number. -/
def leastCore (cores : List Nat) (l : Load) : Nat :=
  cores.foldl (fun b c => if getL l c 0 < getL l b 0 then c else b) (cores.headD 0)

/-- Adds cycles to a core, with the dispatch cost of its first work in the class (R167). -/
def addLoad (l : Load) (c w : Nat) : Load :=
  setAt l c (getL l c 0 + w + (if getL l c 0 = 0 then 80 else 0))

/-- The enabled axes, lines and class D rings, whose kernels are work. -/
def workAxes (s : Block) : Nat := ((List.range 12).filter (fun a => s.bit (axCfg a) 0)).length
def workLines (s : Block) : List Nat := (List.range 8).filter (fun l => s.bit (lnCfg l) 0)
def workRings (s : Block) : List Nat := (List.range 12).filter (tomoD s)

/-- Cycles of a line's kernel (R167). -/
def lineCost (s : Block) (l : Nat) : Nat := 240 * s.fget (lnCfg l) 17 8

/-- The core a placement gives an item, while that core works. -/
def coreIn (s : Block) (l : List (Nat × Nat)) (n : Nat) : Option Nat :=
  match l.find? (fun e => e.1 == n) with
  | some e => if coreOn s e.2 then some e.2 else none
  | none => none

/-- Adds the items that a placement gives a core. -/
def loadPlaced (s : Block) (pl : List (Nat × Nat)) (cost : Nat → Nat) (l : Load) (items : List Nat) : Load :=
  items.foldl (fun z n => match coreIn s pl n with | some c => addLoad z c (cost n) | none => z) l

/-- The load of a class's fixed kernels under a placement (R166): FOC and airflow on the lowest working core. -/
def kernelLoad (s : Block) (p : Place) (k : Nat) : Load :=
  let lo := (coresOn s).headD 0
  let axes := workAxes s
  let z : Load := [0, 0, 0, 0]
  match k with
  | 0 => if axes = 0 then z else addLoad z lo (160 * axes)
  | 2 => if axes = 0 then z else addLoad z lo (80 * axes)
  | 3 => loadPlaced s p.rings (tomoCost s) (loadPlaced s p.lines (lineCost s) z (workLines s)) (workRings s)
  | _ => z

/-- The load of a class under a placement. -/
def classLoad (s : Block) (p : Place) (k : Nat) : Load := loadPlaced s p.loops (lpCost s) (kernelLoad s p k) (lpOrder s k)

/-- Places the lines that stand on no working core (R166): in turn, from the highest-numbered core. -/
def placeLines (s : Block) (p : Place) : Place :=
  let turn := (coresOn s).reverse
  (workLines s).foldl (fun q l => if (coreIn s q.lines l).isSome then q
    else { q with lines := (l, getL turn (((workLines s).filter (fun j => (coreIn s q.lines j).isSome)).length % max 1 turn.length) 0) ::
      q.lines.filter (fun e => e.1 != l) }) p

/-- Places the class D rings that stand on no working core (R166): each on the core with the lowest class D load. -/
def placeRings (s : Block) (p : Place) : Place :=
  (workRings s).foldl (fun q r => if (coreIn s q.rings r).isSome then q
    else { q with rings := (r, leastCore (coresOn s) (classLoad s q 3)) :: q.rings.filter (fun e => e.1 != r) }) p

/-- Places the loops of class k that stand on no working core, in priority order (R166): each on the core with the lowest time of
its class so far. -/
def placeLoops (s : Block) (k : Nat) (p : Place) : Place :=
  let cores := coresOn s
  ((lpOrder s k).foldl (fun (a : Load × Place) n =>
    if (coreIn s p.loops n).isSome then a
    else
      let c := leastCore cores a.1
      (addLoad a.1 c (lpCost s n), { a.2 with loops := (n, c) :: a.2.loops.filter (fun e => e.1 != n) })) (classLoad s p k, p)).2

/-- The placement of the work (R166): what boot and the last core removal fixed stays, and work that has come since is placed by the
same rules beside it (log entry 47). -/
def placed (s : Block) : Place := forN 4 (fun k p => placeLoops s k p) (placeRings s (placeLines s s.serac.place))

/-- The loads of the four classes. -/
def allLoads (s : Block) : List Load :=
  let p := placed s
  (List.range 4).map (classLoad s p)

/-- DL of a class in %. -/
def clsDl (s : Block) (k : Nat) : Nat := s.fget (clsCfg k) 39 32

/-- D_k in ns (R163). -/
def clsDeadline (s : Block) (k : Nat) : Nat := clsDl s k * clsPeriod s k / 100

/-- Whether a loop has a source or destination on another node (R165, R309): an input, a master, a track value or a route. -/
def lpRemote (s : Block) (n : Nat) : Bool :=
  (s.fget (lpSpSrc n) 31 0 != 0 && !s.ownNode (s.fget (lpSpSrc n) 43 32)) ||
  (s.fget (lpTrackSrc n) 31 0 != 0 && !s.ownNode (s.fget (lpTrackSrc n) 43 32)) ||
  (List.range (s.fget (lpCfg n) 7 6 + 1)).any (fun i => !s.ownNode (fld (entry (s.get (lpInputs n)) 64 i) 43 32)) ||
  (List.range 4).any (fun i => bitAt (entry (s.get (lpRoute n)) 64 i) 63 && !s.ownNode (fld (entry (s.get (lpRoute n)) 64 i) 43 32))

/-- Whether a class of a HEAD holds such a loop. -/
def clsRemote (s : Block) (k : Nat) : Bool :=
  s.role == 2 && (List.range 256).any (fun n => s.bit (lpCfg n) 0 && lpClass s n == k && lpRemote s n)

/-- The load of class k on a core with all of classes at or above it, in cycles within D_k (R167). -/
def fitSum (s : Block) (loads : List Load) (k c : Nat) : Nat :=
  sumN ((List.range (k + 1)).map (fun j =>
    let p := 100 * max 1 (clsPeriod s j)
    (clsDl s k * clsPeriod s k + p - 1) / p * getL (getL loads j []) c 0))

/-- D_k in ns as the fit test counts it (R167, R309). -/
def fitWindow (s : Block) (k : Nat) : Nat :=
  clsDeadline s k - (if clsRemote s k then s.tGather else 0)

/-- The fit test of class k on every core, with a share `pct` of D_k (R167; 90 with the margin of R170). -/
def classFits (s : Block) (k pct : Nat) : Bool :=
  let loads := allLoads s
  (coresOn s).all (fun c => fitSum s loads k c * 2 * coreDiv s * 100 ≤ fitWindow s k * pct)

/-- Whether every class fits. -/
def allFit (s : Block) : Bool := (List.range 4).all (fun k => classFits s k 100)

/-- The cycles of a class's FOC, airflow and drying-model kernels on one core (R168). -/
def kernelCycles (s : Block) (k : Nat) : Nat :=
  let w := match k with
    | 0 => 160 * workAxes s
    | 2 => 80 * workAxes s
    | 3 => sumN ((workLines s).map (lineCost s))
    | _ => 0
  if w = 0 then 0 else w + 80

/-- Whether those kernels pass the fit test of class k on one core at a quarter of the clock with no loop placed (R168). -/
def kernelsFit (s : Block) (k : Nat) : Bool :=
  sumN ((List.range (k + 1)).map (fun j =>
    let p := 100 * max 1 (clsPeriod s j)
    (clsDl s k * clsPeriod s k + p - 1) / p * kernelCycles s j)) * 8 ≤ clsDeadline s k

/-- FIT of a class: the worst core's predicted time in 0.1 % of D_k. -/
def classFit (s : Block) (k : Nat) : Nat :=
  let loads := allLoads s
  let w := (coresOn s).foldl (fun m c => max m (fitSum s loads k c)) 0
  min 65535 (w * 2 * coreDiv s * 1000 / max 1 (clsDeadline s k))

/-- LOAD of a core in 0.1 %: its work over a second at the present clock. -/
def coreLoad (s : Block) (c : Nat) : Nat :=
  let loads := allLoads s
  min 1000 (sumN ((List.range 4).map (fun j => getL (getL loads j []) c 0 * 2 * coreDiv s * 1000 / max 1 (clsPeriod s j))))

/-- The core a background ring's frame starts on (R166): the working one with the least class A to D work; a class D ring's core. -/
def ringCore (s : Block) (r : Nat) : Nat :=
  match s.bit (tmCfg r) 1, coreIn s s.serac.place.rings r with
  | false, some c => c
  | _, _ => leastCore (coresOn s) ((List.range 4).map (coreLoad s))

/-- Places what has come and brings CORE, FIT, THR and LOAD up to date (R166, R167, R173). -/
def seracSync (s0 : Block) : Block :=
  let s := { s0 with serac := { s0.serac with place := placed s0 } }
  let s1 := s.serac.place.loops.foldl (fun x e => x.fput (lpStat e.1) 19 18 e.2) s
  let s2 := forN 4 (fun k x => x.fput (clsStat k) 31 16 (classFit s k)) s1
  forN 4 (fun c x => (x.fput (coreStat c) 5 4 (match coreDiv s with | 1 => 0 | 2 => 1 | _ => 2)).fput (coreStat c) 31 16
    (if coreOn s c then coreLoad s c else 0)) s2

/-- Places all the work anew, as boot and a core removal do (R166, R172). -/
def seracPlace (s : Block) : Block := seracSync { s with serac := { s.serac with place := ⟨[], [], []⟩ } }

/-- The last boundary of class k (R163). -/
def clsBound (s : Block) (k : Nat) : Nat := s.clk.tb / max 1 (clsPeriod s k) * clsPeriod s k

/-- Class k. -/
def Block.cls (s : Block) (k : Nat) : ClassDyn := getL s.serac.cls k ⟨0, none, [], [], 0, 0, 0⟩
/-- The machine with class k replaced. -/
def Block.setCls (s : Block) (k : Nat) (c : ClassDyn) : Block := { s with serac := { s.serac with cls := setAt s.serac.cls k c } }

/-- The next item class k sheds (R170): class D tomography kernels by descending ring, then its loops, lowest priority first. -/
def nextShed (s : Block) (k : Nat) : Option ShedItem :=
  match (workRings s).getLast? with
  | some r => some (.ring r)
  | none => ((lpOrder s k).getLast?).map .loop

/-- Sheds one item: a shed loop no longer supervises (R170). -/
def shedOne (k : Nat) (it : ShedItem) (s : Block) : Block :=
  let s1 := s.setCls k { s.cls k with shed := it :: (s.cls k).shed }
  match it with
  | .ring _ => s1
  | .loop n =>
    let c := getL s1.serac.loops n loopCh0
    ({ s1 with serac := { s1.serac with loops := setAt s1.serac.loops n { c with armed := false, plCnt := 0 } } }.putBit (lpStat n) 5
      true).putBit (lpStat n) 14 false

/-- Sheds until the class fits with its margin, at most `fuel` items, the first in any case (R170). -/
def shedLoop : Nat → Nat → Block → Block
  | 0, _, s => s
  | f + 1, k, s =>
    match nextShed s k with
    | none => s
    | some it =>
      let s1 := shedOne k it s
      if classFits s1 k 90 then s1 else shedLoop f k s1

/-- Sheds work of class k for a cause (1 overrun, 2 throttle, 3 core loss), stamped `ts` (R170, R171). -/
def shedClass (k cause ts : Nat) (s : Block) : Block :=
  let before := (s.cls k).shed.length
  let s1 := shedLoop 268 k s
  let n := (s1.cls k).shed.length - before
  let s2 := (s1.fput (clsStat k) 15 8 (satU 8 (s1.cls k).shed.length)).countUp (clsCount k) 63 32
  seracSync (s2.raiseAt ts 0x71 sevFault 0 (clsObj k) (pack [(k, 0), (cause, 4), (satU 8 n, 8)]))

/-- Sheds in every class that no longer fits (R172, R173). A standby sheds nothing (R174). -/
def shedUnfit (cause : Nat) (s : Block) : Block :=
  if s.standby then seracSync s else forN 4 (fun k x => if classFits x k 100 then x else shedClass k cause (clsBound x k) x) s

/-- Reinstates shed items, last shed first, while they fit with the margin (R171): the machine and how many came back. -/
def restoreLoop : Nat → Nat → Block → Block × Nat
  | 0, _, s => (s, 0)
  | f + 1, k, s =>
    match (s.cls k).shed with
    | [] => (s, 0)
    | it :: r =>
      let s1 := s.setCls k { s.cls k with shed := r }
      let s2 := match it with
        | .ring _ => s1
        | .loop n => s1.putBit (lpStat n) 5 false
      if classFits s2 k 90 then
        let t := restoreLoop f k s2
        (t.1, t.2 + 1)
      else (s, 0)

/-- R163: every period a whole multiple of P_A, in rising order. -/
def clsPeriodsOk (s : Block) : Bool :=
  let p := fun k => clsPeriod s k
  p 0 ≤ p 1 && p 1 ≤ p 2 && p 2 ≤ p 3 && p 0 != 0 && p 1 % p 0 == 0 && p 2 % p 0 == 0 && p 3 % p 0 == 0

/-- R165 and R309 for a class of a HEAD. -/
def clsRingOk (s : Block) (k : Nat) : Bool :=
  !clsRemote s k ||
  (clsPeriod s k % max 1 (s.fget floeCfg 31 0 * 1000) == 0 && clsDeadline s k + s.fget floeCfg 95 64 * 1000 ≤ clsPeriod s k)

end Sys2Proof.Machine
end

