-- ==== Sys2Proof/Machine/Loops.lean ====
section
/-! DEFINITION. Machine/Loops.lean: one sample of a loop, its hand-overs, its destinations and its supervision (chapter 07,
R150 to R162, R175, R176). -/

namespace Sys2Proof.Machine

/-- Loop n. -/
def Block.lch (s : Block) (n : Nat) : LoopCh := getL s.serac.loops n loopCh0
/-- The machine with loop n replaced. -/
def Block.setLch (s : Block) (n : Nat) (c : LoopCh) : Block :=
  { s with serac := { s.serac with loops := setAt s.serac.loops n c } }

/-- Whether an object ID has the shape of a loop destination: AXIS SPEED_SP, VALVE SP, DIO SP. -/
def isDest (oid : Nat) : Bool :=
  let a := attrOf oid
  oid < 2 ^ 32 && a.att == 0x030 && a.kind == 0 && a.idx < instCount a.blk 0 && (a.blk == 9 || a.blk == 0xA || a.blk == 0xB)

/-- Whether a destination of this module is of the kind its chapter declares (R155): any AXIS SPEED_SP, SP of a PROP valve, SP of a DIO
output. -/
def destKind (s : Block) (oid : Nat) : Bool :=
  let a := attrOf oid
  isDest oid && (a.blk != 0xA || vProp s a.idx) && (a.blk != 0xB || dioIsOut s a.idx)

/-- The enabled destinations of a loop: object ID and node. -/
def lpDests (s : Block) (n : Nat) : List (Nat × Nat) :=
  ((List.range 4).map (fun i => entry (s.get (lpRoute n)) 64 i)).filter (fun e => bitAt e 63) |>.map (fun e => (fld e 31 0, fld e 43 32))

/-- What a destination reports: the applied value, FORCED, CAPPED (R154, R158). -/
structure DestInfo where
  val    : Int
  forced : Bool
  capped : Bool

/-- The status of a destination of this module. -/
def destOwn (s : Block) (oid : Nat) : Option DestInfo :=
  let a := attrOf oid
  let n := a.idx
  match a.blk with
  | 9 => some ⟨axApplied s n, s.bit (axStat n) 14, s.bit (axStat n) 8⟩
  | 0xA => some ⟨(s.vch n).out, s.bit (vlvStat n) 9, s.bit (vlvStat n) 10⟩
  | 0xB => some ⟨b2n (s.bit (dioStat n) 2), s.bit (dioStat n) 3, false⟩
  | _ => none

/-- The status of a loop's first destination, of this module or echoed by the ring. -/
def destInfo (s : Block) (n : Nat) : Option DestInfo :=
  match lpDests s n with
  | [] => none
  | d :: _ =>
    if s.ownNode d.2 && !s.paired then destOwn s d.1
    else match s.echo.find? (fun e => e.node == s.nodeOf d.2 && e.oid == d.1) with
      | some e => some ⟨e.val, e.forced, e.capped⟩
      | none => none

/-- A value that reaches the SP of a destination of this module (R155, R268, R327): at a DIO output above 0 is on. -/
def destPut (v : Int) (oid : Nat) (s : Block) : Block :=
  let a := attrOf oid
  match a.blk with
  | 9 => s.put (axSp a.idx) (satS 32 v)
  | 0xA => vEval a.idx false (s.put (vlvSp a.idx) (satU 32 v.toNat))
  | 0xB => s.put (dioSp a.idx) (b2n (decide (0 < v)))
  | _ => s

/-- Sends a value to a destination of this module (R155). -/
def destWrite (v : Int) (s : Block) (d : Nat × Nat) : Block := if !s.ownNode d.2 || s.paired then s else destPut v d.1 s

/-- A quantity in per unit of a span, Q8.24 (the *loop* section of 07). -/
def toPu (lo hi v : Int) : Int := satSig (rdivI ((v - lo) * 16777216) (hi - lo))
/-- A per-unit quantity in its unit, before saturation to S32. -/
def fromPu (lo hi y : Int) : Int := lo + rdiv (y * (hi - lo)) 16777216

/-- PV_LO, PV_HI, OUT_LO, OUT_HI of a loop. -/
def lpSpan (s : Block) (n i : Nat) : Int := toS 32 (s.fget (lpScale n) (32 * i + 31) (32 * i))
/-- A value in per unit of the PV span. -/
def lpPv (s : Block) (n : Nat) (v : Int) : Int := toPu (lpSpan s n 0) (lpSpan s n 1) v
/-- A value in per unit of the output span. -/
def lpOutPu (s : Block) (n : Nat) (v : Int) : Int := toPu (lpSpan s n 2) (lpSpan s n 3) v
/-- A per-unit output in the output unit, saturated to S32. -/
def lpOutEng (s : Block) (n : Nat) (y : Int) : Int := sat32 (fromPu (lpSpan s n 2) (lpSpan s n 3) y)

/-- The valid inputs of a loop at boundary `t`, in list order (R150). -/
def lpValid (s : Block) (n t : Nat) : List Int :=
  (List.range (s.fget (lpCfg n) 7 6 + 1)).filterMap (fun i =>
    let e := entry (s.get (lpInputs n)) 64 i
    srcValid s (fld e 31 0) (fld e 43 32) (fld e 63 48 * 1000000) t)

/-- The process value SEL picks (R150). -/
def lpSelect (sel : Nat) : List Int → Option Int
  | [] => none
  | x :: r => some (match sel with
    | 1 => r.foldl min x
    | 2 => r.foldl max x
    | 3 => rdivI (x + sumI r) (r.length + 1)
    | _ => x)

/-- A rate per second as a step of one period, in Q8.24. -/
def lpStep (rate period : Nat) : Int := rdiv (rate * period : Nat) nsPerS

/-- Moves a value toward a target by at most a step; a rate of 0 is unlimited (R151). -/
def moveBy (rate period : Nat) (x tgt : Int) : Int :=
  if rate = 0 then tgt
  else
    let d := lpStep rate period
    clampI (x - d) (x + d) tgt

/-- The loop that CASC follows: own loop number, or another node's source. -/
def lpMaster (s : Block) (n : Nat) : Option (Nat × Nat) :=
  let v := s.get (lpSpSrc n)
  if fld v 31 0 = 0 then none else some (fld v 31 0, fld v 43 32)

/-- Whether a master of this module is available (R161). -/
def masterOk (s : Block) (m : Nat) : Bool :=
  let c := s.lch m
  c.run && !s.bit (lpStat m) 5 && !s.bit (lpStat m) 6 && !(c.inBad && !s.bit (lpCfg m) 24)

/-- The master's output of loop n while it is available. -/
def masterVal (s : Block) (n : Nat) : Option Int :=
  match lpMaster s n with
  | none => none
  | some d =>
    if s.ownNode d.2 && !masterOk s (attrOf d.1).idx then none
    else (srcRead s d.1 d.2).map (fun v => v.1)

/-- The first slave of a loop that is not in effective CASC or is forced (R161). -/
def initSlave (s : Block) (n : Nat) : Option Nat :=
  (List.range 256).find? (fun m =>
    (match lpMaster s m with | some d => s.ownNode d.2 && attrOf d.1 == lpOut n | none => false) &&
    ((s.lch m).eff != 2 || (s.lch m).forced))

/-- Whether the loop's PLANT supervision stands at all. -/
def plOn (s : Block) (n : Nat) : Bool := s.bit (lpCfg n) 25 && (s.tab (lpWitness n)).isSome

/-- Supervision at one armed sample (R162): the channel after it, the residual and whether N consecutive residuals have
exceeded BOUND. -/
def plSample (s : Block) (n : Nat) (pv : Int) (c : LoopCh) : LoopCh × Int × Bool :=
  let cs := secsOf ((s.elems (lpWitness n)).getD [])
  if !c.armed then
    let r := restCascade cs c.y
    ({ c with plSt := r.2, plOff := pv - r.1, plCnt := 0, armed := true }, 0, false)
  else
    let r := cascEval cs c.plSt c.y
    let res := satSig (pv - r.1 - c.plOff)
    let cnt := if decide ((s.fget (lpPlaus n) 31 0 : Int) < res.natAbs) then c.plCnt + 1 else 0
    ({ c with plSt := r.2, plCnt := cnt }, res, s.fget (lpPlaus n) 47 32 ≤ cnt && cnt != 0)

/-- Writes a sample's result: the status bits, VALUES and OUT of a loop. -/
def tentOut (s : Block) (n t : Nat) (stat : Nat) (c : LoopCh) (pv e res : Int) (evs : List TentEv) (ho : Nat) : LoopTent :=
  let o := lpOutEng s n c.y
  let v := pack [(t % 2 ^ 64, 0), (satS 32 (fromPu (lpSpan s n 0) (lpSpan s n 1) pv), 64),
    (satS 32 (fromPu (lpSpan s n 0) (lpSpan s n 1) c.wsp), 96), (satS 32 e, 128), (satS 32 o, 160), (satS 32 res, 192)]
  { n := n, ch := c, stat := stat, values := some v, out := some o, mode := none, manOut := none, evs := evs, hos := ho,
    faults := 0, trips := 0, took := false }

/-- A sample that publishes nothing new: the last output stands. -/
def tentHold (n stat : Nat) (c : LoopCh) (evs : List TentEv) : LoopTent :=
  { n := n, ch := c, stat := stat, values := none, out := none, mode := none, manOut := none, evs := evs, hos := 0,
    faults := 0, trips := 0, took := false }

/-- The STAT word of a loop from what its sample finds; SHED, CORE and the bank bits stay. -/
def lpStatWord (s : Block) (n : Nat) (c : LoopCh) (nobank nobc hi lo spRamp init trip bank swap : Bool) : Nat :=
  let old := s.get (lpStat n)
  pack [(c.eff, 0), (b2n c.forced, 3), (b2n c.inBad, 4), (b2n (bitAt old 5), 5), (b2n nobank, 6), (b2n nobc, 7), (b2n hi, 8),
    (b2n lo, 9), (b2n c.ramp, 10), (b2n spRamp, 11), (b2n init, 12), (b2n c.msBad, 13), (b2n c.armed, 14), (b2n trip, 15),
    (b2n bank, 16), (b2n swap, 17), (fld old 19 18, 18), (b2n c.trkBad, 20)]

/-- The outcome of the hand-over and ramp of a sample (R160): the value before the limiter, the states, whether a ramp
runs, and the ramp event. -/
structure HandOut where
  v    : Int
  st   : List (Int × Int)
  ramp : Bool
  ev   : List TentEv

/-- Starts a hand-over toward `src` from y_prev (R160). -/
def handStart (bump step : Int) (yPrev src : Int) (st : List (Int × Int)) : HandOut :=
  let d := src - yPrev
  if d.natAbs ≤ bump.natAbs then ⟨src, st, false, []⟩
  else if d.natAbs ≤ step.natAbs then ⟨src, st, false, [⟨0x79, sevInfo, 0, ofS 32 d⟩]⟩
  else ⟨yPrev + (if 0 < d then step else -step), st, true, [⟨0x79, sevInfo, 0, ofS 32 d⟩]⟩

/-- Continues a ramp toward the present source (R160). -/
def handRamp (step yPrev src : Int) (st : List (Int × Int)) : HandOut :=
  let d := src - yPrev
  if d.natAbs ≤ step.natAbs then ⟨src, st, false, []⟩
  else ⟨yPrev + (if 0 < d then step else -step), st, true, []⟩

/-- The limiter (R151): clamp, then slew. -/
def lpLimit (s : Block) (n p : Nat) (yPrev v : Int) : Int :=
  let lm := s.get (lpLimits n)
  let y := clampI (toS 32 (fld lm 31 0)) (toS 32 (fld lm 63 32)) v
  moveBy (fld lm 95 64) p yPrev y

/-- New states with the flagged sections that would push further into a limit frozen (R154). -/
def freezeInteg (cs : List Sec) (old new : List (Int × Int)) : List (Int × Int) :=
  (numbered new).map (fun e => match cs[e.1]? with
    | some c => if c.integ then getL old e.1 (0, 0) else e.2
    | none => e.2)

/-- The main part of a sample once the inputs, the bank and the mode are settled (R151, R153, R154, R158 to R162): `pv` in
per unit, `c` the channel with its effective mode entered, `first` the first sample of that mode, `ho` whether a
hand-over takes place. -/
def lpCompute (s : Block) (n t : Nat) (cs : List Sec) (bank swap : Bool) (c : LoopCh) (pv : Int) (first ho trip : Bool)
    (res : Int) (trk : Option Int) (evs : List TentEv) : LoopTent :=
  let p := clsPeriod s (lpClass s n)
  let di := destInfo s n
  let forcedV := match di with | some d => if d.forced then some (lpOutPu s n d.val) else none | none => none
  let slave := initSlave s n
  let auto := c.eff == 1 || c.eff == 2
  let initV := slave.map (fun m => lpOutPu s n (sat32 (fromPu (lpSpan s m 0) (lpSpan s m 1) (s.lch m).wsp)))
  let rate := s.fget (lpRates n) 31 0
  let mv := if c.eff = 2 then masterVal s n else none
  let tgt := if c.eff = 2 then (match mv with | some v => lpPv s n v | none => c.wsp) else lpPv s n (toS 32 (s.get (lpSp n)))
  let wsp := if !auto || forcedV.isSome || first then pv else moveBy rate p c.wsp tgt
  let e := satSig (if s.bit (lpCfg n) 3 then pv - wsp else wsp - pv)
  let u := cascEval cs c.st e
  let man := lpOutPu s n (toS 32 (s.get (lpManOut n)))
  let src := match c.eff with
    | 0 => man
    | 3 => trk.getD c.y
    | _ => u.1
  let step := lpStep (s.fget (lpRates n) 63 32) p
  let bump := toS 32 (s.fget (lpLimits n) 127 96)
  let nobc := bankNoBc cs
  let msBad := c.eff == 2 && mv.isNone
  let ev2 := if msBad && !c.msBad then
      [⟨0x7F, sevWarn, 0, match lpMaster s n with | some d => (attrOf d.1).idx % 256 | none => 0⟩] else []
  let c0 := { c with wsp := wsp, ent := true, msBad := msBad, handOv := false, man := s.get (lpManOut n) }
  match forcedV, (if auto then initV else none) with
  | some w, _ =>
    -- forced: the applied value is published and tracked
    let b := backCalc cs c.st e u.1 w
    let c1 := { c0 with y := w, st := b.2, ramp := false, forced := true, armed := false, plCnt := 0 }
    tentOut s n t (lpStatWord s n c1 false nobc false false false slave.isSome trip bank swap) c1 pv e res (evs ++ ev2) 0
  | none, some w =>
    -- INIT: the master tracks the slave's working setpoint
    let b := backCalc cs c.st e u.1 w
    let c1 := { c0 with y := w, st := b.2, ramp := false, forced := false }
    tentOut s n t (lpStatWord s n c1 false nobc false false (wsp != tgt) true trip bank swap) c1 pv e res (evs ++ ev2) 0
  | none, none =>
    let bc := backCalc cs c.st e u.1 c.y
    let h : HandOut :=
      if ho then
        (if auto && !nobc && reached c.y bc.1 then ⟨bc.1, bc.2, false, []⟩ else handStart bump step c.y src u.2)
      else if c.ramp then handRamp step c.y src u.2
      else ⟨src, u.2, false, []⟩
    let y := lpLimit s n p c.y h.v
    let capped := match di with | some d => d.capped | none => false
    let ref := if h.ramp then u.1 else h.v
    let hi := decide (y < ref) || (capped && decide (0 ≤ lpOutEng s n y))
    let lo := decide (ref < y) || (capped && decide (lpOutEng s n y < 0))
    let lim := if auto then hi || lo else y != h.v
    let st :=
      if !auto then (backCalc cs c.st e u.1 (initV.getD y)).2
      else if (hi && decide (0 < e)) || (lo && decide (e < 0)) then freezeInteg cs c.st h.st
      else h.st
    let c1 := { c0 with y := y, st := st, ramp := h.ramp, forced := false }
    tentOut s n t (lpStatWord s n c1 false nobc (lim && hi) (lim && lo) (auto && wsp != tgt) initV.isSome trip bank swap) c1 pv e res
      (evs ++ ev2 ++ h.ev) (if ho then 1 else 0)

/-- A loop that enters MAN by itself: MODE 0 and MAN_OUT the last published output, as at a hand-over (R152, R160, R162). -/
def tentMan (s : Block) (n cause : Nat) (t : LoopTent) : LoopTent :=
  { t with mode := some 0, manOut := some (ofS 32 (lpOutEng s n t.ch.y)), hos := b2n (t.ch.eff != 0),
           ch := { t.ch with eff := 0, ramp := false, modeBy := cause, man := ofS 32 (lpOutEng s n t.ch.y) } }

/-- The event of a change of effective mode (R160). -/
def evMode (frm dest cause : Nat) : TentEv := ⟨0x78, sevInfo, 0, pack [(frm, 0), (dest, 8), (cause, 16)]⟩

/-- The channel a loop samples with: a pending swap taken, and a loop that starts takes its first destination's value
(R157). -/
def lpStart (s : Block) (n : Nat) (cs : List Sec) (swap : Bool) : LoopCh :=
  let c := s.lch n
  let st := (List.range cs.length).map (fun i => getL c.st i (0, 0))
  if c.run then { c with st := st, swapAt := if swap then none else c.swapAt, handOv := c.handOv || swap }
  else
    let y := match destInfo s n with | some d => lpOutPu s n d.val | none => c.y
    { c with run := true, y := y, st := cs.map (fun _ => (0, 0)), handOv := true, eff := 7, ent := false, swapAt := none, modeBy := 1,
             ramp := false, armed := false }

/-- One sample of a loop at boundary `t` (R151): whether it takes a pending swap is noted apart. -/
def lpSampleOf (s : Block) (n t : Nat) : LoopTent :=
  let c := s.lch n
  let stat0 := s.get (lpStat n)
  let bank0 := bitAt stat0 16
  let takeSwap := match c.swapAt with | some a => decide (a + 2000 ≤ s.clk.raw) | none => false
  let bank := if takeSwap then !bank0 else bank0
  let secs := match bankOf s n bank with
    | some cs => if (bankCheck cs).2 = 0 ∧ !cs.isEmpty then some cs else none
    | none => none
  match s.bit (lpCfg n) 0, secs with
  | false, _ => tentHold n (lpStatWord s n { c with eff := 7, ramp := false, inBad := false, forced := false, armed := false }
      (activeSecs s n).isNone (bitAt stat0 7) false false false false (bitAt stat0 15) bank0 c.swapAt.isSome)
      { c with run := false, eff := 7, ramp := false, inBad := false, forced := false, armed := false } []
  | true, none => tentHold n (lpStatWord s n { c with eff := 7 } true false false false false false (bitAt stat0 15) bank0
      c.swapAt.isSome) { c with run := false, eff := 7 } []
  | true, some cs =>
    let c1 := lpStart s n cs takeSwap
    let swapEv := if takeSwap then [⟨0x7A, sevInfo, 0, pack [(b2n bank, 0), (cs.length, 8)]⟩] else []
    let pend := c1.swapAt.isSome
    let vs := lpValid s n t
    let pvE := lpSelect (s.fget (lpCfg n) 5 4) vs
    let forced := match destInfo s n with | some d => d.forced | none => false
    let req := s.get (lpMode n)
    let eff := if forced && c1.eff != 7 then c1.eff else req
    let changed := eff != c1.eff
    let cause := if c1.forced && !forced then 4 else c1.modeBy
    let modeEv := if changed && c1.eff != 7 then [evMode c1.eff eff cause] else []
    let trip0 := bitAt stat0 15
    let nobc := bankNoBc cs
    match pvE with
    | none =>
      -- R152: the input fault acts
      let new := !c1.inBad
      let man := s.bit (lpCfg n) 24
      let ev := if new then [⟨0x7C, sevWarn, 0, b2n man⟩] else []
      let c2 := { c1 with inBad := true, armed := false, plCnt := 0, eff := if c1.eff = 7 then req else c1.eff }
      if man && (new || c2.eff != 0) then
        let t0 := tentHold n (lpStatWord s n { c2 with eff := 0, ramp := false } false nobc false false false false trip0 bank pend)
          c2 (swapEv ++ ev ++ (if c2.eff = 0 then [] else [evMode c2.eff 0 2]))
        { tentMan s n 2 t0 with faults := b2n new }
      else if man then
        -- already in MAN: MAN_OUT still sets the output
        let c3 := { c2 with eff := 0 }
        lpCompute s n t cs bank pend c3 c3.wsp false (c3.man != s.get (lpManOut n) || c3.handOv) trip0 0 none (swapEv ++ ev)
      else
        let t0 := tentHold n (lpStatWord s n c2 false nobc false false false false trip0 bank pend) c2 (swapEv ++ ev)
        { t0 with faults := b2n new }
    | some pvv =>
      let pv := lpPv s n pvv
      let recov := c1.inBad
      let evR := if recov then [⟨0x7C, sevInfo, 1, b2n (s.bit (lpCfg n) 24)⟩] else []
      -- R152: the track value
      let trkE := if eff = 3 then
          srcValid s (s.fget (lpTrackSrc n) 31 0) (s.fget (lpTrackSrc n) 43 32)
            (fld (entry (s.get (lpInputs n)) 64 0) 63 48 * 1000000) t |>.map (lpOutPu s n)
        else none
      let trkBad := eff == 3 && trkE.isNone
      let evT := if trkBad && !c1.trkBad then [⟨0x7C, sevWarn, 2, 0⟩]
        else if !trkBad && c1.trkBad && eff == 3 then [⟨0x7C, sevInfo, 3, 0⟩] else []
      let manChg := eff == 0 && !changed && c1.man != s.get (lpManOut n)
      let ho := c1.handOv || changed || (c1.forced && !forced) || recov || (c1.trkBad && !trkBad && eff == 3) || manChg
      let entersMan := changed && eff == 0 && c1.eff != 7
      let c2 := { c1 with eff := eff, inBad := false, trkBad := trkBad, modeBy := 1 }
      let isAuto := fun (m : Nat) => m == 1 || m == 2
      let auto := isAuto eff
      let first := (changed || !c1.ent) && auto
      let evs := swapEv ++ modeEv ++ evR ++ evT
      -- R162: armed outside a hand-over ramp; R175: a trip acts before the MODE write it coincides with
      let ramps := (lpCompute s n t cs bank pend c2 pv first ho trip0 0 trkE evs).ch.ramp
      let arm := plOn s n && (if auto then !ramps else changed && c1.armed && isAuto c1.eff) && !forced && !trip0
      let pl := if arm then plSample s n pv c2 else ({ c2 with armed := false, plCnt := 0 }, 0, false)
      if pl.2.2 then
        -- R162: the trip
        let act := s.fget (lpCfg n) 27 26
        let c3 := { pl.1 with armed := false, plCnt := 0, ent := pl.1.ent && !changed, handOv := pl.1.handOv || ho }
        let ev := swapEv ++ [⟨0x7D, sevFault, 0, pack [(act, 0), (ofS 32 pl.2.1, 32)]⟩] ++ modeEv ++ evR ++ evT
        let man := act == 1 && !changed
        let w := lpStatWord s n (if man then { c3 with eff := 0 } else c3) false nobc false false false false true bank pend
        let t0 := { tentHold n w c3 (if man then ev ++ [evMode eff 0 3] else ev) with trips := 1 }
        if man then tentMan s n 3 t0
        else if act == 1 || eff == 0 then
          -- the MODE written meanwhile stands; MAN_OUT is the last published output
          let m := ofS 32 (lpOutEng s n c3.y)
          { t0 with manOut := some m, hos := b2n (eff == 0), ch := { t0.ch with man := m } }
        else t0
      else if trip0 && auto && !forced && s.fget (lpCfg n) 27 26 != 1 then
        -- R162: held until the latch is cleared
        tentHold n (lpStatWord s n pl.1 false nobc false false false false true bank pend)
          { pl.1 with handOv := true, ent := pl.1.ent && !changed } evs
      else if entersMan then
        -- MAN_OUT takes the last published output, so the output stays
        let m := ofS 32 (lpOutEng s n pl.1.y)
        let r := lpCompute (s.put (lpManOut n) m) n t cs bank pend { pl.1 with ramp := false, man := m } pv false false trip0
          pl.2.1 none evs
        { r with manOut := some m, hos := 1 }
      else
        lpCompute s n t cs bank pend pl.1 pv first ho trip0 pl.2.1 trkE evs

/-- One sample of a loop at boundary `t` (R151, R157). -/
def loopSample (s : Block) (n t : Nat) : LoopTent :=
  let r := lpSampleOf s n t
  { r with took := (s.lch n).swapAt.isSome && r.ch.swapAt.isNone }

/-- Raises the events of a tentative result, stamped at its boundary (R92, R171). -/
def tentEvents (n t : Nat) (evs : List TentEv) (s : Block) : Block :=
  evs.foldl (fun x e => x.raiseAt t e.src e.sev e.code (lpObj n) e.data) s

/-- Counts up a field by k. -/
def Block.countN (s : Block) (a : Attr) (hi lo k : Nat) : Block := forN k (fun _ x => x.countUp a hi lo) s

/-- Commits and publishes one tentative result (R151, R155, R169). -/
def tentCommit (t : Nat) (s : Block) (r : LoopTent) : Block :=
  if s.bit (lpStat r.n) 5 then s
  else
    let keep := s.get (lpStat r.n)
    let swap := if r.took then none else (s.lch r.n).swapAt
    let s1 := (s.setLch r.n { r.ch with swapAt := swap }).put (lpStat r.n)
      (setFld (setFld r.stat 19 18 (fld keep 19 18)) 17 17 (b2n swap.isSome))
    let s2 := match r.values with | some v => s1.put (lpValues r.n) v | none => s1
    let s3 := match r.out with | some o => s2.put (lpOut r.n) (pack [(t % 2 ^ 64, 0), (ofS 32 o, 64)]) | none => s2
    let s4 := match r.mode with | some m => s3.put (lpMode r.n) m | none => s3
    let s5 := match r.manOut with | some m => s4.put (lpManOut r.n) m | none => s4
    let s6 := ((s5.countN (lpCount r.n) 31 0 r.hos).countN (lpCount r.n) 63 32 r.faults).countN (lpCount r.n) 95 64 r.trips
    let s7 := tentEvents r.n t r.evs s6
    match r.out with
    | some o => (lpDests s7 r.n).foldl (destWrite o) s7
    | none => s7

/-- Publishes every loop of a class (R169). -/
def publishLoops (k : Nat) (s : Block) : Block :=
  match (s.cls k).prog with
  | none => s
  | some t => (s.cls k).tent.foldl (tentCommit t) s

/-- The tentative results of a class's loops at a boundary. -/
def sampleLoops (s : Block) (k t : Nat) : List LoopTent :=
  ((List.range 256).filter (fun n => lpClass s n == k && !s.bit (lpStat n) 5 && (s.bit (lpCfg n) 0 || (s.lch n).run))).map
    (fun n => loopSample s n t)

/-- The swap's own checks (R157, R176): its code and the failing row. -/
def swapCheck (n : Nat) (x : Block) : Nat × Nat :=
  let s := x.seen
  let b := !s.bit (lpStat n) 16
  if (s.lch n).swapAt.isSome ∨ s.waits (lpBankCmd n) then (0x0401, 0)
  else match bankOf s n b with
    | none => (0x0303, 0)
    | some cs =>
      let r := bankCheck cs
      if r.2 ≠ 0 then (r.2, r.1)
      else
        let s1 := s.putBit (lpStat n) 16 b
        if classFits s1 (lpClass s n) 100 then (0, 0) else (0x0402, 0)

/-- SWAP taken: pending until a sample boundary at least 2 µs after it is accepted (R157), or, at a head, until the first
sample from the cycle start it is placed at (R334); a loop that computes nothing takes it at its first sample. -/
def swapAct (n : Nat) (s : Block) : Block :=
  (s.setLch n { s.lch n with swapAt := some (if s.role = 2 then s.clk.raw - 2000 else s.clk.raw) }).putBit (lpStat n) 17 true

/-- 0x7B at a refused SWAP (R157). -/
def swapRefused (n code : Nat) (s : Block) : Block :=
  s.raise 0x7B sevWarn (lpObj n) (pack [((swapCheck n s).2, 0), (code, 16)])

/-- SWAP (R157, R176). -/
def execSwap (i n : Nat) (s : State) : Res := onBlock s fun s =>
  pairCommand i (lpBankCmd n) (.num 1) (fun x => (swapCheck n x).1) (swapAct n) (swapRefused n) s

/-- Whether a table has the header and size of its type (R51): 0, 0x0202 or 0x0204. -/
def tableCheck (ttype rmin rmax cols efmt : Nat) (t : Table) : Nat :=
  if t.ttype ≠ ttype ∨ t.efmt ≠ efmt then 0x0202
  else if t.rows < rmin ∨ rmax < t.rows ∨ t.cols ≠ cols ∨ t.elems.length ≠ t.rows * t.cols then 0x0204
  else 0

/-- The check of a host's write of a coefficient bank (R156, R157, R176). -/
def bankWriteCheck (n : Nat) (b : Bool) (t : Table) (s : Block) : Nat :=
  if s.bit (lpStat n) 16 = b then 0x0309
  else if tableCheck 1 1 16 6 4 t ≠ 0 then tableCheck 1 1 16 6 4 t
  else if (s.lch n).swapAt.isSome ∨ s.waits (lpBankCmd n) then 0x0401
  else 0

/-- A bank write taken (R156). -/
def bankWriteAct (n : Nat) (b : Bool) (t : Table) (s : Block) : Block := (s.putTab (lpBank n b) t).markVol (lpBank n b)

/-- BANK_WRITE (R156, R176): a host write of BANK0 (`b` false) or BANK1. -/
def execBankWrite (i n : Nat) (b : Bool) (t : Table) (s : State) : Res := onBlock s fun s =>
  pairCommand i (lpBank n b) (.tab t) (bankWriteCheck n b t) (bankWriteAct n b t) noRefuse s

/-- A command that a class boundary at least 2 µs on takes, and at a head the first sample from its cycle start (R175, R334). -/
def classCommand (i : Nat) (a : Attr) (check : Block → Nat) (s : Block) : BRes :=
  pairCommand i a (.num 1) check (fun x => lateAdd a (.num 1) i (x.clk.tb + 2000) x) noRefuse s

/-- The check of CLEAR_PLAUS (R176). -/
def clearPlausCheck (n : Nat) (s : Block) : Nat := need (s.bit (lpStat n) 15) 0x0304
/-- CLEAR_PLAUS taken (R162). -/
def clearPlausAct (n : Nat) (s : Block) : Block := s.putBit (lpStat n) 15 false

/-- CLEAR_PLAUS (R162, R175, R176). -/
def execClearPlaus (i n : Nat) (s : State) : Res := onBlock s fun s =>
  classCommand i (lpCmd n) (clearPlausCheck n) s

/-- The check of RESTORE: something is shed, and the last of it fits (R171). -/
def restoreCheck (k : Nat) (s : Block) : Nat :=
  if (s.cls k).shed.isEmpty then 0x0304 else need ((restoreLoop 268 k s).2 != 0) 0x0402

/-- Reinstates shed items at a boundary of the class (R171): restored loops enter through a hand-over. -/
def restoreAct (k : Nat) (s : Block) : Block :=
  let r := restoreLoop 268 k s
  if r.2 = 0 then s
  else
  let s1 := (s.cls k).shed.foldl (fun x it => match it with
    | .loop n => if x.bit (lpStat n) 5 then x else x.setLch n { x.lch n with handOv := true }
    | .ring _ => x) r.1
  let s2 := s1.fput (clsStat k) 15 8 (satU 8 (s1.cls k).shed.length)
  seracSync (s2.raiseAt (clsBound s k) 0x72 sevInfo 0 (clsObj k) 0)

/-- RESTORE (R171, R175, R176). -/
def execRestore (i k : Nat) (s : State) : Res := onBlock s fun s =>
  classCommand i (clsCmd k) (restoreCheck k) s

/-- Own-value checks of a loop or class attribute beyond its fields (R156, R163, R176). -/
def lpOwn (a : Attr) (v : Nat) : Nat :=
  match a.kind, a.att with
  | 0, 0x022 => need (fld v 31 0 != fld v 63 32 && fld v 95 64 != fld v 127 96) 0x0201
  | 0, 0x023 => need (decide (toS 32 (fld v 31 0) < toS 32 (fld v 63 32))) 0x0201
  | 0, 0x028 => need (v ≤ 3) 0x0201
  | 2, 0x020 => need (10 ≤ fld v 39 32 && fld v 39 32 ≤ 90) 0x0201
  | _, _ => 0

/-- The used inputs of an enabled loop (the INPUTS row of *Other LOOP[n] attributes*). -/
def lpInputsOk (s : Block) (n : Nat) : Nat :=
  if !s.bit (lpCfg n) 0 then 0
  else firstErr ((List.range (s.fget (lpCfg n) 7 6 + 1)).map (fun i =>
    let e := entry (s.get (lpInputs n)) 64 i
    if fld e 63 48 = 0 then 0x0201
    else need (isSource (fld e 31 0) && (s.ownNode (fld e 43 32) || s.role == 2)) 0x0206))

/-- Whether a destination is driven by another loop or by a threshold switch (R155). -/
def destTaken (s : Block) (n : Nat) (d : Nat × Nat) : Bool :=
  s.regs.any (fun e => e.1.blk == 7 && e.1.kind == 0 && e.1.att == 0x02A && e.1.idx != n &&
    (List.range 4).any (fun i => bitAt (entry e.2 64 i) 63 && fld (entry e.2 64 i) 31 0 == d.1 &&
      s.nodeOf (fld (entry e.2 64 i) 43 32) == s.nodeOf d.2)) ||
  ((attrOf d.1).blk == 0xB && (List.range 32).any (fun k => s.bit (swCfg k) 0 && s.fget (swCfg k) 38 32 == (attrOf d.1).idx &&
    s.nodeOf (s.fget (swCfg k) 51 40) == s.nodeOf d.2))

/-- The check of ROUTE (R155, R176). -/
def lpRouteOk (s : Block) (n : Nat) : Nat :=
  need ((lpDests s n).all (fun d => (if s.ownNode d.2 then destKind s d.1 else isDest d.1 && s.role == 2) && !destTaken s n d)) 0x0206

/-- Whether a chain of masters from a loop returns to it (R161). -/
def masterCycle : Nat → Block → Nat → Nat → Bool
  | 0, _, _, _ => true
  | f + 1, s, n, m =>
    match lpMaster s m with
    | none => false
    | some d =>
      if !s.ownNode d.2 then false
      else if (attrOf d.1).idx = n then true
      else masterCycle f s n (attrOf d.1).idx

/-- The check of SP_SRC: another loop's OUT, and no cycle (R161, R176). -/
def lpMasterOk (s : Block) (n : Nat) : Nat :=
  match lpMaster s n with
  | none => 0
  | some d =>
    let a := attrOf d.1
    need (a.blk == 7 && a.kind == 0 && a.att == 0x012 && a.idx < 256 && (s.ownNode d.2 || s.role == 2) &&
      !(s.ownNode d.2 && a.idx == n) && !masterCycle 257 s n n) 0x0206

/-- Checks of a loop attribute that involve others, on the state the write leaves (R161, R163, R165, R167, R176). -/
def lpCross (a : Attr) (s : Block) : List Nat :=
  let n := a.idx
  match a.kind, a.att with
  | 0, 0x020 => [lpInputsOk s n, need (clsRingOk s (lpClass s n)) 0x0201, need (!s.bit (lpCfg n) 0 || allFit s) 0x0402]
  | 0, 0x021 => [lpInputsOk s n, need (clsRingOk s (lpClass s n)) 0x0201]
  | 0, 0x026 => [lpMasterOk s n, need (clsRingOk s (lpClass s n)) 0x0201]
  | 0, 0x027 =>
    let v := s.get (lpTrackSrc n)
    [need (fld v 31 0 == 0 || (isSource (fld v 31 0) && (s.ownNode (fld v 43 32) || s.role == 2))) 0x0206,
      need (clsRingOk s (lpClass s n)) 0x0201]
  | 0, 0x028 =>
    let m := s.get (lpMode n)
    [need (!(m == 1 || m == 2) || (activeSecs s n).isSome) 0x0303, need (m != 2 || s.fget (lpSpSrc n) 31 0 != 0) 0x0206,
      need (m != 3 || s.fget (lpTrackSrc n) 31 0 != 0) 0x0206]
  | 0, 0x02A => [lpRouteOk s n, need (clsRingOk s (lpClass s n)) 0x0201]
  | 0, 0x033 => [need (!s.bit (lpCfg n) 0 || allFit s) 0x0402]
  | 2, 0x020 => [need (clsPeriodsOk s && clsRingOk s n) 0x0201,
      need ((List.range 12).all (axCarrierOk s)) 0x0201, need (allFit s) 0x0402]
  | _, _ => []

/-- 0x7E at an accepted write that sets EN of a loop without a valid bank (R157). -/
def lpNoBank (a : Attr) (v : AVal) (s : Block) : Block :=
  match v with
  | .num x => if a.blk = 7 ∧ a.kind = 0 ∧ a.att = 0x020 ∧ bitAt x 0 = true ∧ (activeSecs s.seen a.idx).isNone then
      s.raise 0x7E sevFault (lpObj a.idx) 0 else s
  | .tab _ => s

/-- Effects of a write of a loop attribute (R157, R160, R175). -/
def lpWritten (a : Attr) (s : Block) : Block :=
  let n := a.idx
  match a.kind, a.att with
  | 0, 0x020 => seracSync (s.putBit (lpStat n) 6 (activeSecs s n).isNone)
  | 0, 0x028 => s.setLch n { s.lch n with modeBy := 1 }
  | 0, 0x033 => seracSync s
  | 2, 0x020 => seracSync s
  | _, _ => s

end Sys2Proof.Machine
end

