-- ==== Sys2Proof/Machine/Wire.lean ====
section
/-! DEFINITION. Machine/Wire.lean: the bytes of what the module sends on the ring, the cross-link and Rime (R8, R303, R304, R307,
R314, R317). -/

namespace Sys2Proof.Machine

/-- The 24 header bytes of a Floe frame with `len` bytes of payload, big-endian (R8, R303). -/
def floeHdrBytes (h : FloeHdr) (len : Nat) : List Byte :=
  let b := beBytes 1 (16 + h.cls) ++ beBytes 1 h.dir ++ beBytes 2 h.src ++ beBytes 2 h.dst ++ beBytes 2 h.hops ++
    beBytes 4 h.inst ++ beBytes 4 h.cycle ++ beBytes 2 len ++ beBytes 2 h.seq
  b ++ beBytes 4 (crc32 b)

/-- A Floe frame: header, payload and FCS (R303, log entry 47). -/
def floeBytes (h : FloeHdr) (payload : List Byte) : List Byte :=
  let b := floeHdrBytes h payload.length ++ payload
  b ++ leBytes 4 (crc32 b)

/-- The header of a frame of this module launched at a port. -/
def floeHdr (s : Block) (port cls dst cycle seq : Nat) : FloeHdr :=
  ⟨cls, b2n (port == 1), s.img.node, dst, 0, s.floe.tag, cycle % 2 ^ 32, seq % 2 ^ 16⟩

/-- Launches a frame at those of `ports` that are up. -/
def floeLaunch (ports : List Nat) (cls dst cycle seq : Nat) (payload : List Byte) (s : Block) : Block :=
  { s with net := ((ports.filter (fun p => s.bit (floePort p) 2)).map (fun p =>
      NetMsg.frame p (floeBytes (floeHdr s p cls dst cycle seq) payload))).reverse ++ s.net }

/-- Originates a frame of a class with the class's next SEQ (R303, R304). -/
def floeSend (ports : List Nat) (cls dst cycle : Nat) (payload : List Byte) (s : Block) : Block :=
  let q := getL s.floe.seqs cls 0
  let s1 := floeLaunch ports cls dst cycle q payload s
  { s1 with floe := { s1.floe with seqs := setAt s1.floe.seqs cls ((q + 1) % 2 ^ 16) } }

/-- The ring port through which a node was last reached in fewer hops (R306, R311); east where the reach table has none. -/
def reachPort (s : Block) (d : Nat) : Nat :=
  let best := fun (p : Nat) => (s.floe.reach.find? (fun r => r.1 == d && r.2.1 == p)).map (fun r => r.2.2)
  match best 0, best 1 with
  | some x, some y => if y < x then 1 else 0
  | none, some _ => 1
  | _, _ => 0

/-- A dual-path frame: once east and once west (R304). -/
abbrev dualPath : List Nat := [0, 1]

/-- DST of a frame for every HEAD, and for every node (R303). -/
abbrev dstHeads : Nat := 0
abbrev dstAll : Nat := 0xFFF

/-- The TIME payload (R314). -/
def timeBytes (master claim origin corr : Nat) : List Byte :=
  leBytes 2 master ++ leBytes 4 claim ++ leBytes 8 origin ++ leBytes 8 corr

/-- The length of a section (R307). -/
def sectLen (c : Sect) : Nat := 16 + 8 * c.ents.length

/-- A COMMAND section with its CRC (R307). -/
def sectBytes (c : Sect) : List Byte :=
  let b := leBytes 2 c.dst ++ leBytes 2 (sectLen c) ++ leBytes 4 c.claim ++ leBytes 1 c.mode ++ leBytes 1 c.ents.length ++
    zeros 2 ++ (c.ents.map (fun e => leBytes 4 e.1 ++ leBytes 4 e.2)).flatten
  b ++ leBytes 4 (crc32 b)

/-- Sections packed in their order into bundles of at most 1952 bytes (R303, R307). -/
def bundleSects : List Byte → List Sect → List (List Byte)
  | [], [] => []
  | b, [] => [b]
  | [], c :: l => bundleSects (sectBytes c) l
  | b, c :: l => if b.length + sectLen c ≤ 1952 then bundleSects (b ++ sectBytes c) l else b :: bundleSects (sectBytes c) l

/-- A Rime frame to a slot: header, payload and CRC, little-endian (R317). -/
def rimeBytes (typ src dst ring ts : Nat) (payload : List Byte) : List Byte :=
  let b := leBytes 1 typ ++ leBytes 1 src ++ leBytes 1 dst ++ leBytes 1 ring ++ leBytes 4 payload.length ++ leBytes 8 ts ++ payload
  b ++ leBytes 4 (crc32 b)

/-- The payload of SETUP: the plan's items in the order R317 names them, each as wide as its attribute (log entry 47). -/
def setupBytes (p : TomoPlan) : List Byte :=
  (p.elec.map (leBytes 1)).flatten ++ avalBytes (tmBand p.ring) (.num p.band) ++ leBytes 1 (b2n p.pset) ++
  avalBytes (tmPhases p.ring) (.num p.phases) ++ leBytes 1 p.rate

/-- The payload of SETUP_ACK: the result, and the failing electrode (R144, R317, log entry 47). -/
def setupAckBytes (result elec : Nat) : List Byte := leBytes 2 result ++ leBytes 2 elec

end Sys2Proof.Machine
end

