-- ==== Sys2Proof/Machine/Tomo.lean ====
section
/-! DEFINITION. Machine/Tomo.lean: bin moisture tomography (chapter 06, R123 to R146) and the Rime frames that carry a
pooled ring (R144, R317, R319). -/

namespace Sys2Proof.Machine

/-- This module's Rime slot (R315). -/
def rmSlot (s : Block) : Nat := s.fget rmStat 1 0
/-- Ring r. -/
def Block.tch (s : Block) (r : Nat) : TomoCh := getL s.tomo.ch r tmCh0
/-- The machine with ring r replaced. -/
def Block.setTch (s : Block) (r : Nat) (c : TomoCh) : Block := { s with tomo := { s.tomo with ch := setAt s.tomo.ch r c } }

/-- A list of words as one multi-entry attribute of `w`-bit entries. -/
def packL (w : Nat) : List Nat → Nat
  | [] => 0
  | x :: r => x % 2 ^ w + 2 ^ w * packL w r

/-- The tone word of electrode k (R125). -/
def tmFtw (band k : Nat) : Nat := fld band 31 0 + k * 1374390

/-- ACQ_SLOT of a ring, 0xF for this module. -/
def tmSlot (s : Block) (r : Nat) : Nat := s.fget (tmCfg r) 11 8

/-- The Schroeder phase set (R126). -/
def schroeder : List Nat :=
  [0x0000, 0xF800, 0xE000, 0xB800, 0x8000, 0x3800, 0xE000, 0x7800,
   0x0000, 0x7800, 0xE000, 0x3800, 0x8000, 0xB800, 0xE000, 0xF800]

/-- PHASE_k of a ring (R126). -/
def tmPhase (pset : Bool) (phases k : Nat) : Nat := if pset then entry phases 16 k else getL schroeder k 0

/-- 2^60, the unit of the envelope's fixed-point phasors. -/
abbrev phU : Int := 1152921504606846976

/-- Product of two phasors. -/
def phMul (a b : Int × Int) : Int × Int := (rdiv (a.1 * b.1 - a.2 * b.2) (2 ^ 60), rdiv (a.1 * b.2 + a.2 * b.1) (2 ^ 60))

/-- The phasors of a quarter turn, an eighth, and so on, by halving the angle; `n` of them. -/
def phHalves : Nat → Int × Int → List (Int × Int)
  | 0, _ => []
  | n + 1, p =>
    let c : Int := isqrt ((phU + p.1) * (phU / 2)).toNat
    p :: phHalves n (c, rdivI (p.2 * phU) (2 * c))

/-- The phasor at `k` of 65 536 parts of a turn. -/
def phasor (hs : List (Int × Int)) (k : Nat) : Int × Int :=
  (numbered hs).foldl (fun a e => if bitAt k (15 - e.1) then phMul a e.2 else a) (phU, 0)

/-- The half turn and its halves. -/
def phTable : List (Int × Int) := (-phU, 0) :: phHalves 15 (0, phU)

/-- The largest squared magnitude of the sum of 16 unit tones over 4096 points of an envelope period (R127), in
2^−120. -/
def envPeak2 (pset : Bool) (phases : Nat) : Nat :=
  let hs := phTable
  let ph := (List.range 16).map (fun k => phasor hs (tmPhase pset phases k))
  (List.range 4096).foldl (fun m n =>
    let st := phasor hs (16 * n)
    let r := ph.foldl (fun (a : (Int × Int) × (Int × Int)) p =>
      let q := phMul p a.2
      ((a.1.1 + q.1, a.1.2 + q.2), phMul a.2 st)) ((0, 0), (phU, 0))
    max m (r.1.1 * r.1.1 + r.1.2 * r.1.2).toNat) 0

/-- Square of the summed drive's peak in (200 µV)² × 2^120 for an amplitude (R127): 5.21 × AMP for the Schroeder set, as
R127 states (log entry 34), else the envelope's peak. -/
def drivePeak2 (amp : Nat) (pset : Bool) (phases : Nat) : Nat :=
  if (List.range 16).map (tmPhase pset phases) = schroeder then amp * amp * 271441 * (2 ^ 120 / 10000)
  else amp * amp * envPeak2 pset phases

/-- Whether P is at most 10.0 V. -/
def peakOk (amp : Nat) (pset : Bool) (phases : Nat) : Bool := drivePeak2 amp pset phases ≤ 50000 * 50000 * 2 ^ 120

/-- P in mV. -/
def peakMv (amp : Nat) (pset : Bool) (phases : Nat) : Nat := isqrt ((drivePeak2 amp pset phases + 2 ^ 119) / (25 * 2 ^ 120))

/-- The frame period of a ring in ns (R130). -/
def tmPeriod (s : Block) (r : Nat) : Nat :=
  if s.bit (tmCfg r) 1 then s.fget (tmFrame r) 31 0 * 1000000 else clsPeriod s 3

/-- The electrodes of a ring. -/
def tmElecs (s : Block) (r : Nat) : List Nat := (List.range 16).map (entry (s.get (tmElec r)) 8)

/-- Whether an electrode's FE zone is at its throttle step (R130), for a ring acquired here. -/
def elecThr (s : Block) (el : List Nat) : Bool := el.any (feThr s)

/-- THR of a ring (R130): its FE zones here, or what its acquiring module's do. -/
def tmThr (s : Block) (r : Nat) : Bool := if tmSlot s r = 0xF then elecThr s (tmElecs s r) else (s.tch r).rthr

/-- The due multiple of a period above the last one: the next, or the latest when several have passed. -/
def dueMultiple (p last tb : Nat) : Nat :=
  let b := nextMultiple p last
  if b + p ≤ tb then tb / p * p else b

/-- Whether a ring runs: enabled, READY and not FAILED. -/
def tmRuns (s : Block) (r : Nat) : Bool :=
  s.phase == .active && s.bit (tmCfg r) 0 && s.bit (tmStat r) 0 && !s.bit (tmStat r) 1

/-- Brings READY and STATE of a ring up to date (R65, the STAT table): READY when it is brought up, until it is disabled or
FAILED. -/
def tmSync (r : Nat) (s : Block) : Block :=
  let el := tmElecs s r
  let failed := s.bit (tmStat r) 1
  let own := tmSlot s r == 0xF
  let groups := el.all (fun n => s.bit (fgStat (n / 16)) 0)
  let ready := s.bit (tmCfg r) 0 && !failed && (s.bit (tmStat r) 0 || !own || groups)
  let st := if !ready then 0
    else if (s.tch r).calOp ≠ 0 then 4
    else if !own && (s.tch r).setup != 2 then 1
    else if own && el.any (fun n => s.fget (feStat n) 23 16 != 0) then 2 else 3
  s.put (tmStat r) (setFld (setFld (setFld (s.get (tmStat r)) 0 0 (b2n ready)) 4 2 st) 7 7 (b2n (tmThr s r)))

/-- Restarts the ring for a configuration write (R129, R146): its own electrodes, or a set-up still to send. -/
def tmRestart (r : Nat) (s : Block) : Block :=
  let s1 := match tmOwnPlan s r with
    | some p => ringRestart p 0xFF s
    | none => (ringFresh r s).raise 0x67 sevInfo (tmObj r) 0xFF
  let c := s1.tch r
  tmSync r (s1.setTch r { c with setup := if tmSlot s r = 0xF then c.setup else 0 })

/-- Mean of the quotients of a sense electrode's currents at tone `j` by the drive voltage, over the values delivered on
both with TS in the window, in 10⁻¹⁸ S, and their count (R131). Where the spec states no quotient the value is free. -/
def admMean (f : Nat) (hi hj : List (Nat × List (Int × Int) × (Int × Int))) (j : Nat) : (Int × Int) × Nat :=
  let both := hi.filterMap (fun x => (hj.find? (fun y => y.1 == x.1)).map (fun y => (getL x.2.1 j (0, 0), y.2.2)))
  let n := both.length
  if n = 0 ∨ both.any (fun e => cAbs2 e.2 == 0) then ((toS 64 (Config.freeNat f), toS 64 (Config.freeNat (f + 1))), n)
  else
    let g := sumI (both.map (fun e => rdivI (cRe e.1 e.2 * 10 ^ 15) (cAbs2 e.2)))
    let b := sumI (both.map (fun e => rdivI (cIm e.1 e.2 * 10 ^ 15) (cAbs2 e.2)))
    ((rdiv g n, rdiv b n), n)

/-- The 120 pairs of electrodes in pair order. -/
def tmPairs : List (Nat × Nat) :=
  ((List.range 16).map (fun i => (List.range (15 - i)).map (fun k => (i, i + 1 + k)))).flatten

/-- The admittances of a plan at a frame boundary (R131): window `w`, from the values its electrodes delivered. -/
def tmAcquire (s : Block) (p : TomoPlan) (tF w : Nat) : TomoAdm :=
  let hs := p.elec.map (fun n => (s.fch n).hist.filter (fun e => decide (e.1 ≤ tF ∧ tF < e.1 + w)))
  let need := fun (n : Nat) =>
    let d := 10 * nsPerS * (if feThr s n then 2 else 1)
    (9 * w * feHz p.rate + d - 1) / d
  let m := (List.range 256).map (fun k => admMean (s.fresh + 2 * k) (getL hs (k / 16) []) (getL hs (k % 16) []) (k % 16))
  { ts := tF
    y := m.map (fun e => e.1)
    n := tmPairs.map (fun e => (getL m (16 * e.1 + e.2) ((0, 0), 0)).2)
    el := (numbered p.elec).map (fun e =>
      b2n (decide (need e.2 ≤ (getL hs e.1 []).length)) + s.fget (feStat e.2) 2 0 * 2 + s.fget (feStat e.2) 11 8 * 16) }

/-- The ADMIT payload (2304 bytes). -/
def admBytes (a : TomoAdm) : List Byte :=
  (a.y.map (fun e => leBytes 4 (satS 32 (rdiv e.1 1000000)) ++ leBytes 4 (satS 32 (rdiv e.2 1000000)))).flatten ++
  (a.n.map (fun k => leBytes 2 (satU 16 k))).flatten ++ (a.el.map (leBytes 1)).flatten

/-- The admittances an ADMIT payload carries. -/
def admOf (ts : Nat) (b : List Byte) : TomoAdm :=
  { ts := ts
    y := (List.range 256).map (fun k => (toS 32 (leAt b (8 * k) 4) * 1000000, toS 32 (leAt b (8 * k + 4) 4) * 1000000))
    n := (List.range 120).map (fun k => leAt b (2048 + 2 * k) 2)
    el := (List.range 16).map (fun k => leAt b (2288 + k) 1) }

/-- The mutual capacitance C_ij in aF from Im(Ȳ_ij) in 10⁻¹⁸ S. -/
def tmCap (band : Nat) (a : TomoAdm) (i j : Nat) : Int :=
  rdivI (-(getL a.y (16 * i + j) (0, 0)).2 * (2 ^ 32 * piDen : Nat)) (2 * piNum * 12500000 * tmFtw band j : Nat)

/-- The capacitances of both directions of every pair. -/
def tmCaps (band : Nat) (a : TomoAdm) : List (Int × Int) := tmPairs.map (fun e => (tmCap band a e.1 e.2, tmCap band a e.2 e.1))

/-- r_p in 0.01 % of a pair (R132); free where C_p is 0. -/
def tmRecip (f : Nat) (c : Int × Int) : Nat :=
  if c.1 + c.2 = 0 then Config.freeNat f % 65536
  else satU 16 (rdivI (20000 * (c.1 - c.2).natAbs) (c.1 + c.2).natAbs).toNat

/-- Whether a pair is discordant: r_p above RECIP_TOL in % (R132). -/
def tmDiscord (tol f : Nat) (c : Int × Int) : Bool :=
  if c.1 + c.2 = 0 then tol * 100 < Config.freeNat f % 65536
  else tol * (c.1 + c.2).natAbs < 200 * (c.1 - c.2).natAbs

/-- λ_p in Q2.30 (R132); free where CF_p equals CE_p. -/
def tmLambda (f : Nat) (ce cf : Int) (c : Int × Int) : Int :=
  if cf = ce then toS 32 (Config.freeNat f)
  else sat32 (rdivI ((c.1 + c.2 - 2 * ce) * 2 ^ 30) (2 * (cf - ce)))

/-- Adds a multiple of a row. -/
def addRow (acc row : List Int) (k : Int) : List Int := List.zipWith (fun a x => a + k * x) acc row
/-- Scalar product of two rows. -/
def dotRow (a b : List Int) : Int := sumI (List.zipWith (· * ·) a b)

/-- A list cut into rows of `w` elements. -/
def rowsOf (w : Nat) : Nat → List Int → List (List Int)
  | 0, _ => []
  | n + 1, l => l.take w :: rowsOf w n (l.drop w)

/-- A row of 812 zeros. -/
def zeroRow : List Int := List.replicate 812 0

/-- Transposed matrix times a vector of 120. -/
def matT (s : List (List Int)) (e : List Int) : List Int :=
  (s.zip e).foldl (fun acc x => addRow acc x.1 x.2) zeroRow

/-- The residuals λ − S·g in Q2.30 (R136); free where one lies outside the format. -/
def tmResid (f : Nat) (s : List (List Int)) (lam g : List Int) : List Int :=
  (numbered (lam.zip s)).map (fun x =>
    let e := x.2.1 - rdiv (dotRow x.2.2 g) (2 ^ 15)
    if sat32 e = e then e else toS 32 (Config.freeNat (f + x.1)))

/-- The iterations of R136: the grid after `k` projected steps. -/
def tmIterate (f : Nat) (s : List (List Int)) (lam : List Int) (alpha gmax : Int) : Nat → List Int → List Int
  | 0, g => g
  | k + 1, g =>
    let d := matT s (tmResid (f + 120 * k) s lam g)
    tmIterate f s lam alpha gmax k (List.zipWith (fun a x => clampI 0 gmax (a + rdiv (alpha * x) (2 ^ 45))) g d)

/-- Column sums W_q of a sensitivity matrix (R135). -/
def tmWeights (s : List (List Int)) : List Int := matT s (List.replicate 120 1)

/-- The back-projection of R136. -/
def tmBack (f : Nat) (s : List (List Int)) (lam : List Int) (gmax : Int) : List Int :=
  (numbered (List.zip (matT s lam) (tmWeights s))).map (fun x =>
    clampI 0 gmax (if x.2.2 = 0 then toS 32 (Config.freeNat (f + x.1)) else rdivI x.2.1 x.2.2))

/-- RESID in 0.1 % (R136): the ratio of the norms; free where λ is zero. -/
def tmRatio (f : Nat) (e lam : List Int) : Nat :=
  let n := (dotRow e e).toNat
  let d := (dotRow lam lam).toNat
  if d = 0 then Config.freeNat f % 65536
  else
    let r := isqrtGo 64 0 (1000000 * n / d)
    satU 16 (if (2 * r + 1) * (2 * r + 1) * d ≤ 4000000 * n then r + 1 else r)

/-- 32 power iterations of SᵀS on a vector (R135), each scaled down to 2^30. -/
def powIter (s : List (List Int)) : Nat → List Int → List Int
  | 0, v => v
  | n + 1, v =>
    let w := matT s (s.map (fun r => dotRow r v))
    let m := w.foldl (fun a x => max a x.natAbs) 1
    powIter s n (w.map (fun x => rdiv (x * 2 ^ 30) m))

/-- S_NORM2 in Q34.30 (R135): the Rayleigh quotient after 32 iterations from a free vector (log entry 33). -/
def tmNorm2Of (f : Nat) (s : List (List Int)) : Nat :=
  let v := powIter s 32 ((List.range 812).map (fun q => toS 32 (Config.freeNat (f + q))))
  let u := s.map (fun r => dotRow r v)
  let d := (dotRow v v).toNat
  if d = 0 then Config.freeNat (f + 812) % 2 ^ 64 else satU 64 (rdiv (dotRow u u) d).toNat

/-- The step size of R136 in Q2.30: ALPHA, or 1 / S_NORM2. -/
def tmAlpha (s : Block) (r f : Nat) : Int :=
  let a := s.fget (tmRecon r) 31 0
  if a ≠ 0 then toS 32 a
  else if s.get (tmNorm2 r) = 0 then toS 32 (Config.freeNat f) else rdiv (2 ^ 60) (s.get (tmNorm2 r))

/-- The temperature sources of a ring. -/
def tmSources (s : Block) (r : Nat) : List Nat :=
  ((List.range 4).map (fun k => entry (s.get (tmTemps r)) 8 k)).filter (fun n => n != 0xFF)

/-- The eligible temperatures of a ring at a frame boundary (R116, R139). -/
def tmEligible (s : Block) (r tF : Nat) : List Int :=
  (tmSources s r).filterMap (fun n =>
    let ts := s.fget (feLast n) 63 0
    if (s.fch n).delivAt.isSome && decide (ts < tF ∧ tF ≤ ts + s.fget (tmTemps r) 35 32 * nsPerS) then
      some (toS 32 (s.fget (feLast n) 95 64)) else none)

/-- The method of one frame (R117, R139): the row of the *Method selection* table, and the ring after it. -/
def tmMethod (s : Block) (r tF : Nat) : Nat × TomoCh :=
  let c := s.tch r
  let hold := s.fget (tmTemps r) 39 36 * nsPerS
  let from' := match c.tFrom with | some t => t | none => tF
  if (tmSources s r).isEmpty then (2, c)
  else if (tmEligible s r tF).isEmpty then
    (if c.tSeen then (4, { c with tLost := true, tRep := true, tFrom := none }) else (3, c))
  else if c.tLost then
    (if tF < from' + hold then (5, { c with tFrom := some from', tRep := false })
     else (6, { c with tSeen := true, tLost := false, tRep := false, tFrom := none }))
  else (6, { c with tSeen := true })

/-- The moisture of one pixel in 0.01 % from ε in 10⁻⁶ (R139); free where the crop set has no table for the method. -/
def tmMoist (s : Block) (f crop row : Nat) (t : Option Int) (eps : Int) : Int :=
  clampI (-32768) 32767 (
    if row = 2 ∨ row = 6 then
      match s.elems (cropPoly crop) with
      | some c => (polyAt c 8000000 8000000 4000 6000 eps t).1
      | none => toS 16 (Config.freeNat f)
    else match s.elems (cropPwl crop) with
      | some rows => (pwlAt rows eps).1
      | none => toS 16 (Config.freeNat f))

/-- The fill state of a ring (R141): 0 EMPTY, 1 PARTIAL, 2 COVERED, 3 UNKNOWN. -/
def tmFillNow (s : Block) (r : Nat) : Nat :=
  let v := s.get (tmFill r)
  let n := fld v 7 0
  if n = 0xFF then 2
  else match (s.fch n).delivAt with
    | none => 3
    | some t =>
      if t + 10 * nsPerS < s.clk.tb then 3
      else
        let l := toS 32 (s.fget (feLast n) 95 64)
        let z := toS 32 (fld v 39 8)
        if l < z then 0 else if l < z + fld v 71 40 then 1 else 2

/-- FILL of a ring set, with 0x64 at a change (R141). -/
def tmFillPut (ts f r : Nat) (s : Block) : Block :=
  if s.fget (tmStat r) 6 5 = f then s
  else (s.fput (tmStat r) 6 5 f).raiseAt ts 0x64 sevInfo 0 (tmObj r) 0

/-- The fill state of a ring turned UNKNOWN 10 s after the level delivered at `last`, where that has come (R141). -/
def tmFillLapse (last : Option Nat) (r : Nat) (s : Block) : Block :=
  match last with
  | some t => if s.fget (tmFill r) 7 0 ≠ 0xFF ∧ t + 10 * nsPerS < s.clk.tb then tmFillPut (t + 10 * nsPerS) 3 r s else s
  | none => s

/-- Brings FILL of a ring up to date (R141). -/
def tmFillSync (ts r : Nat) (s : Block) : Block :=
  let s1 := tmFillLapse (s.fch (s.fget (tmFill r) 7 0)).delivAt r s
  tmFillPut ts (tmFillNow s1 r) r s1

/-- The rings a delivered value of a channel gives the fill state of (R141); `last`: when the value before it was delivered. -/
def tmLevel (n : Nat) (last : Option Nat) (s : Block) : Block :=
  forN 12 (fun r x => if x.bit (tmCfg r) 0 && x.fget (tmFill r) 7 0 == n then
    tmFillSync x.clk.tb r (tmFillLapse last r x) else x) s

/-- An INVALID frame (R142). -/
def tmInvalid (r ts cause : Nat) (s : Block) : Block :=
  let c := s.tch r
  let s1 := (s.put (tmStat r) (setFld (setFld (s.get (tmStat r)) 9 8 2) 13 10 cause)).countUp (tmCount r) 95 64
  let s2 := s1.setTch r { c with good := false, run := none }
  if c.good then s2.raiseAt ts 0x60 sevWarn 0 (tmObj r) cause else s2

/-- A frame discarded with its kernel (R138). -/
def tmDiscard (r : Nat) (s : Block) : Block :=
  match (s.tch r).run with
  | none => s
  | some f => ((tmInvalid r f.ts 5 s).countUp (tmCount r) 127 96).raiseAt f.ts 0x63 sevWarn 0 (tmObj r) 0

/-- The kernel's work on one frame (R136, R139): what it will issue. `lam` is λ, `disc` the discordant pairs. -/
def tmKernel (s : Block) (r tF start disc : Nat) (lam : List Int) (row : Nat) : TomoRun :=
  let f := s.fresh
  let sm := rowsOf 812 120 ((s.elems (tmSens r)).getD [])
  let rc := s.get (tmRecon r)
  let gmax := toS 32 (fld rc 63 32)
  let iter := s.fget (tmCfg r) 37 32
  let g := tmIterate (f + 2000) sm lam (tmAlpha s r (f + 1)) gmax iter (tmBack (f + 1000) sm lam gmax)
  let resid := tmRatio f (tmResid (f + 8000) sm lam g) lam
  let e0 : Int := fld (s.get (tmEps r)) 31 0
  let e1 : Int := fld (s.get (tmEps r)) 63 32
  let eps := g.map (fun x => e0 + rdiv (x * (e1 - e0)) (2 ^ 30))
  let el := tmEligible s r tF
  let t := if el.isEmpty then none else some (rdiv (sumI el) el.length)
  let fill := tmFillNow s r
  { ts := tF, core := ringCore s r, due := start + tomoCost s r * 2 * coreDiv s
    limit := tF + tmPeriod s r * (if tmThr s r then 2 else 1)
    pix := (numbered eps).map (fun x => tmMoist s (f + 9000 + x.1) (s.fget (tmCfg r) 15 12) row t x.2)
    perm := eps.map (fun x => (clampI 0 65535 (rdiv x 1000)).toNat)
    resid := resid, disc := disc, iter := iter, row := row, part := fill == 1, unk := fill == 3
    high := fld rc 79 64 < resid, thr := tmThr s r, temp := t }

/-- The cause that makes a frame INVALID at its kernel's start (the *Frame quality* table), 0 for none. -/
def tmCause (s : Block) (r : Nat) (a : Option TomoAdm) (disc : Nat) : Nat :=
  let c := s.tch r
  let hot := match a with
    | some x => x.el.any (fun e => e / 16 == 5)
    | none => false
  if !c.hasE ∨ !c.hasF then 7
  else if (tmSlot s r = 0xF ∧ (tmElecs s r).any (feZoneOff s)) ∨ hot = true then 8
  else if a.isNone then 6
  else if ((a.map (fun x => x.el.any (fun e => e % 2 == 0))).getD false) then 1
  else if tmFillNow s r = 0 then 3
  else if s.fget (tmCheck r) 15 8 < disc then 4
  else if !s.bit (tmCfg r) 1 && ringShed s r then 5
  else 0

/-- The discordant pairs of a frame. -/
def tmDiscords (s : Block) (r : Nat) (caps : List (Int × Int)) : List (Nat × Nat) :=
  ((numbered (tmPairs.zip caps)).filter (fun x => tmDiscord (s.fget (tmCheck r) 7 0) (s.fresh + x.1) x.2.2)).map (fun x => x.2.1)

/-- PAIRS and the reciprocity events of a frame (R132, R142). -/
def tmShowPairs (r ts : Nat) (caps : List (Int × Int)) (dis : List (Nat × Nat)) (s : Block) : Block :=
  let s1 := s.put (tmAdm r) (packL 64 ((numbered caps).map (fun x =>
    satS 32 (rdiv (x.2.1 + x.2.2) 2) + tmRecip (s.fresh + x.1) x.2 * 2 ^ 32)))
  forN 16 (fun e x =>
    if 8 ≤ (dis.filter (fun p => p.1 == e || p.2 == e)).length then x.raiseAt ts 0x62 sevWarn 0 (tmObj r) e else x) s1

/-- A frame counted toward the calibration in progress (R133). -/
def tmCalFrame (r : Nat) (usable : Bool) (caps : List (Int × Int)) (s : Block) : Block :=
  let c := s.tch r
  if c.calOp = 0 ∨ !usable ∨ c.calN ≤ c.calUsed then s
  else s.setTch r { c with
    calUsed := c.calUsed + 1
    calSum := List.zipWith (fun a x => a + x.1 + x.2) (if c.calSum.isEmpty then List.replicate 120 0 else c.calSum) caps }

/-- The admittances the kernel of a ring starts on, with the loss of an ADMIT noted (R144, R317, *FLOE and RIME event
sources*). -/
def tmTake (r tF w : Nat) (s : Block) : Option TomoAdm × Block :=
  let c := s.tch r
  if tmSlot s r = 0xF then
    match tmOwnPlan s r with
    | some p => (some (tmAcquire s p tF w), { s with fresh := s.fresh + 512 })
    | none => (none, s)
  else match c.adm with
    | some a =>
      if a.ts = tF then (some a, s.setTch r { c with adm := none, lostR := false, admOk := true })
      else lost c
    | none => lost c
where
  /-- No ADMIT for the boundary. -/
  lost (c : TomoCh) : Option TomoAdm × Block :=
    let s1 := (s.setTch r { c with adm := none, lostR := true, admOk := false }).countUp rmCount 63 32
    let s2 := if c.admOk then s1.raise 0xF7 sevWarn rmObj r else s1
    (none, if c.lostR then s2 else s2.raiseAt tF 0x66 sevFault 0 (tmObj r) (tmSlot s r))

/-- Whether a write of an attribute takes effect at its ring's next frame boundary: RECON, CHECK, TEMPS, FILL_CFG, EPS, FRAME (R146). -/
def tmAtFrame (a : Attr) : Bool := a.blk == 6 && a.kind == 0 && 0x024 ≤ a.att && a.att ≤ 0x029

/-- The next frame boundary of ring r from now on (R130). -/
def tmNextFrame (s : Block) (r : Nat) : Nat :=
  let w := tmPeriod s r * (if tmThr s r then 2 else 1)
  max (dueMultiple w (s.tch r).last s.clk.tb) (ceilMultiple (max 1 w) s.clk.tb)

/-- The writes that wait for a frame boundary of ring r and that `p` picks, taken. -/
def tmTakeIf (r : Nat) (p : LateW → Bool) (s : Block) : Block :=
  let q := fun (w : LateW) => tmAtFrame w.a && w.a.idx == r && p w
  (s.late.filter q).foldl (fun x w => x.setVal w.a w.v) { s with late := s.late.filter (fun w => !q w) }

/-- At frame boundary `tF` of ring r: the writes that wait for it. -/
def tmTaken (r tF : Nat) (s : Block) : Block := tmTakeIf r (fun w => w.due ≤ tF) s

/-- The longest window of R130, twice the longest FRAME_PERIOD: what an electrode keeps of its delivered values. -/
abbrev tmKeep : Nat := 7200 * nsPerS

/-- An electrode's values that no window from `tF` on can reach dropped. -/
def tmForget (tF : Nat) (s : Block) (n : Nat) : Block :=
  s.setFch n { s.fch n with hist := (s.fch n).hist.filter (fun e => decide (tF < e.1 + tmKeep)) }

/-- A frame of a ring of this module (R130 to R133, R136, R138, R142). -/
def tmFrameOwn (r : Nat) (s0 : Block) : Block :=
  let c0 := s0.tch r
  let thr := tmThr s0 r
  let w := tmPeriod s0 r * (if thr then 2 else 1)
  let tF := dueMultiple w c0.last s0.clk.tb
  let el := tmElecs s0 r
  let start := if tmSlot s0 r = 0xF then tF + max 20000 (feTrel s0 (el.headD 0)) else tF + 60000
  let s1 := tmFillSync tF r (tmDiscard r (tmTaken r tF (s0.advanceTb start)))
  let s2 := s1.setTch r { s1.tch r with last := tF }
  let t := tmTake r tF w s2
  let s3 := if tmSlot s0 r = 0xF then el.foldl (tmForget tF) t.2 else t.2
  let full := (t.1.map (fun a => a.el.all (fun e => e % 2 == 1))).getD false
  let caps := (t.1.map (tmCaps (s3.get (tmBand r)))).getD []
  let dis := if full then tmDiscords s3 r caps else []
  let s4 := if full then tmShowPairs r tF caps dis s3 else s3
  let s5 := tmCalFrame r (full && dis.length ≤ s4.fget (tmCheck r) 15 8) caps s4
  let cause := tmCause s5 r t.1 dis.length
  let s6 := { s5 with fresh := s5.fresh + 120 }
  if cause ≠ 0 then tmSync r (tmInvalid r tF cause s6)
  else
    let m := tmMethod s6 r tF
    let lost := m.1 == 4 && !(s6.tch r).tRep
    let s7 := (if lost then s6.raiseAt tF 0x46 sevWarn 0 (tmObj r) 0 else s6).setTch r m.2
    let ce := s7.get (tmCalE r)
    let cf := s7.get (tmCalF r)
    let lam := (numbered caps).map (fun x =>
      tmLambda (s7.fresh + x.1) (toS 32 (entry ce 32 x.1)) (toS 32 (entry cf 32 x.1)) x.2)
    let s8 := { s7 with fresh := s7.fresh + 120 }
    let k := tmKernel s8 r tF s8.clk.tb dis.length lam m.1
    let s9 := { s8 with fresh := s8.fresh + 10000 }
    tmSync r (s9.setTch r { s9.tch r with run := some k })

/-- A frame this module acquires for the module in a Rime slot (R144, R317): the admittances are sent at t_F + 30 µs; while an
electrode's zone throttles, only at every second boundary (R130). -/
def tmFrameFor (r slot period : Nat) (p : TomoPlan) (s0 : Block) : Block :=
  let w := period * (if elecThr s0 p.elec then 2 else 1)
  let tF := s0.clk.tb / period * period
  if tF % w ≠ 0 then s0
  else
  let s1 := s0.advanceTb (tF + 30000)
  let a := tmAcquire s1 p tF w
  let s2 := p.elec.foldl (tmForget tF) s1
  { s2 with fresh := s2.fresh + 512 }.emit (.rime slot (rimeBytes 3 (rmSlot s2) slot r tF (admBytes a)))

/-- TOMO_FRAME (R130 to R133, R136, R138, R142, R144): of this module's ring `r` (slot 15; `thr`: an FE zone of its acquiring
module throttles it, where that is another), or of the ring `r` it acquires for the module in a Rime slot, whose frame period
the plan does not carry. -/
def execTomoFrame (r slot period : Nat) (thr : Bool) (s : State) : Res := onBlock s fun s =>
  if 12 ≤ r then .next s
  else if slot = 0xF then
    (if tmRuns s r then .next (tmFrameOwn r (s.setTch r { s.tch r with rthr := thr })) else .next s)
  else match s.tomo.plans.find? (fun p => p.owner == slot && p.ring == r) with
    | some p => if period = 0 then .next s else .next (tmFrameFor r slot period p s)
    | none => .next s

/-- SUMMARY of a frame (the *Other TOMO[r] attributes* table), AGE apart. -/
def tmSummaryWord (f : TomoRun) : Nat :=
  let mx := f.pix.foldl max (f.pix.headD 0)
  let mn := f.pix.foldl min (f.pix.headD 0)
  pack [(f.ts % 2 ^ 64, 0), (satS 16 (rdivI (sumI f.pix) f.pix.length), 64), (satS 16 mn, 80), (satS 16 mx, 96),
    (f.pix.idxOf mx, 112), ((match f.temp with | some t => satS 16 t | none => 0x8000), 128), (f.resid, 144),
    (satU 8 f.disc, 160), (f.iter, 168), (b2n (f.row ≠ 2 ∧ f.row ≠ 6), 176), (b2n f.part, 177), (b2n f.unk, 178),
    (b2n f.high, 179)]

/-- Whether a frame is SUSPECT. -/
def tmSuspect (f : TomoRun) : Bool := f.part || f.unk || f.high || f.disc != 0

/-- A frame taken into the map record of the period (R145): VALID frames are averaged, SUSPECT ones noted. -/
def tmAccum (f : TomoRun) (c : TomoCh) : TomoCh :=
  let fl := fun (k : Nat) (b : Bool) (v : Nat) => if b then setBit v k true else v
  if tmSuspect f then { c with mapFlag := fl 0 true c.mapFlag }
  else { c with
    mapSum := List.zipWith (· + ·) (if c.mapSum.isEmpty then zeroRow else c.mapSum) f.pix
    mapCnt := c.mapCnt + 1
    mapFlag := fl 1 f.thr (fl 2 (f.row != 2 && f.row != 6) c.mapFlag)
    mapTemp := match f.temp with | some t => (c.mapTemp.1 + t, c.mapTemp.2 + 1) | none => c.mapTemp }

/-- The map of a finished kernel issued (R142): the ring after it. -/
def tmPublish (r : Nat) (f : TomoRun) (s : Block) : Block :=
  let c := s.tch r
  let before := s.fget (tmSummary r) 63 0 ≠ 0
  let sus := tmSuspect f
  let s1 := ((s.put (tmMap r) (packL 16 (f.pix.map (ofS 16)))).put (tmPerm r) (packL 16 f.perm)).put (tmSummary r) (tmSummaryWord f)
  let s2 := s1.put (tmStat r) (setFld (setFld (s1.get (tmStat r)) 9 8 (b2n sus)) 7 7 (b2n f.thr))
  let s3 := if sus then s2.countUp (tmCount r) 63 32 else s2.countUp (tmCount r) 31 0
  let s4 := s3.setTch r { tmAccum f c with good := true, run := none }
  if before && !c.good then s4.raiseAt f.ts 0x61 sevInfo 0 (tmObj r) 0 else s4

/-- The end of a ring's kernel: the machine, and the frame it delivered. A background kernel past the next frame boundary is
discarded; a class D kernel's map waits for its class to publish (R138, R169). -/
def tmKernelDone (r : Nat) (s : Block) : Block × Option TomoRun :=
  match (s.tch r).run with
  | none => (s, none)
  | some f =>
    let s1 := s.advanceTb f.due
    if !s.bit (tmCfg r) 1 then (s1, none)
    else if f.limit < s1.clk.tb then (tmDiscard r s1, none) else (tmPublish r f s1, some f)

/-- The check of a CMD (R146): `op` 1 CAL_EMPTY, 2 CAL_FULL, 3 RESTART. -/
def tmCmdCheck (o : Origin) (op r n : Nat) (s : Block) : Nat :=
  firstErr [need (op == 3 || s.modeNo == 5) 0x0301,
    need (s.bit (tmStat r) 0) 0x0303,
    need (op != 2 || (s.tch r).hasE) 0x0303,
    need (op == 3 || (1 ≤ n && n ≤ 255)) 0x0201,
    need (s.ownsService o) 0x0401,
    need ((s.tch r).calOp == 0) 0x0401]

/-- A calibration starts (R133). -/
def tmCalAct (op r n : Nat) (s : Block) : Block :=
  let c := s.tch r
  tmSync r ((s.put (tmCalStat r) 1).setTch r { c with calOp := op, calN := n, calUsed := 0, calFrom := s.clk.tb, calSum := [] })

/-- CAL_EMPTY (R133). -/
def execCalEmpty (i r n : Nat) (s : State) : Res := onBlock s fun s =>
  hostCommand i (tmCmd r) false (tmCmdCheck (.sess i) 1 r n) (tmCalAct 1 r n) noRefuse s

/-- CAL_FULL (R133). -/
def execCalFull (i r n : Nat) (s : State) : Res := onBlock s fun s =>
  hostCommand i (tmCmd r) false (tmCmdCheck (.sess i) 2 r n) (tmCalAct 2 r n) noRefuse s

/-- TOMO_RESTART (R129). -/
def execTomoRestart (i r : Nat) (s : State) : Res := onBlock s fun s =>
  hostCommand i (tmCmd r) false (tmCmdCheck (.sess i) 3 r 0) (tmRestart r) noRefuse s

/-- TOMO_CAL_DONE (R133): with its frames taken, or after 2N + 10 frame periods without them. -/
def execTomoCalDone (r : Nat) (s : State) : Res := onBlock s fun s =>
  if 12 ≤ r then .next s
  else
    let c := s.tch r
    if c.calOp = 0 then .next s
    else
      let fullN := c.calN ≤ c.calUsed
      let s0 := if fullN then s else s.advanceTb (c.calFrom + (2 * c.calN + 10) * tmPeriod s r)
      let a := if c.calOp = 1 then tmCalE r else tmCalF r
      let new := c.calSum.map (fun x => rdivI x (2 * c.calUsed))
      let has := if c.calOp = 1 then c.hasF else c.hasE
      let old := s0.get (if c.calOp = 1 then tmCalF r else tmCalE r)
      let span := !has || (numbered new).all (fun x => decide (1000 ≤ (toS 32 (entry old 32 x.1) - x.2).natAbs))
      let ok := fullN && span
      let res := if ok then 0 else 0x0201
      let c1 := { s0.tch r with calOp := 0, calSum := [] }
      let s1 := if ok then
          ((s0.put a (packL 32 (new.map (satS 32)))).markVol a).setTch r
            (if c.calOp = 1 then { c1 with hasE := true } else { c1 with hasF := true })
        else s0.setTch r c1
      let s2 := s1.put (tmCalStat r) (pack [(if ok then 2 else 3, 0), (res, 16)])
      .next (tmSync r (s2.raise 0x65 (if ok then sevInfo else sevFault) (tmObj r) (pack [(c.calOp, 0), (res, 16)])))

/-- The check of a sensitivity matrix (R135, R146). -/
def tmSensCheck (t : Table) (s : Block) : Nat :=
  firstErr [need (s.modeNo == 1 || s.modeNo == 5) 0x0301,
    need (t.ttype == 2 && t.efmt == 3) 0x0202,
    need (t.rows == 120 && t.cols == 812 && t.elems.length == 97440) 0x0204,
    need ((tmWeights (rowsOf 812 120 t.elems)).all (fun w => decide (0 < w))) 0x0201]

/-- A sensitivity matrix loaded (R135). -/
def tmSensAct (r : Nat) (t : Table) (s : Block) : Block :=
  let n := tmNorm2Of s.fresh (rowsOf 812 120 t.elems)
  let s1 := { s with fresh := s.fresh + 813 }
  tmRestart r (((s1.putTab (tmSens r) t).put (tmNorm2 r) n).markVol (tmSens r))

/-- TOMO_SENS_WRITE (R135). -/
def execTomoSensWrite (i r : Nat) (t : Table) (s : State) : Res := onBlock s fun s =>
  hostCommand i (tmSens r) false (tmSensCheck t) (tmSensAct r t) noRefuse s

/-- The tomography map record (1656 bytes). -/
def tmMapRec (s : Block) (r tP : Nat) : List Byte :=
  let c := s.tch r
  let pix := if c.mapCnt = 0 then List.replicate 812 0x8000 else c.mapSum.map (fun x => satS 16 (rdiv x c.mapCnt))
  let v := pix.map (toS 16)
  let mx := v.foldl max (v.headD 0)
  let mn := v.foldl min (v.headD 0)
  let mean := rdiv (sumI v) 812
  let temp := if c.mapTemp.2 = 0 then 0x8000 else satS 16 (rdiv c.mapTemp.1 c.mapTemp.2)
  let b := leBytes 8 tP ++ leBytes 2 s.img.node ++ leBytes 1 r ++ leBytes 1 c.mapFlag ++ leBytes 2 (satU 16 c.mapCnt) ++
    leBytes 1 (s.fget (tmCfg r) 15 12) ++ leBytes 1 (tmFillNow s r) ++ leBytes 2 (satS 16 mean) ++
    leBytes 2 (satS 16 mn) ++ leBytes 2 (satS 16 mx) ++ leBytes 2 (v.idxOf mx) ++ leBytes 2 temp ++ zeros 2 ++
    (pix.map (leBytes 2)).flatten
  b ++ leBytes 4 (crc32 b)

/-- TOMO_MAP_RECORD (R145): a MAP_PERIOD multiple of an enabled ring. -/
def execTomoMapRecord (r : Nat) (s : State) : Res := onBlock s fun s =>
  if 12 ≤ r then .next s
  else if s.phase ≠ .active ∨ !s.bit (tmCfg r) 0 then .next s
  else
    let p := s.fget (tmFrame r) 63 32 * nsPerS
    let tP := dueMultiple p (s.tch r).mapAt s.clk.tb
    let s1 := s.advanceTb tP
    let c := s1.tch r
    let s2 := s1.firnWrite 3 ⟨tP, r, tmMapRec s1 r tP⟩
    let s3 := s2.setTch r { c with mapAt := tP, mapSum := [], mapCnt := 0, mapFlag := 0, mapTemp := (0, 0) }
    .next (if c.mapCnt = 0 then s3.raiseAt tP 0x68 sevWarn 0 (tmObj r) 0 else s3)

/-- The Rime port toward a slot (R315): port p of slot s joins slot (s + p + 1) mod 4. -/
def rmPortTo (s : Block) (slot : Nat) : Nat := (slot + 3 - rmSlot s) % 4
/-- Whether frames pass between this module and a slot. -/
def rmUp (s : Block) (slot : Nat) : Bool :=
  let p := rmPortTo s slot
  p < 3 && slot != rmSlot s && s.bit (rmPort p) 0 && s.bit (rmPort p) 2

/-- The plan SETUP carries for a remote ring. -/
def tmSetupPlan (s : Block) (r : Nat) : TomoPlan :=
  { owner := rmSlot s, ring := r, elec := tmElecs s r, band := s.get (tmBand r), pset := s.bit (tmCfg r) 2
    phases := s.get (tmPhases r), rate := s.fget (tmCfg r) 19 16 }

/-- Sends the set-up of a remote ring that waits for it (R144). -/
def tmSendSetup (r : Nat) (s : Block) : Block :=
  let c := s.tch r
  if s.bit (tmCfg r) 0 && tmSlot s r < 4 && !s.bit (tmStat r) 1 && rmUp s (tmSlot s r) then
    tmSync r ((s.setTch r { c with setup := 1, setupAt := s.clk.raw }).emit
      (.rime (tmSlot s r) (rimeBytes 1 (rmSlot s) (tmSlot s r) r s.clk.tb (setupBytes (tmSetupPlan s r)))))
  else s

/-- TOMO_RIME_SETUP (R144). -/
def execTomoRimeSetup (r : Nat) (s : State) : Res := onBlock s fun s =>
  if 12 ≤ r then .next s
  else if s.phase ≠ .active ∨ (s.tch r).setup ≠ 0 then .next s
  else .next (tmSendSetup r s)

/-- The first electrode of a received plan that fails the check of R144, if any. -/
def tmPlanBad (s : Block) (p : TomoPlan) : Option Nat :=
  let others := (tmPlans s).filter (fun q => !(q.owner == p.owner && q.ring == p.ring))
  ((numbered p.elec).find? (fun e =>
    48 ≤ e.2 || feTyp s e.2 != 6 || others.any (fun q => q.elec.contains e.2))).map (fun e => e.1)

/-- STATE of every TOMO channel brought up to date: one that no plan names is OFF (R123). -/
def tmChans (s : Block) : Block := (List.range 48).foldl (fun y n => if feTyp y n = 6 then feSync n y else y) s

/-- SETUP_ACK of a plan (R144, R317). -/
def setupAnswer (p : TomoPlan) (result elec : Nat) (s : Block) : Block :=
  s.emit (.rime p.owner (rimeBytes 2 (rmSlot s) p.owner p.ring s.clk.tb (setupAckBytes result elec)))

/-- RIME_SETUP (R144): the acquiring module checks a plan, applies it at one restart and answers. -/
def execRimeSetup (p : TomoPlan) (s : State) : Res := onBlock s fun s =>
  if s.phase ≠ .active then .next s
  else match tmPlanBad s p with
    | some e => .next (setupAnswer p 0x0206 e s)
    | none =>
      let ps := p :: s.tomo.plans.filter (fun q => !(q.owner == p.owner && q.ring == p.ring))
      let s1 := tmChans { s with tomo := { s.tomo with plans := ps } }
      .next (setupAnswer p 0 0 (ringRestart p 0xFF s1))

/-- RIME_SETUP_ACK (R144, R317): the result for ring `r`, with the failing electrode. -/
def execRimeSetupAck (r result elec : Nat) (s : State) : Res := onBlock s fun s =>
  if 12 ≤ r then .next s
  else if (s.tch r).setup ≠ 1 then .next s
  else if result = 0 then .next (tmSync r (s.setTch r { s.tch r with setup := 2 }))
  else
    let s1 := (s.putBit (tmStat r) 1 true).setTch r { s.tch r with setup := 0 }
    .next (tmSync r (s1.raise 0x69 sevFault (tmObj r) (pack [(elec % 256, 0), (result % 65536, 16)])))

/-- RIME_ADMIT (R317): an ADMIT for ring `r` from a slot, for the frame boundary `ts`; late after t_F + 60 µs. -/
def execRimeAdmit (slot r ts : Nat) (payload : List Byte) (s : State) : Res := onBlock s fun s =>
  if 12 ≤ r then .next s
  else if tmSlot s r ≠ slot ∨ !tmRuns s r ∨ payload.length ≠ 2304 ∨ ts + 60000 < s.clk.tb ∨ ts ≤ (s.tch r).last then .next s
  else .next (s.setTch r { s.tch r with adm := some (admOf ts payload) })

/-- Own-value checks of a ring attribute beyond its fields (R125, R136, R146). -/
def tmOwn (a : Attr) (v : Nat) : Nat :=
  match a.att with
  | 0x020 => need (fld v 11 8 ≤ 3 || fld v 11 8 == 0xF) 0x0201
  | 0x021 => need ((List.range 16).all (fun e => entry v 8 e ≤ 47)) 0x0201
  | 0x022 => need (34359738 ≤ fld v 31 0 && fld v 31 0 ≤ 666578924) 0x0201
  | 0x025 => need (fld v 31 0 < 2 ^ 31 && 2 ^ 30 ≤ fld v 63 32 && fld v 63 32 ≤ 3 * 2 ^ 29) 0x0201
  | 0x027 => need ((List.range 4).all (fun k => entry v 8 k ≤ 47 || entry v 8 k == 0xFF)) 0x0201
  | 0x028 => need (fld v 7 0 ≤ 47 || fld v 7 0 == 0xFF) 0x0201
  | 0x029 => need (fld v 31 0 < fld v 63 32) 0x0201
  | _ => 0

/-- R128 between two rings: no tone of one within f_out of a tone of the other. -/
def bandsApart (b1 c1 b2 c2 : Nat) : Bool :=
  let fo := hzScale (feHz (max c1 c2))
  (List.range 16).all (fun j => (List.range 16).all (fun k => fo < natDist (ftwScale (tmFtw b1 j)) (ftwScale (tmFtw b2 k))))

/-- R128 for a ring against the enabled rings of the same SILO. -/
def tmSiloOk (s : Block) (r : Nat) : Bool :=
  !s.bit (tmCfg r) 0 || (List.range 12).all (fun q =>
    q == r || !s.bit (tmCfg q) 0 || s.fget (tmCfg q) 31 24 != s.fget (tmCfg r) 31 24 ||
    bandsApart (s.get (tmBand r)) (s.fget (tmCfg r) 19 16) (s.get (tmBand q)) (s.fget (tmCfg q) 19 16))

/-- The electrodes of a ring (R123, R146): local TOMO channels, each owned once. -/
def tmElecOk (s : Block) (r : Nat) : Bool :=
  let el := tmElecs s r
  tmSlot s r != 0xF ||
  (el.all (fun n => feTyp s n == 6) && el.eraseDups.length == 16 &&
   (!s.bit (tmCfg r) 0 || (tmPlans s).all (fun p => (p.owner == 0xF && p.ring == r) || el.all (fun n => !p.elec.contains n))))

/-- P of a ring as its registers stand (R127). -/
def tmPeakOk (s : Block) (r : Nat) : Bool := peakOk (s.fget (tmBand r) 47 32) (s.bit (tmCfg r) 2) (s.get (tmPhases r))

/-- Checks of a ring attribute that involve others, on the state the write leaves (R127, R128, R136, R146). -/
def tmCross (a : Attr) (s : Block) : List Nat :=
  let r := a.idx
  match a.att with
  | 0x020 => [need (tmPeakOk s r) 0x0201, need (tmSiloOk s r) 0x0201, need (!s.bit (tmCfg r) 0 || tmElecOk s r) 0x0206]
  | 0x021 => [need (tmElecOk s r) 0x0206]
  | 0x022 => [need (tmPeakOk s r) 0x0201, need (tmSiloOk s r) 0x0201]
  | 0x023 => [need (tmPeakOk s r) 0x0201]
  | 0x025 => [need (s.fget (tmRecon r) 31 0 * s.get (tmNorm2 r) < 2 ^ 61) 0x0201]
  | 0x027 => [need ((tmSources s r).all (fun n => isRes (feTyp s n))) 0x0206]
  | 0x028 => [need (s.fget (tmFill r) 7 0 == 0xFF || s.fget (feLin (s.fget (tmFill r) 7 0)) 23 20 == 4) 0x0206]
  | _ => []

/-- Effects of a write of a ring attribute (R127, R129, R144, R146). A disabled ring has no frame boundaries: what waits for one is
taken at once; a calibration in progress goes on to its deadline (R133). -/
def tmWritten (a : Attr) (s : Block) : Block :=
  let r := a.idx
  let peak := fun (x : Block) =>
    x.fput (tmStat r) 31 16 (satU 16 (peakMv (x.fget (tmBand r) 47 32) (x.bit (tmCfg r) 2) (x.get (tmPhases r))))
  let clr := fun (x : Block) => x.putBit (tmStat r) 1 false
  match a.att with
  | 0x020 =>
    let s1 := tmChans (peak (clr s))
    if s1.bit (tmCfg r) 0 then
      tmFillSync s1.clk.tb r (tmRestart r (s1.setTch r { s1.tch r with last := s1.clk.tb, mapAt := s1.clk.tb }))
    else tmSync r (tmTakeIf r (fun _ => true) (s1.setTch r { s1.tch r with run := none, adm := none, setup := 0 }))
  | 0x021 => tmRestart r (tmChans (clr s))
  | 0x022 => tmRestart r (peak (clr s))
  | 0x023 => tmRestart r (peak (clr s))
  | 0x02A => tmRestart r (s.setTch r { s.tch r with hasE := true })
  | 0x02B => tmRestart r (s.setTch r { s.tch r with hasF := true })
  | _ => s

end Sys2Proof.Machine
end

