-- ==== Sys2Proof/Machine/Line.lean ====
section
/-! DEFINITION. Machine/Line.lean: parcels, motion, air, drying, the observer and the discharge rate of a line (chapter 08,
R177 to R194, R200). The programs, commands and checkpoints stand in LineProg.lean. -/

namespace Sys2Proof.Machine

/-- The flag bits of a parcel. -/
abbrev pfVoid : Nat := 0
abbrev pfInletEst : Nat := 1
abbrev pfMixed : Nat := 2
abbrev pfSynth : Nat := 3
abbrev pfResumed : Nat := 4
abbrev pfCapped : Nat := 5
abbrev pfReversed : Nat := 6
abbrev pfHot : Nat := 7
abbrev pfOverdry : Nat := 8
abbrev pfDiverted : Nat := 9

/-- Whether a position holds grain. -/
def Parcel.grain (p : Parcel) : Bool := !bitAt p.flags pfVoid
/-- A parcel with a flag set. -/
def Parcel.flag (p : Parcel) (k : Nat) : Parcel := { p with flags := setBit p.flags k true }
/-- Whether a parcel has a flag. -/
def Parcel.has (p : Parcel) (k : Nat) : Bool := bitAt p.flags k
/-- M in 0.01 % (R178). -/
def Parcel.m100 (p : Parcel) : Int := rdiv p.m 65536

/-- The 64 bytes of a parcel record. -/
def parcelBytes (p : Parcel) : List Byte :=
  let b := leBytes 8 p.tsEntry ++ leBytes 4 p.serial ++ leBytes 4 (clampI 0 4294967295 p.m).toNat ++
    leBytes 4 (clampI 0 4294967295 p.mIn).toNat ++ leBytes 4 (satS 32 p.corr) ++ leBytes 2 (satS 16 p.theta) ++
    leBytes 1 p.crop ++ zeros 1 ++ leBytes 2 p.flags ++ zeros 2 ++ (p.zt.map (leBytes 4)).flatten ++ leBytes 4 p.dm ++ zeros 8
  b ++ leBytes 4 (crc32 b)

/-- Line l. -/
def Block.nch (s : Block) (l : Nat) : LineCh := getL s.line.ch l lineCh0
/-- The machine with line l replaced. -/
def Block.setNch (s : Block) (l : Nat) (c : LineCh) : Block := { s with line := { s.line with ch := setAt s.line.ch l c } }

/-- Whether a line is enabled and READY. -/
def lnOn (s : Block) (l : Nat) : Bool := s.bit (lnCfg l) 0 && s.bit (lnStat l) 0
/-- PROG of the configuration: 0 BATCH, 1 FLOW, 2 STORE. -/
def lnProg (s : Block) (l : Nat) : Nat := s.fget (lnCfg l) 2 1
/-- N. -/
def lnN (s : Block) (l : Nat) : Nat := s.fget (lnCfg l) 17 8
/-- The inflow crop set (R183). -/
def lnCrop (s : Block) (l : Nat) : Nat := s.fget (lnCfg l) 23 20
/-- V_p in µL. -/
def lnVp (s : Block) (l : Nat) : Nat := s.fget (lnGeom l) 31 0 * 1000000 / max 1 (lnN s l)
/-- OBS.POS. -/
def lnObsPos (s : Block) (l : Nat) : Nat := s.fget (lnObs l) 57 48
/-- The line's TARGET in 0.01 %. -/
def lnTarget (s : Block) (l : Nat) : Nat := s.fget (lnDisch l) 143 128

/-- The line signature (R201): the CRC-32 of CFG, GEOM and ZONE0 to ZONE3. -/
def lnSig (s : Block) (l : Nat) : Nat :=
  crc32 (leBytes 8 (s.get (lnCfg l)) ++ leBytes 16 (s.get (lnGeom l)) ++
    ((List.range 4).map (fun z => leBytes 32 (s.get (lnZone l z)))).flatten)

/-- The same with CROP left out: what a running line is held to, since a new CROP alone keeps its grain (R183, log entry 47). -/
def lnSigRun (s : Block) (l : Nat) : Nat := lnSig (s.fput (lnCfg l) 23 20 0) l

/-- A line with every position VOID and in IDLE (R202, R203); the crop sets in force for FE channels stay (R188). -/
def lineVoid (s : Block) (l : Nat) : LineCh :=
  let c := s.nch l
  { lineCh0 with pos := List.replicate (lnN s l) parcelVoid, sig := lnSig s l, sigRun := lnSigRun s l
                 cropFe := c.cropFe, cropObs := c.cropObs, cropEnd := c.cropEnd, own := c.own }

/-- The words of a crop set. -/
def cropW (s : Block) (c k : Nat) : Int := getL ((s.elems (cropSet c)).getD []) k 0
/-- THETA_MAX of a crop set. -/
def cropThMax (s : Block) (c : Nat) : Int := cropW s c 12
/-- The target of a crop set on a line, in 0.01 % × 2^−16. -/
def lnCropTarget (s : Block) (l c : Nat) : Int := (if cropW s c 15 = 0 then (lnTarget s l : Int) else cropW s c 15) * 65536

/-- A percentage of the moisture format as a real. -/
def fxPct (m : Int) : Fx := fxQ m 6553600

/-- p_s(T) in Pa (R185); free at the pole of its formula. -/
def satPress (f : Nat) (t : Fx) : Fx :=
  let d := t + fxQ 24304 100
  if d = 0 then (Config.freeNat f : Int)
  else fxMul (fxQ 61094 100) (fxExp (fxDiv (fxMul (fxQ 17625 1000) t) d))

/-- M_e in % wet basis of a crop set in air of T (0.01 °C) and RH (R186); free where the formula has no value. -/
def moistEq (s : Block) (f c : Nat) (t rh : Fx) : Fx :=
  let a := fxQ (cropW s c 5) 1000000000
  let den := fxMul a (t + fxQ (cropW s c 7) 100)
  let num := -(fxLn (fxU - rh))
  if den ≤ 0 ∨ num < 0 ∨ cropW s c 6 ≤ 0 then (Config.freeNat f : Int)
  else
    let db := fxPow (fxDiv num den) (fxQ 1000000 (cropW s c 6))
    fxDiv (100 * db) (100 * fxU + db)

/-- k in s⁻¹ of a crop set under air of T (°C) and Q over Q_NOM (R186); free at and below absolute zero. -/
def dryRate (s : Block) (f c : Nat) (t : Fx) (q qn : Int) : Fx :=
  let ta := t + fxQ 27315 100
  if q ≤ 0 then 0
  else if ta ≤ 0 ∨ qn ≤ 0 then (Config.freeNat f : Int)
  else
    let e := fxExp (-(fxDiv (fxQ (cropW s c 9) 100) ta))
    let r := if cropW s c 10 = 0 then fxU else fxPow (fxQ q qn) (fxQ (cropW s c 10) 1000000)
    fxMul (fxMul (fxQ (cropW s c 8) 1000000000) e) r

/-- The air a position sees: temperature in °C, RH, Q and Q_NOM in 0.1 m³/h. A position without air flow has Q = 0. -/
structure Air where
  t  : Fx
  rh : Fx
  q  : Int
  qn : Int
deriving DecidableEq, Repr

/-- The zone of a position: the first used zone that covers it. -/
def zoneAt (s : Block) (l p : Nat) : Option Nat :=
  (List.range 4).find? (fun z =>
    let v := s.get (lnZone l z)
    fld v 27 26 != 0 && fld v 9 0 ≤ p && p ≤ fld v 25 16)

/-- KIND of a zone: 1 HEAT, 2 COOL, 3 TEMPER. -/
def zoneKind (s : Block) (l z : Nat) : Nat := s.fget (lnZone l z) 27 26
/-- T_SP of a zone. -/
def zoneTsp (s : Block) (l z : Nat) : Int := toS 32 (s.fget (lnZone l z) 223 192)
/-- Q_NOM of a zone in 0.1 m³/h. -/
def zoneQn (s : Block) (l z : Nat) : Int := (s.fget (lnZone l z) 191 160 * 10 : Nat)

/-- The longest AIR_AGE of a line's used zones in ns: MAX_AGE of its ambient sources (log entry 36). -/
def lnAge (s : Block) (l : Nat) : Nat :=
  ((List.range 4).foldl (fun m z => if zoneKind s l z = 0 then m else max m (s.fget (lnZone l z) 95 80)) 0) * nsPerS

/-- The air of a zone in a step (R185), and whether it is estimated. -/
def zoneAir (s : Block) (l : Nat) (c : LineCh) (i : LineIn) (z : Nat) : Air × Bool :=
  let k := zoneKind s l z
  let v := getL i.zones z (none, none, 0)
  let amb : Int := match c.ambT with | some t => t | none => toS 16 (Config.freeNat s.fresh)
  let arh : Int := match c.ambRh with | some r => r | none => (Config.freeNat (s.fresh + 1) % 1000000 : Nat)
  let t := match v.1 with | some t => t | none => if k = 1 then zoneTsp s l z else amb
  let rh0 := match v.2.1 with
    | some r => fxQ r 1000000
    | none =>
      let ps := satPress (s.fresh + 2) (fxQ t 100)
      let pv := fxMul (fxQ arh 1000000) (satPress (s.fresh + 3) (fxQ amb 100))
      if ps ≤ 0 then (Config.freeNat (s.fresh + 4) : Int) else fxDiv pv ps
  let est := (v.1.isNone || i.ambT.isNone || i.ambRh.isNone) && k != 3
  (⟨fxQ t 100, clampI 0 (fxQ 999 1000) rh0, if k = 3 then 0 else v.2.2, zoneQn s l z⟩, est)

/-- Still air. -/
def airNone : Air := ⟨0, 0, 0, 1⟩

/-- A parcel formed on a line (R182, R183): the crop set, whether it is MIXED, and the mean values. -/
def parcelForm (s : Block) (l ts : Nat) (c : LineCh) (crop : Nat) (mixed : Bool) (vol : Nat) : Parcel :=
  let cfg := s.get (lnInlet l)
  let mdef : Int := (fld cfg 63 48 : Int) * 65536
  let lo := cropW s crop 16 * 65536
  let hi := cropW s crop 17 * 65536
  let vals := c.inVals.map (fun v => v.2 * 65536)
  let bad := vals.isEmpty || vals.any (fun v => decide (v < lo ∨ hi < v))
  let m := if vals.isEmpty then mdef
    else rdivI (sumI (vals.map (fun v => if v < lo ∨ hi < v then mdef else v))) vals.length
  let amb : Int := match c.ambT with | some t => t | none => toS 16 (Config.freeNat s.fresh)
  let th := if fld cfg 95 64 = 0 then amb
    else if c.gtVals.isEmpty then toS 16 (Config.freeNat (s.fresh + 7100 + c.serial % 512))
    else rdivI (sumI (c.gtVals.map (fun v => v.2))) c.gtVals.length
  let p : Parcel :=
    { tsEntry := ts, serial := c.serial, m := m, mIn := m, corr := 0, theta := th, crop := crop, flags := 0,
      zt := [0, 0, 0, 0], dm := (clampI 0 4294967295 (rdiv (vol * cropW s crop 13 * (655360000 - m)) (655360000 * 10 ^ 8))).toNat
      meas := none }
  let p1 := if bad then p.flag pfInletEst else p
  if mixed then p1.flag pfMixed else p1

/-- The crop set of a parcel whose inflow interval is `segs` (crop, volume; oldest first), and whether it is MIXED (R183). -/
def inflowCrop (s : Block) (vp dflt : Nat) (segs : List (Nat × Nat)) : Nat × Bool :=
  let crops := (segs.map (fun e => e.1)).eraseDups
  let share := fun (c : Nat) => sumN ((segs.filter (fun e => e.1 == c)).map (fun e => e.2))
  match crops with
  | [] => (dflt, false)
  | c0 :: r =>
    let best := r.foldl (fun b c => if share b < share c then c else b) c0
    let total := sumN (segs.map (fun e => e.2))
    if vp < 10 * (total - share best) then
      (r.foldl (fun b c => if cropThMax s c ≤ cropThMax s b then c else b) c0, true)
    else (best, false)

/-- Takes a volume from the front of the inflow. -/
def inflowTake : List (Nat × Nat) → Nat → List (Nat × Nat) × List (Nat × Nat)
  | [], _ => ([], [])
  | (c, v) :: r, n =>
    if n = 0 then ([], (c, v) :: r)
    else if n < v then ([(c, n)], (c, v - n) :: r)
    else let t := inflowTake r (n - v); ((c, v) :: t.1, t.2)

/-- What a step's motion does beside moving parcels: the parcels that exited (first exit first), those that left OBS.POS
with the interval they occupied it, the counts of shifts, the SYNTH parcels, and the parcels that opened a new crop. -/
structure Moves where
  ch    : LineCh
  exits : List Parcel
  left  : List (Nat × Nat)       -- serial, start of the interval
  fwd   : Nat
  rev   : Nat
  synth : Nat
  crops : List (Nat × Bool)

/-- Notes a parcel formed with a crop set other than the last one's (*CROP* events of R203). -/
def noteCrop (m : Moves) (p : Parcel) : Moves :=
  let c := m.ch
  if p.grain && c.lastCrp.isSome && c.lastCrp != some p.crop then
    { m with ch := { c with lastCrp := some p.crop, cropSer := some p.serial }, crops := m.crops ++ [(p.crop, p.has pfMixed)] }
  else if p.grain then { m with ch := { c with lastCrp := some p.crop } }
  else m

/-- The parcel a formation at the inlet gives and the line after it (R182, R183). -/
def lineForm (s : Block) (l ts vol : Nat) (void : Bool) (c : LineCh) : Parcel × LineCh :=
  let t := inflowTake c.inflow vol
  let k := inflowCrop s (lnVp s l) (lnCrop s l) t.1
  let c1 := { c with inflow := t.2, inVals := [], gtVals := [] }
  if void then (parcelVoid, c1)
  else (parcelForm s l ts c k.1 k.2 vol, { c1 with serial := (c.serial + 1) % 2 ^ 32 })

/-- A shift moves the occupant of OBS.POS: the parcel that left it, and the arrival of the next at `ts`. -/
def noteLeft (op ts : Nat) (old : List Parcel) (m : Moves) : Moves :=
  match old[op]? with
  | some p => { m with left := if p.grain then m.left ++ [(p.serial, m.ch.occFrom)] else m.left
                       ch := { m.ch with occFrom := ts } }
  | none => m

/-- One forward shift (R181). `void`: the parcel formed is VOID. -/
def shiftFwd (s : Block) (l ts : Nat) (void : Bool) (m : Moves) : Moves :=
  let c := m.ch
  let out := c.pos.getLastD parcelVoid
  let c1 := { c with exitB := (out :: c.exitB).take 8, lastExT := if out.grain then out.theta else c.lastExT }
  let m1 := noteLeft (lnObsPos s l) ts c.pos { m with ch := c1, exits := m.exits ++ [out], fwd := m.fwd + 1 }
  let c2 := m1.ch
  match c2.retB with
  | p :: r =>
    { m1 with ch := { c2 with pos := p :: c.pos.dropLast, retB := r, inflow := (inflowTake c2.inflow (lnVp s l)).2 } }
  | [] =>
    let f := lineForm s l ts (lnVp s l) void c2
    noteCrop { m1 with ch := { f.2 with pos := f.1 :: c.pos.dropLast } } f.1

/-- One reverse shift (R181). -/
def shiftRev (s : Block) (l ts : Nat) (m : Moves) : Moves :=
  let c := m.ch
  let first := c.pos.headD parcelVoid
  let c1 := { c with retB := (first :: c.retB).take 8 }
  let m1 := noteLeft (lnObsPos s l) ts c.pos { m with ch := c1, rev := m.rev + 1 }
  let c2 := m1.ch
  match c2.exitB with
  | p :: r => { m1 with ch := { c2 with pos := c.pos.drop 1 ++ [p.flag pfReversed], exitB := r } }
  | [] =>
    let mo := match c2.lastOut with | some v => v | none => lnCropTarget s l (lnCrop s l)
    let p : Parcel :=
      { tsEntry := ts, serial := c2.serial, m := mo, mIn := mo, corr := 0, theta := c2.lastExT, crop := lnCrop s l
        flags := 2 ^ pfSynth, zt := [0, 0, 0, 0]
        dm := (clampI 0 4294967295 (rdiv (lnVp s l * cropW s (lnCrop s l) 13 * (655360000 - mo)) (655360000 * 10 ^ 8))).toNat
        meas := none }
    { m1 with ch := { c2 with pos := c.pos.drop 1 ++ [p], serial := (c2.serial + 1) % 2 ^ 32 }, synth := m1.synth + 1 }

/-- Motion of a FLOW line by a volume (R181). -/
def moveFlow (s : Block) (l ts : Nat) (dv : Int) (void : Bool) (c : LineCh) : Moves :=
  let vp : Int := lnVp s l
  let inflow := if 0 < dv then c.inflow ++ [(lnCrop s l, dv.toNat)]
    else (inflowTake c.inflow (sumN (c.inflow.map (fun e => e.2)) - dv.natAbs)).1
  let o := c.ofs + dv
  let n := if vp = 0 then 0 else o / vp
  let m0 : Moves := ⟨{ c with inflow := inflow, ofs := if vp = 0 then o else o - n * vp }, [], [], 0, 0, 0, []⟩
  if 0 ≤ n then forN n.toNat (fun _ m => shiftFwd s l ts void m) m0
  else forN n.natAbs (fun _ m => shiftRev s l ts m) m0

/-- A layer formed at the lowest VOID position (R184). -/
def formLayer (s : Block) (l ts vol : Nat) (m : Moves) : Moves :=
  match m.ch.pos.findIdx? (fun p => !p.grain) with
  | none => m
  | some k =>
    let f := lineForm s l ts vol false m.ch
    let c := { f.2 with pos := setAt f.2.pos k f.1, occFrom := if k = lnObsPos s l then ts else f.2.occFrom }
    noteCrop { m with ch := c } f.1

/-- Layer 0 exits and the layers above move down (R184). -/
def unloadLayer (s : Block) (l ts : Nat) (m : Moves) : Moves :=
  let c := m.ch
  let out := c.pos.headD parcelVoid
  let c1 := { c with pos := c.pos.drop 1 ++ [parcelVoid], lastExT := if out.grain then out.theta else c.lastExT }
  noteLeft (lnObsPos s l) ts c.pos { m with ch := c1, exits := m.exits ++ [out], fwd := m.fwd + 1 }

/-- Motion of a BATCH or STORE line: the fill counter's volume and the unload counter's (R184). `closed`: no grain enters. -/
def moveStore (s : Block) (l ts : Nat) (dv : Int) (du : Nat) (closed : Bool) (c : LineCh) : Moves :=
  let vp := lnVp s l
  let add := if 0 < dv && !closed then dv.toNat else 0
  let o := c.ofs.toNat + add
  let n := if vp = 0 then 0 else o / vp
  let inflow := if add = 0 then c.inflow else c.inflow ++ [(lnCrop s l, add)]
  let m0 : Moves := ⟨{ c with inflow := inflow, ofs := if vp = 0 then (o : Int) else ((o % vp : Nat) : Int) }, [], [], 0, 0, 0, []⟩
  let m1 := forN (min n 512) (fun _ m => formLayer s l ts vp m) m0
  let u := c.ofs2 + du
  let k := if vp = 0 then 0 else u / vp
  let m2 := forN (min k 512) (fun _ m => unloadLayer s l ts m) m1
  { m2 with ch := { m2.ch with ofs2 := if vp = 0 then u else u % vp } }

/-- One parcel under its air over `dt` ns (R186), in zone `z`; `f` numbers its free values. -/
def dryParcel (s : Block) (f : Nat) (a : Air) (z : Option Nat) (kind dt : Nat) (p : Parcel) : Parcel :=
  if !p.grain then p
  else
    let p1 := match z with | some k => { p with zt := setAt p.zt k (satU 32 (getL p.zt k 0 + dt / 1000000)) } | none => p
    if kind = 3 then p1
    else
      let sec := fxQ dt nsPerS
      let me := moistEq s f p.crop a.t a.rh
      let k := dryRate s (f + 1) p.crop a.t a.q a.qn
      let x := fxPct p.m
      let x' := if a.q ≤ 0 then x else me + fxMul (x - me) (fxExp (-(fxMul k sec)))
      let tau := cropW s p.crop 11
      let th := fxQ p.theta 100
      let th' := if tau ≤ 0 then (Config.freeNat (f + 2) : Int)
        else a.t + fxMul (th - a.t) (fxExp (-(fxDiv sec (tau * fxU))))
      { p1 with m := clampI 0 655360000 (fxRound x' 6553600), theta := clampI (-32768) 32767 (fxRound th' 100) }

/-- Dry-basis water of a parcel: X = M / (100 − M). -/
def waterX (m : Int) : Fx := if m = 655360000 then 0 else fxQ m (655360000 - m)

/-- The air the next layer sees (R187): `p` before and `p'` after R186, pressure in Pa, Δt in ns. -/
def chainAir (s : Block) (f : Nat) (a : Air) (p p' : Parcel) (baro : Nat) (dt : Nat) : Air :=
  let ta := a.t + fxQ 27315 100
  if a.q ≤ 0 ∨ dt = 0 ∨ ta ≤ 0 then a
  else
    let pres : Fx := baro * fxU
    let dW := fxMul (fxQ p.dm 100) (waterX p.m - waterX p'.m)
    let rho := fxDiv (fxDiv pres (fxQ 28705 100)) ta
    let air := fxMul (fxMul rho (fxQ a.q 36000)) (fxQ dt nsPerS)       -- kg of air in the step
    let ps := satPress f a.t
    let pv := fxMul a.rh ps
    if air ≤ 0 ∨ pres ≤ pv then a
    else
      let x := fxDiv (fxMul (fxQ 622 1000) pv) (pres - pv)
      let x1 := x + fxDiv dW air
      let mass := if p'.m = 655360000 then 0 else fxQ (p.dm * 6553600) (655360000 - p'.m)
      let heat := 2450000 * dW + fxMul (mass * cropW s p.crop 14) (fxQ (p'.theta - p.theta) 100)
      let t1 := a.t - fxDiv heat (1006 * air)
      let pv1 := fxDiv (fxMul x1 pres) (fxQ 622 1000 + x1)
      let ps1 := satPress (f + 1) t1
      let rh1 := if ps1 ≤ 0 then fxQ 999 1000 else clampI 0 (fxQ 999 1000) (fxDiv pv1 ps1)
      { a with t := t1, rh := rh1 }

/-- The air every position sees this step and the parcels after drying (R185 to R187). A layer above the first that no air
reaches keeps its values, as in TEMPER (log entry 39). -/
def dryLine (s : Block) (l : Nat) (i : LineIn) (airs : List (Air × Bool)) (dt : Nat) (ps : List Parcel) : List Air × List Parcel :=
  let posAir := fun (k : Nat) => match zoneAt s l k with
    | some z => ((getL airs z (airNone, false)).1, some z, zoneKind s l z)
    | none => (airNone, none, 3)
  if lnProg s l = 1 then
    let ks := (numbered ps).map (fun e => (e, posAir e.1))
    (ks.map (fun e => if e.2.2.2 = 3 then airNone else e.2.1),
     ks.map (fun e => dryParcel s (s.fresh + 10 + 3 * e.1.1) e.2.1 e.2.2.1 e.2.2.2 dt e.1.2))
  else
    let a0 := posAir 0
    let r := (numbered ps).foldl (fun (acc : Air × List Air × List Parcel) e =>
      let a := acc.1
      let z := zoneAt s l e.1
      if !e.2.grain then (a, acc.2.1 ++ [a], acc.2.2 ++ [e.2])
      else
        let kind := if a0.2.2 = 3 ∨ (e.1 ≠ 0 ∧ a.q ≤ 0) then 3 else 2
        let p' := dryParcel s (s.fresh + 10 + 3 * e.1) a z kind dt e.2
        (chainAir s (s.fresh + 2000 + 2 * e.1) a e.2 p' i.baro dt, acc.2.1 ++ [a], acc.2.2 ++ [p']))
      (a0.1, [], [])
    (r.2.1, r.2.2)

/-- M_e of a parcel in the air it sees, in 0.01 % × 2^−16; its own M where it sees none (log entry 39). -/
def parcelMe (s : Block) (f : Nat) (a : Air) (p : Parcel) : Int :=
  if a = airNone then p.m else fxRound (moistEq s f p.crop a.t a.rh) 6553600

/-- One parcel corrected by an observation (R190): the parcel after it, and whether CMAX cut the correction. -/
def obsCorrect (s : Block) (l : Nat) (e pref me : Int) (p : Parcel) : Parcel × Bool :=
  let v := s.get (lnObs l)
  let gain : Int := fld v 79 64
  let rmax : Int := fld v 95 80
  let dmax : Int := (fld v 127 112 : Int) * 65536
  let cmax : Int := (fld v 143 128 : Int) * 65536
  let pj := max (p.m - me) 0
  let r := if pref ≤ 0 ∨ rmax * pref ≤ 100 * pj then rdiv (gain * e * rmax) 100000 else rdivI (gain * e * pj) (1000 * pref)
  let d1 := clampI (-dmax) dmax r
  let d2 := clampI (-cmax - p.corr) (cmax - p.corr) d1
  let m := clampI me p.mIn (p.m + d2)
  let q := { p with m := m, corr := p.corr + (m - p.m) }
  (if d2 ≠ d1 then q.flag pfCapped else q, d2 != d1)

/-- Whether the span goes on to a parcel (R190). -/
def inSpan (crop : Nat) (p : Parcel) : Bool := p.grain && !p.has pfMixed && !p.has pfSynth && p.crop == crop

/-- The parcels of a step as the observer sees them, upstream first: the positions, then what exited this step. -/
structure ObsRun where
  ch    : LineCh
  exits : List Parcel          -- first exit first
  n     : Nat                  -- observations accepted
  rej   : List Int             -- errors of rejected observations
  cap   : List Nat             -- positions whose correction CMAX cut
  last  : Option (Int × Int)   -- m̄ and e
  fault : Bool

/-- Applies one observation with mean `mbar` to the parcel of serial `ser` (R189, R190). `airs` is the air each position
sees. -/
def observe (s : Block) (l : Nat) (airs : List Air) (ser : Nat) (mbar : Int) (r : ObsRun) : ObsRun :=
  let v := s.get (lnObs l)
  let n := r.ch.pos.length
  let seqn := r.ch.pos ++ r.exits.reverse
  match seqn.findIdx? (fun p => p.grain && p.serial == ser) with
  | none => r
  | some k =>
    let p := getL seqn k parcelVoid
    if !bitAt v 63 ∨ r.fault ∨ !p.grain ∨ p.has pfMixed ∨ p.has pfSynth then r
    else
      let e := mbar - p.m
      let emax : Int := (fld v 159 144 : Int) * 65536
      let split := fun (c : LineCh) (ps : List Parcel) =>
        let ex := (ps.drop n).reverse
        ({ c with pos := ps.take n, exitB := c.exitB.map (fun b => match ex.find? (fun x => x.serial == b.serial) with | some x => x | none => b) }, ex)
      let noted := fun (ps : List Parcel) => (numbered ps).map (fun x => if x.1 = k then { x.2 with meas := some mbar } else x.2)
      if emax < e.natAbs then
        let run := r.ch.rejRun + 1
        let y := split { r.ch with rejRun := run } (noted seqn)
        { r with ch := y.1, exits := y.2, rej := r.rej ++ [e], last := some (mbar, e), fault := fld v 167 160 ≤ run }
      else
        let air := fun (j : Nat) => getL airs (min j (n - 1)) airNone
        let me := fun (j : Nat) => parcelMe s (s.fresh + 5000 + j) (air j) (getL seqn j parcelVoid)
        let pref := max (max (p.m - me k) 0) ((fld v 111 96 : Int) * 65536)
        let ok := fun (j : Nat) => inSpan p.crop (getL seqn j parcelVoid)
        let top := if k < n then n else k + 1
        let down := ((List.range (top - (k + 1))).map (fun d => k + 1 + d)).takeWhile ok
        let up0 := (List.range k).reverse.takeWhile ok
        let up := if fld v 185 176 = 0 then up0 else up0.take (fld v 185 176)
        let span := k :: (down ++ up)
        let done := (numbered seqn).map (fun x =>
          if span.contains x.1 then obsCorrect s l e pref (me x.1) x.2 else (x.2, false))
        let cap := ((numbered done).filter (fun x => x.2.2)).map (fun x => x.1)
        let y := split { r.ch with rejRun := 0, lastOut := if k + 1 < n then r.ch.lastOut else some mbar } (noted (done.map (fun x => x.1)))
        { r with ch := y.1, exits := y.2, n := r.n + 1, cap := r.cap ++ cap, last := some (mbar, e) }

/-- The mean of the probe values with TS inside an interval, as they stood at its end (R180, R189). -/
def probeMean (c : LineCh) (a b : Nat) : Option Int :=
  let vs := c.obsVals.filter (fun v => decide (a < v.1 ∧ v.1 ≤ b ∧ v.2.1 ≤ b))
  if vs.isEmpty then none else some (rdivI (sumI (vs.map (fun v => v.2.2 * 65536))) vs.length)

/-- The remaining positions of a parcel from `p` on, as runs of (position, share of τ in 2^−32 … 1): the share of each
position of τ, in parts of V_p. -/
def remaining (n p : Nat) (vp : Nat) (ofs : Int) : List (Nat × Int) :=
  (List.range (n - p)).map (fun k => (p + k, if k = 0 then (vp : Int) - ofs else (vp : Int)))

/-- The exit moisture a parcel is predicted to have at rate F (in 0.001 m³/h × 4096), in 0.01 % × 2^−16 (R192). A rate of 0
means an unbounded time. -/
def predictM (s : Block) (l : Nat) (airs : List (Air × Bool)) (c : LineCh) (p : Nat) (f4 : Int) : Int :=
  let n := c.pos.length
  let par := getL c.pos p parcelVoid
  let zs := (remaining n p (lnVp s l) c.ofs).foldl (fun (acc : List (Option Nat × Int)) e =>
    let z := zoneAt s l e.1
    match acc with
    | (z0, t) :: r => if z0 = z then (z, t + e.2) :: r else (z, e.2) :: acc
    | [] => [(z, e.2)]) []
  let go := fun (m : Fx) (e : Option Nat × Int) => match e.1 with
    | none => m
    | some z =>
      let a := (getL airs z (airNone, false)).1
      if zoneKind s l z = 3 ∨ a.q ≤ 0 then m
      else
        let me := moistEq s (s.fresh + 6000 + z) par.crop a.t a.rh
        let k := dryRate s (s.fresh + 6010 + z) par.crop a.t a.q a.qn
        if f4 ≤ 0 then me
        else
          -- µL over 0.001 m³/h: seconds = µL × 3600 × 4096 / (F4 × 10⁶)
          let sec := fxQ (e.2 * 3600 * 4096) (f4 * 1000000)
          me + fxMul (m - me) (fxExp (-(fxMul k sec)))
  fxRound (zs.reverse.foldl go (fxPct par.m)) 6553600

/-- Twelve bisection steps (R192) on rates × 4096. -/
def bisect (s : Block) (l : Nat) (airs : List (Air × Bool)) (c : LineCh) (p : Nat) (tgt : Int) : Nat → Int → Int → Int
  | 0, lo, _ => lo
  | k + 1, lo, hi =>
    let mid := (lo + hi) / 2
    if predictM s l airs c p mid ≤ tgt then bisect s l airs c p tgt k mid hi else bisect s l airs c p tgt k lo mid

/-- The controlling parcel (R192): at CTRL_POS, or the nearest grain parcel downstream. -/
def ctrlParcel (s : Block) (l : Nat) (c : LineCh) : Option Nat :=
  let p0 := s.fget (lnCfg l) 41 32
  (c.pos.drop p0).findIdx? (fun p => p.grain) |>.map (fun k => p0 + k)

/-- F* in 0.001 m³/h × 4096, M̂ at F*, M̂ at F_MAX, and the bound it stands at: 0 none, 1 low, 2 high (R192). Without a
controlling parcel the rate is F_START (log entry 40). -/
def dischRate (s : Block) (l : Nat) (airs : List (Air × Bool)) (c : LineCh) : Int × Int × Int × Nat :=
  let v := s.get (lnDisch l)
  let lo : Int := (fld v 63 32 : Int) * 4096
  let hi : Int := (fld v 95 64 : Int) * 4096
  match ctrlParcel s l c with
  | none => ((fld v 127 96 : Int) * 4096, 0, 0, 0)
  | some p =>
    let tgt := lnCropTarget s l (getL c.pos p parcelVoid).crop
    let mLo := predictM s l airs c p lo
    let mHi := predictM s l airs c p hi
    if tgt < mLo then (lo, mLo, mHi, 1)
    else if mHi < tgt then (hi, mHi, mHi, 2)
    else
      let f := bisect s l airs c p tgt 12 lo hi
      (f, predictM s l airs c p f, mHi, 0)

/-- T_lim of a HEAT zone in 0.01 °C (R193), none when it holds no grain. -/
def heatLimit (s : Block) (l z : Nat) (c : LineCh) (rate : Int) : Option Int :=
  let v := s.get (lnZone l z)
  let fmin : Int := s.fget (lnDisch l) 63 32
  let free := lnProg s l ≠ 1 ∨ rate < fmin ∨ rate ≤ 0
  (numbered c.pos).foldl (fun (m : Option Int) e =>
    if !e.2.grain || e.1 < fld v 9 0 || fld v 25 16 < e.1 then m
    else
      let mx := cropThMax s e.2.crop
      let tau := cropW s e.2.crop 11
      let t := if free ∨ tau ≤ 0 then mx
        else
          let vol : Int := ((fld v 25 16 - e.1) * lnVp s l : Nat) + ((lnVp s l : Int) - c.ofs)
          let x := fxExp (-(fxQ (vol * 3600) (rate * 1000000 * tau)))
          if fxU ≤ x then toS 32 (Config.freeNat (s.fresh + 6100))
          else fxRound (fxDiv (mx * fxU - e.2.theta * x) (fxU - x)) 1
      match m with
      | some y => some (min y t)
      | none => some t) none

/-- The 64 bytes of a discharged parcel record (R200). -/
def exitBytes (s : Block) (l ts : Nat) (p : Parcel) : List Byte :=
  let b := leBytes 8 ts ++ leBytes 8 p.tsEntry ++ leBytes 2 s.img.node ++ leBytes 1 l ++ leBytes 1 p.crop ++
    leBytes 2 p.flags ++ leBytes 2 (satS 16 (rdiv p.mIn 65536)) ++ leBytes 2 (satS 16 p.m100) ++
    leBytes 2 (match p.meas with | some m => satS 16 (rdiv m 65536) | none => 0x8000) ++ leBytes 2 (satS 16 p.theta) ++
    leBytes 2 (satS 16 (rdiv p.corr 65536)) ++ (p.zt.map (fun t => leBytes 4 (t / 1000))).flatten ++ leBytes 4 p.dm ++
    leBytes 4 p.serial ++ zeros 4
  b ++ leBytes 4 (crc32 b)

end Sys2Proof.Machine
end

