-- ==== Sys2Proof/Machine/LineProg.lean ====
section
/-! DEFINITION. Machine/LineProg.lean: the class D step of a line, its programs, hold conditions, aeration windows,
commands and checkpoints (chapter 08, R180, R189, R193 to R203), and the values the lines take (R182, R189, R199, R141). -/

namespace Sys2Proof.Machine

/-- DIO input n as delivered (R258); in a pair the STAT that the SNAPSHOT gave of it, low before the first (R325). -/
def dioInput (s : Block) (n : Nat) : Bool :=
  if s.paired then s.remote.any (fun r => r.node == s.img.node && r.oid == oidOf (dioStat n) && r.dlv && bitAt (ofS 32 r.val) 2)
  else s.bit (dioValue n) 64

/-- The count of an encoder (R181): of this module, or, of another node and at a paired HEAD of any, as the SNAPSHOT gave it (R287,
R325). The 32 bits of an entry cannot carry COUNT whole: which count an entry stands for is a free function of the entry (log
entry 35). -/
def lnEncCount (s : Block) (node e : Nat) : Option Int :=
  if s.ownNode node && !s.paired then some (s.ech e).count
  else match s.remote.find? (fun r => r.node == s.nodeOf node && r.oid == oidOf (encValues e)) with
    | some r => if r.dlv then some (toS 64 (Config.freeNat (2 ^ 200 + pack [(ofS 64 r.ts, 0), (ofS 32 r.val, 64), (r.node, 96), (e, 112)]))) else none
    | none => none

/-- What a class D sample latches for a line (R180, R185). -/
def lineLatch (s : Block) (l t : Nat) : LineIn :=
  let g := s.get (lnGeom l)
  let am := s.get (lnAmbient l)
  let inl := s.get (lnInlet l)
  let src := fun (oid node age : Nat) => if oid = 0 then none else srcValid s oid node age t
  { l := l, ts := t
    cnt := (lnEncCount s (fld g 51 40) (fld g 34 32)).map (fun v => if bitAt g 39 then -v else v)
    cnt2 := lnEncCount s (fld g 111 100) (fld g 98 96)
    ambT := src (fld am 31 0) (fld am 43 32) (lnAge s l)
    ambRh := src (fld am 95 64) (fld am 107 96) (lnAge s l)
    zones := (List.range 4).map (fun z =>
      let v := s.get (lnZone l z)
      let age := fld v 95 80 * nsPerS
      let q : Int := if fld v 155 144 = 0 then zoneQn s l z
        else sumI (((List.range 12).filter (fun a => bitAt (fld v 155 144) a)).map (fun a =>
          match srcRead s (oidOf (axAir a)) 0 with | some x => x.1 | none => 0))
      (src (fld v 63 32) (fld v 75 64) age, src (fld v 127 96) (fld v 139 128) age, q))
    fillL := bitAt inl 119 && !dioInput s (fld inl 118 112)
    flt := (List.range 4).map (fun z => s.bit (lnZone l z) 239 && dioInput s (s.fget (lnZone l z) 238 232))
    rate := toS 32 (s.fget (lnFlow l) 95 64)
    run := s.modeNo == 2
    baro := if s.paired then (match srcRead s (oidOf axsBaro) 0 with | some v => v.1.toNat | none => s.get axsBaroDef)
      else if s.bit axsStat 0 then s.fget axsBaro 95 64 else s.get axsBaroDef }

/-- The loops whose setpoint a line writes (R192 to R194). -/
def lineLoops (s : Block) (l : Nat) : List Nat :=
  let zs := (List.range 4).filter (fun z => zoneKind s l z != 0)
  ((s.fget (lnDisch l) 7 0 :: zs.map (fun z => s.fget (lnZone l z) 247 240)) ++
    (zs.filter (fun z => zoneKind s l z == 1)).map (fun z => s.fget (lnZone l z) 231 224)).filter (fun n => n != 0xFF)

/-- Whether a loop's SP is owned by a line whose PROG is not IDLE (R194). -/
def lineOwnsSp (s : Block) (n : Nat) : Bool :=
  (List.range 8).any (fun l => lnOn s l && (s.nch l).step != 0 && (lineLoops s l).contains n)

/-- Writes a loop's SP, where the number names one. -/
def putSp (n : Nat) (v : Int) (s : Block) : Block := if n = 0xFF then s else s.put (lpSp n) (satS 32 v)

/-- Brings STAT PROG and STEP, and the DIVERT output, up to date (R195). -/
def lineShow (l : Nat) (s : Block) : Block :=
  let c := s.nch l
  let s1 := s.put (lnStat l) (setFld (setFld (s.get (lnStat l)) 3 2 (if c.step = 0 then 3 else lnProg s l)) 7 4 c.step)
  let d := s.fget (lnFlowCfg l) 54 48
  if !s.paired && s.bit (lnFlowCfg l) 55 && d < 96 then s1.setDch d { s1.dch d with lineOn := some (c.step == 6) } else s1

/-- Every VOID position filled at entry to START (R195): the first parcel formed takes the values since the last formation, and
leaves none to the others (R182). -/
def fillVoid (s : Block) (l ts : Nat) (c : LineCh) : LineCh :=
  c.pos.foldl (fun (a : LineCh) p =>
    if p.grain then { a with pos := a.pos ++ [p] }
    else { a with pos := a.pos ++ [parcelForm s l ts a (lnCrop s l) false (lnVp s l)], serial := (a.serial + 1) % 2 ^ 32
                  lastCrp := some (lnCrop s l), inVals := [], gtVals := []
                  occFrom := if a.pos.length = lnObsPos s l then ts else a.occFrom }) { c with pos := [] }

/-- The setpoints a line has owned returned to 0, as it enters IDLE (R193, R194). -/
def ownZero (l : Nat) (s : Block) : Block :=
  let c := s.nch l
  (c.own ++ lineLoops s l).foldl (fun x n => putSp n 0 x) (s.setNch l { c with own := [] })

/-- Enters a program step (R195, R196, R184): the entry's own effects and 0x90. -/
def lineEnter (l ts step cause : Nat) (s : Block) : Block :=
  let c0 := s.nch l
  let old := c0.step
  let c1 := if old = 1 then
      let v := c0.ofs.toNat
      let m := if lnVp s l ≤ 20 * v ∧ v ≠ 0 then (formLayer s l ts v ⟨c0, [], [], 0, 0, 0, []⟩).ch else c0
      { m with ofs := 0, inflow := [] }
    else c0
  let c2 := if step = 6 then fillVoid s l ts c1 else c1
  let c3 := { c2 with step := step, pend := none, stepT := 0, emptyT := 0, airT := 0, holdT := [0, 0, 0, 0, 0, 0, 0]
                      hotSrc := if step = 0 then [] else c2.hotSrc }
  let s1 := lineShow l (s.setNch l c3)
  let s2 := if step = 0 then ownZero l (s1.putBit (lnStat l) 18 false) else s1
  let s3 := if step = 2 then s2.putBit (lnStat l) 15 false else s2
  s3.raiseAt ts 0x90 sevInfo 0 (lnObj l) (pack [(old, 0), (step, 8), (cause, 16)])

/-- A line made VOID and IDLE by a new signature (R203): its setpoints return to 0, and its step, if any, ends with 0x90; a write
is taken as the command that ends it (log entry 47). -/
def lineDrop (l ts : Nat) (s : Block) : Block :=
  let old := (s.nch l).step
  let s1 := lineShow l (s.setNch l (lineVoid s l))
  if old = 0 then s1
  else (ownZero l (s1.putBit (lnStat l) 18 false)).raiseAt ts 0x90 sevInfo 0 (lnObj l) (pack [(old, 0), (2, 16)])

/-- The grain parcels of a line. -/
def grainOf (c : LineCh) : List Parcel := c.pos.filter Parcel.grain

/-- M_g, T_g and M_e,amb of a STORE line (R198), none without grain. -/
def storeMeans (s : Block) (l : Nat) (c : LineCh) : Option (Int × Int × Int × Int) :=
  let g := grainOf c
  match c.ambT, c.ambRh with
  | some t, some rh =>
    if g.isEmpty then none
    else some (rdivI (sumI (g.map (fun p => p.m))) g.length, rdivI (sumI (g.map (fun p => p.theta))) g.length,
      fxRound (moistEq s (s.fresh + 6200) (lnCrop s l) (fxQ t 100) (clampI 0 (fxQ 999 1000) (fxQ rh 1000000))) 6553600, t)
  | _, _ => none

/-- Whether the COOLING and DRYING conditions hold (R198). -/
def windowNow (s : Block) (l : Nat) (c : LineCh) : Bool × Bool :=
  let v := s.get (lnStore l)
  match storeMeans s l c with
  | none => (false, false)
  | some (mg, tg, me, ta) =>
    (decide (ta ≤ tg - (fld v 15 0 : Int) ∧ me ≤ mg + (fld v 31 16 : Int) * 65536),
     decide (me ≤ mg - (fld v 47 32 : Int) * 65536 ∧ ta ≤ tg + (fld v 63 48 : Int)))

/-- Whether M_e,amb exceeds M_g + REWET (R198). -/
def rewetNow (s : Block) (l : Nat) (c : LineCh) : Bool :=
  match storeMeans s l c with
  | none => false
  | some (mg, _, me, _) => decide (mg + (s.fget (lnStore l) 31 16 : Int) * 65536 < me)

/-- Opens or closes a window (R198): `w` 0 COOLING, 1 DRYING. -/
def windowSet (l ts w : Nat) (on : Bool) (s : Block) : Block :=
  let c := s.nch l
  let s1 := (s.putBit (lnStat l) (16 + w) on).setNch l (if w = 0 then { c with winC := none } else { c with winD := none })
  s1.raiseAt ts 0x9C sevInfo 0 (lnObj l) (pack [(w + 1, 0), (b2n on, 8)])

/-- WIN_MIN or WIN_CLOSE in ns, whichever a window waits for. -/
def windowWait (s : Block) (l w : Nat) : Nat :=
  (if s.bit (lnStat l) (16 + w) then s.fget (lnStore l) 95 80 else s.fget (lnStore l) 79 64) * nsPerS

/-- One window at a step (R198). -/
def windowStep (l ts w : Nat) (now : Bool) (s : Block) : Block :=
  let c := s.nch l
  let since := if w = 0 then c.winC else c.winD
  if now = s.bit (lnStat l) (16 + w) then s.setNch l (if w = 0 then { c with winC := none } else { c with winD := none })
  else
    let t0 := match since with | some t => t | none => ts
    if t0 + windowWait s l w ≤ ts then windowSet l ts w now s
    else s.setNch l (if w = 0 then { c with winC := some t0 } else { c with winD := some t0 })

/-- Whether the heat of a zone is on in the present step (the *Program steps* table). -/
def heatOn (s : Block) (l z : Nat) (c : LineCh) : Bool :=
  match c.step with
  | 2 => true
  | 6 => true
  | 7 => true
  | 8 => (numbered c.pos).any (fun e => e.2.grain && s.fget (lnZone l z) 9 0 ≤ e.1 && e.1 ≤ s.fget (lnZone l z) 25 16)
  | _ => false

/-- Whether the air is on in the present step (the *Program steps* table, R198). -/
def airOn (s : Block) (l : Nat) (c : LineCh) : Bool :=
  match c.step with
  | 2 => true
  | 3 => true
  | 6 => true
  | 7 => true
  | 8 => !(grainOf c).isEmpty
  | 9 =>
    let m := s.fget (lnStore l) 161 160
    (bitAt m 0 && s.bit (lnStat l) 16) || (bitAt m 1 && s.bit (lnStat l) 17)
  | 10 => s.bit (lnStore l) 162 || !rewetNow s l c
  | _ => false

/-- The discharge or unload setpoint of the present step in 0.001 m³/h (the *Program steps* table). -/
def dischSp (s : Block) (l : Nat) (c : LineCh) (fstar : Int) : Int :=
  match c.step with
  | 5 => s.fget (lnDisch l) 127 96
  | 6 => fstar
  | 7 => fstar
  | 8 => if (ctrlParcel s l c).isNone then s.fget (lnDisch l) 127 96 else fstar
  | _ => 0

/-- A timer that runs while a cause lasts. -/
def timer (run cause : Bool) (t dt : Nat) : Nat := if !run then t else if cause then t + dt else 0

/-- The conditions of the *Program hold conditions* table at a step (R197): the timers after it and the codes present. -/
def holdEval (s : Block) (l : Nat) (c : LineCh) (i : LineIn) (dt : Nat) (sp mhi : Int) (lim : Nat) : List Nat × List Nat :=
  let d := s.get (lnDisch l)
  let f := s.get (lnFlowCfg l)
  let st := c.step
  let heated := st == 2 || st == 6 || st == 7 || st == 8
  let jam := (st == 6 || st == 7 || st == 8) && decide ((fld d 63 32 : Int) < sp ∧ 10 * i.rate < sp)
  let stop := st == 7 && decide (100 * i.rate < (fld d 95 64 : Int))
  let tgt := match ctrlParcel s l c with | some p => lnCropTarget s l (getL c.pos p parcelVoid).crop | none => 0
  let past := (st == 6 || st == 7) && lim == 2 && decide (mhi < tgt - (fld d 159 144 : Int) * 65536)
  let hot := heated && (grainOf c).any (fun p => decide (cropThMax s p.crop + 300 < p.theta))
  let flt := heated && i.flt.any id
  let air := fun (z : Nat) => zoneKind s l z != 0 && zoneKind s l z != 3 && airOn s l c &&
    decide (5 * (getL i.zones z (none, none, 0)).2.2 < zoneQn s l z)
  let t := fun (k : Nat) (b : Bool) => timer i.run b (getL c.holdT k 0) dt
  let ts := [t 0 jam, t 1 stop, t 2 past] ++ (List.range 4).map (fun z => t (3 + z) (air z))
  let hit := fun (k : Nat) (b : Bool) (lim : Nat) => b && lim * nsPerS ≤ getL ts k 0
  let codes :=
    (if hit 0 jam (fld f 31 16) then [1] else []) ++ (if hit 1 stop (fld f 47 32) then [2] else []) ++
    (if hit 2 past 60 then [3] else []) ++ (if hot then [4] else []) ++ (if flt then [5] else []) ++
    (if (List.range 4).any (fun z => hit (3 + z) (air z) 60) then [6] else [])
  (ts, codes)

/-- Takes the conditions present in RUN (R197). -/
def holdTake (l ts : Nat) (codes : List Nat) (s : Block) : Block :=
  let c0 := s.nch l
  let s1 := codes.foldl (fun (x : Block) k =>
    if c0.holdNow.contains k then x
    else
      let on := bitAt (s.fget (lnCfg l) 54 48) k
      let c := x.nch l
      let y := (x.fput (lnStat l) 22 20 k).setNch l
        { c with latch := if on && !c.latch.contains k then c.latch ++ [k] else c.latch }
      y.raiseAt ts 0x91 sevFault 0 (lnObj l) (pack [(k, 0), (b2n on, 8)])) s
  s1.setNch l { s1.nch l with holdNow := codes }

/-- Whether a step's end condition is met in RUN (the *Program steps* table): the next step and the cause. -/
def stepEnd (s : Block) (l : Nat) (c : LineCh) : Option (Nat × Nat) :=
  let b := s.get (lnBatch l)
  let g := grainOf c
  let past := fun (sec : Nat) => decide (sec * nsPerS ≤ c.stepT)
  let empty := s.bit (lnInlet l) 119 && decide (s.fget (lnFlowCfg l) 15 0 * nsPerS ≤ c.emptyT)
  let tgt := lnCropTarget s l (lnCrop s l)
  match c.step with
  | 1 => if empty || c.pos.all Parcel.grain then some (2, 1) else none
  | 2 =>
    let mean := rdivI (sumI (g.map (fun p => p.m))) g.length
    if !g.isEmpty && decide (mean ≤ tgt) && g.all (fun p => decide (p.m ≤ tgt + (fld b 15 0 : Int) * 65536)) then some (3, 1)
    else if past (fld b 63 32) then some (3, 3) else none
  | 3 =>
    let amb := c.ambT
    if (match amb with | some t => g.all (fun p => decide (p.theta ≤ t + (fld b 31 16 : Int))) | none => false) then some (4, 1)
    else if past (fld b 95 64) then some (4, 3) else none
  | 5 => if g.isEmpty then some (0, 1) else none
  | 6 =>
    let od : Int := (s.fget (lnDisch l) 159 144 : Int) * 65536
    if ((c.pos.drop (lnObsPos s l)).filter Parcel.grain).all (fun p => decide (p.m ≤ lnCropTarget s l p.crop + od))
      then some (7, 1) else none
  | 7 => if empty then some (8, 1) else none
  | 8 => if g.isEmpty then some (0, 1) else none
  | 10 => if decide (s.fget (lnStore l) 159 128 * nsPerS ≤ c.airT) then some (9, 3) else none
  | _ => none

/-- Writes an exit's record and raises what it raises (R197, R200): the machine after it. -/
def lineExit (l ts : Nat) (s : Block) (p : Parcel) : Block :=
  if !p.grain && (lnProg s l != 1 || s.bit (lnInlet l) 119) then s
  else
    let od : Int := (s.fget (lnDisch l) 159 144 : Int) * 65536
    let dry := p.grain && decide (p.m < lnCropTarget s l p.crop - od)
    let p1 := if dry then p.flag pfOverdry else p
    let p2 := if (s.nch l).step = 6 then p1.flag pfDiverted else p1
    let s1 := s.countUp (lnCount l) 31 0
    let s2 := if dry then s1.raiseAt ts 0x98 sevWarn 0 (lnObj l) 0 else s1
    let c := s2.nch l
    let s3 := s2.setNch l { c with exitB := c.exitB.map (fun b => if b.serial = p.serial ∧ b.tsEntry = p.tsEntry then p2 else b) }
    s3.firnWrite 2 ⟨ts, l, exitBytes s l ts p2⟩

/-- The observations of a step (R189, R191, R199), in order: what left OBS.POS, what is due at standstill, what was asked. -/
def lineObserve (s : Block) (l ts : Nat) (airs : List Air) (m : Moves) (moved : Bool) : ObsRun :=
  let c := m.ch
  let r0 : ObsRun := ⟨c, m.exits, 0, [], [], none, s.bit (lnStat l) 8⟩
  let r1 := m.left.foldl (fun r e => match probeMean c e.2 ts with
    | some v => observe s l airs e.1 v r
    | none => r) r0
  let due := !moved && (c.staticD || c.lastObs + s.fget (lnObs l) 207 192 * nsPerS ≤ ts)
  let r2 := if due then
      let r := match (c.pos[lnObsPos s l]?), probeMean c c.occFrom ts with
        | some p, some v => if p.grain then observe s l airs p.serial v r1 else r1
        | _, _ => r1
      let made := r.n != r1.n || r.rej.length != r1.rej.length
      { r with ch := { r.ch with staticD := false, lastObs := if made then ts else r.ch.lastObs } }
    else if moved then { r1 with ch := { r1.ch with staticD := false, lastObs := ts } } else r1
  let r3 := c.asked.foldl (fun r e => match r.ch.pos[e.1]? with
    | some p => if p.grain then observe s l airs p.serial e.2.1 r else r
    | none => r) r2
  { r3 with ch := { r3.ch with asked := [], obsVals := r3.ch.obsVals.filter (fun v => decide (r3.ch.occFrom < v.1)) } }

/-- The events and counts of a step's observations (R189, R190). -/
def lineObsEvents (l ts : Nat) (r : ObsRun) (s : Block) : Block :=
  let s1 := (s.setNch l { r.ch with capPrev := if r.n = 0 then r.ch.capPrev else !r.cap.isEmpty }).countN (lnCount l) 63 32 r.n
  let s2 := r.rej.foldl (fun x e => (x.countUp (lnCount l) 95 64).raiseAt ts 0x92 sevWarn 0 (lnObj l)
    (satS 16 (rdiv e 65536))) s1
  let s3 := if r.fault && !s2.bit (lnStat l) 8 then (s2.putBit (lnStat l) 8 true).raiseAt ts 0x93 sevFault 0 (lnObj l) 0 else s2
  match r.cap with
  | [] => s3
  | k :: _ =>
    let s4 := s3.countUp (lnCount l) 127 96
    if r.ch.capPrev then s4 else s4.raiseAt ts 0x94 sevWarn 0 (lnObj l) (k % 65536)

/-- The events of a step's motion (R181, *CROP* events of R203). -/
def lineMoveEvents (l ts : Nat) (old : LineCh) (m : Moves) (s : Block) : Block :=
  let s1 := if m.rev ≠ 0 ∧ old.revRun = 0 then s.raiseAt ts 0x95 sevWarn 0 (lnObj l) 0 else s
  let s2 := forN m.synth (fun _ x => x.raiseAt ts 0x95 sevWarn 1 (lnObj l) 0) s1
  let s3 := if m.fwd ≠ 0 ∧ old.revRun ≠ 0 then s2.raiseAt ts 0x95 sevWarn 2 (lnObj l) (old.revRun % 65536) else s2
  let run := if m.fwd ≠ 0 then 0 else old.revRun + m.rev
  let s4 := m.crops.foldl (fun x e => x.raiseAt ts 0x96 sevInfo 0 (lnObj l) (pack [(e.1, 0), (b2n e.2, 8)])) s3
  let c := { m.ch with revRun := run }
  let p := getL c.pos (lnObsPos s l) parcelVoid
  let s5 := s4.putBit (lnStat l) 19 (m.rev != 0)
  match c.cropSer with
  | some k =>
    if p.grain && p.serial == k then
      (s5.setNch l { c with cropSer := none }).raiseAt ts 0x96 sevInfo 0 (lnObj l) (pack [(p.crop, 0), (b2n (p.has pfMixed), 8)])
    else s5.setNch l c
  | none => s5.setNch l c

/-- Step 6 of the model step (R192 to R194): the machine with the setpoints written, F* (× 4096), M̂ at F*, at F_MAX and
the bound. -/
def lineSetpoints (l ts : Nat) (airs : List (Air × Bool)) (rate : Int) (s : Block) : Block × (Int × Int × Int × Nat) :=
  let c := s.nch l
  let f := if c.step = 6 ∨ c.step = 7 ∨ c.step = 8 then dischRate s l airs c else (0, 0, 0, 0)
  let sp := dischSp s l c (rdiv f.1 4096)
  let idle := c.step == 0
  let s1 := if idle then s else putSp (s.fget (lnDisch l) 7 0) sp s
  let zs := (List.range 4).filter (fun z => zoneKind s l z != 0)
  let heat := fun (x : Block × Bool) (z : Nat) =>
    if zoneKind s l z ≠ 1 ∨ s.fget (lnZone l z) 231 224 = 0xFF then x
    else if !heatOn s l z c then (putSp (s.fget (lnZone l z) 231 224) 0 x.1, x.2)
    else
      let t := match heatLimit s l z c rate with | some t => min (zoneTsp s l z) t | none => zoneTsp s l z
      (putSp (s.fget (lnZone l z) 231 224) t x.1, x.2 || decide (t < zoneTsp s l z))
  let h := if idle then (s1, false) else zs.foldl heat (s1, false)
  let on := airOn s l c
  let s2 := if idle then h.1 else zs.foldl (fun x z =>
    putSp (s.fget (lnZone l z) 247 240) (if on then (s.fget (lnZone l z) 191 160 : Int) else 0) x) h.1
  let s3 := (s2.putBit (lnStat l) 10 (f.2.2.2 != 0)).putBit (lnStat l) 11 h.2
  let s4 := if f.2.2.2 = c.limPrev then s3
    else s3.raiseAt ts 0x9E (if f.2.2.2 = 0 then sevInfo else sevWarn) 0 (lnObj l) f.2.2.2
  (s4.setNch l { s4.nch l with limPrev := f.2.2.2, own := if idle then [] else lineLoops s l }, f)

/-- HOT of the parcels of a line (R193). -/
def lineHot (l ts : Nat) (s : Block) : Block :=
  let c := s.nch l
  let hot := fun (p : Parcel) => p.grain && decide (cropThMax s p.crop < p.theta)
  let first := c.pos.findIdx? (fun p => hot p && !p.has pfHot)
  let any := c.pos.any hot
  let s1 := (s.setNch l { c with pos := c.pos.map (fun p => if hot p then p.flag pfHot else p) }).putBit (lnStat l) 12 any
  match first with
  | some k => if s.bit (lnStat l) 12 then s1 else s1.raiseAt ts 0x99 sevWarn 0 (lnObj l) (k % 65536)
  | none => s1

/-- The crop sets in force for FE channels (R188): a VOID parcel leaves the previous one. -/
def lineCropFe (s : Block) (l : Nat) (c : LineCh) : LineCh :=
  let at' := fun (k : Nat) (old : Option Nat) => match c.pos[k]? with
    | some p => if p.grain then some p.crop else old
    | none => old
  { c with cropFe := some (lnCrop s l), cropObs := at' (lnObsPos s l) c.cropObs, cropEnd := at' (lnN s l - 1) c.cropEnd }

/-- VALUES of a line (the *Other LINE[l] attributes* table). -/
def lineValues (s : Block) (l ts : Nat) (f : Int × Int × Int × Nat) (r : ObsRun) : Nat :=
  let c := s.nch l
  let old := s.get (lnValues l)
  let out := match c.pos[lnObsPos s l]? with | some p => satS 16 p.m100 | none => 0
  let me := match r.last with
    | some x => satS 16 (rdiv x.1 65536) + satS 16 (rdiv x.2 65536) * 2 ^ 16
    | none => fld old 159 128
  pack [(ts % 2 ^ 64, 0), (satU 32 (rdiv f.1 4096).toNat, 64), (satS 16 (rdiv f.2.1 65536), 96), (out, 112), (me, 128),
    (satU 32 (c.stepT / nsPerS), 160), (ofS 32 c.ofs, 192), ((grainOf c).length, 224), (fld old 319 256, 256)]

/-- The hot spots declared up to the boundary of a step (R92, R199): HOTSPOT, 0x9D, and step 10 from step 9. -/
def hotTake (l ts : Nat) (s : Block) : Block :=
  let c := s.nch l
  let s1 := s.setNch l { c with hotNew := c.hotNew.filter (fun h => decide (ts < h.1)) }
  (c.hotNew.filter (fun h => decide (h.1 ≤ ts))).foldl (fun x h =>
    let y := x.nch l
    ((x.setNch l { y with pend := if y.step = 9 ∧ y.pend.isNone then some (10, 1) else y.pend }).putBit (lnStat l) 18 true).raiseAt
      ts 0x9D sevFault 0 (lnObj l) (pack [(h.2.1, 0), (h.2.2.1, 16), (h.2.2.2, 24)])) s1

/-- Step 0 of a model step: the line as it stands for this step, with the step change that waits for its boundary. A program
step advances in RUN only; STOP acts in every mode (R180, R196). -/
def lineOpen (i : LineIn) (s00 : Block) : Block :=
  let l := i.l
  let s0 := if (s00.nch l).sigRun = lnSigRun s00 l then s00.setNch l { s00.nch l with sig := lnSig s00 l } else lineDrop l i.ts s00
  hotTake l i.ts (match (s0.nch l).pend with
    | some e => if i.run ∨ e = (0, 2) then lineEnter l i.ts e.1 e.2 s0 else s0
    | none => s0)

/-- The model step of one line from its latched inputs (R180), in the order of the *Model step* table. -/
def lineStep (i : LineIn) (s00 : Block) : Block :=
  let l := i.l
  if !lnOn s00 l then s00
  else
    let s1 := lineOpen i s00
    let cL := s1.nch l
    let lateIn := cL.inVals.filter (fun v => decide (i.ts < v.1))
    let lateGt := cL.gtVals.filter (fun v => decide (i.ts < v.1))
    let c0 := { cL with
      inVals := cL.inVals.filter (fun v => decide (v.1 ≤ i.ts)), gtVals := cL.gtVals.filter (fun v => decide (v.1 ≤ i.ts))
      ambT := match i.ambT with | some t => some t | none => (s1.nch l).ambT
      ambRh := match i.ambRh with | some t => some t | none => (s1.nch l).ambRh }
    let pd := clsPeriod s1 3
    let full := if c0.lastTs = 0 then pd else i.ts - c0.lastTs
    let dt := min full (10 * pd)
    -- motion; before a count has come there is none
    let delta := match i.cnt, c0.cnt with | some a, some b => a - b | _, _ => 0
    let delta2 := match i.cnt2, c0.cnt2 with | some a, some b => (a - b).toNat | _, _ => 0
    let vpc := s1.fget (lnGeom l) 95 64
    let closed := i.fillL
    let m := if lnProg s1 l = 1 then moveFlow s1 l i.ts (delta * vpc) (closed && c0.step == 8) c0
      else moveStore s1 l i.ts (delta * vpc) (if s1.bit (lnGeom l) 99 then delta2 * vpc else 0) closed c0
    let moved := delta != 0 || (lnProg s1 l != 1 && s1.bit (lnGeom l) 99 && delta2 != 0)
    -- air and drying
    let airs := (List.range 4).map (fun z => zoneAir s1 l c0 i z)
    let d := dryLine s1 l i airs dt m.ch.pos
    let m1 := { m with ch := { m.ch with pos := d.2, lastTs := i.ts, inVals := m.ch.inVals ++ lateIn, gtVals := m.ch.gtVals ++ lateGt
                                         cnt := if i.cnt.isSome then i.cnt else m.ch.cnt, cnt2 := if i.cnt2.isSome then i.cnt2 else m.ch.cnt2 } }
    let used := (List.range 4).filter (fun z => zoneKind s1 l z != 0)
    let est := used.find? (fun z => (getL airs z (airNone, false)).2)
    let s2 := (lineMoveEvents l i.ts c0 m1 s1).putBit (lnStat l) 14 (full != dt)
    let s3 := s2.putBit (lnStat l) 9 est.isSome
    let s4 := match est with
      | some z => if s2.bit (lnStat l) 9 then s3 else s3.raiseAt i.ts 0x97 sevWarn 0 (lnObj l) z
      | none => s3
    -- observation and exits
    let r := lineObserve s4 l i.ts d.1 { m1 with ch := s4.nch l } moved
    let s5 := lineObsEvents l i.ts r s4
    let s6 := r.exits.foldl (lineExit l i.ts) s5
    -- heat limits, discharge rate, setpoints
    let s7 := lineHot l i.ts s6
    let s8 := windowStep l i.ts 1 (windowNow s7 l (s7.nch l)).2 (windowStep l i.ts 0 (windowNow s7 l (s7.nch l)).1 s7)
    let w := if lnProg s7 l = 2 then s8 else s7
    let p := lineSetpoints l i.ts airs i.rate w
    let s9 := p.1
    -- program step and hold conditions
    let c9 := s9.nch l
    let sp := dischSp s9 l c9 (rdiv p.2.1 4096)
    let hv := holdEval s9 l c9 i dt sp p.2.2.2.1 p.2.2.2.2
    let on := airOn s9 l c9
    let c10 := if !i.run then c9 else { c9 with
      stepT := c9.stepT + dt, holdT := hv.1, emptyT := timer true i.fillL c9.emptyT dt
      airT := if on then c9.airT + dt else c9.airT }
    let s10 := s9.setNch l c10
    let s11 := if i.run then holdTake l i.ts hv.2 s10 else s10
    let c11 := s11.nch l
    let s12 := if i.run && c11.pend.isNone then
        (match stepEnd s11 l c11 with
         | some e => (s11.setNch l { c11 with pend := some e }).putBit (lnStat l) 15
            (s11.bit (lnStat l) 15 || (c11.step == 2 && e.2 == 3))
         | none => s11)
      else s11
    let c12 := s12.nch l
    let s13 := s12.putBit (lnStat l) 13 (c12.pos.any (fun p => p.grain && p.has pfResumed))
    let s14 := s13.put (lnValues l) (lineValues s13 l i.ts p.2 r)
    { s14 with fresh := s14.fresh + 8000 }

/-- The class D sample's part in the lines: step 1 of the *Model step* table, and the crop sets in force for FE channels until the
next boundary (R188). -/
def lineLatchAll (t : Nat) (s0 : Block) : Block :=
  let s := ((List.range 8).filter (lnOn s0)).foldl (fun x l => x.setNch l (lineCropFe x l (x.nch l))) s0
  { s with line := { s.line with inp := ((List.range 8).filter (lnOn s)).map (fun l => lineLatch s l t) } }

/-- The class D commit of the lines (R180). -/
def lineCommitAll (s : Block) : Block :=
  let s1 := s.line.inp.foldl (fun x i => lineStep i x) s
  { s1 with line := { s1.line with inp := [] } }

/-- RATE of every line's FLOW at a class C boundary (R281, the FLOW row). -/
def lineRates (t : Nat) (s : Block) : Block :=
  forN 8 (fun l x =>
    if !lnOn x l then x
    else
      let g := x.get (lnGeom l)
      let sp := if x.ownNode (fld g 51 40) && !x.paired then some (toS 32 (x.fget (encValues (fld g 34 32)) 159 128))
        else (srcRead x (oidOf (encValues (fld g 34 32))) (fld g 51 40)).map (fun v => v.1)
      match sp with
      | none => x
      | some v =>
        let v1 := if bitAt g 39 then -v else v
        x.put (lnFlow l) (pack [(t % 2 ^ 64, 0), (satS 32 (rdivI (v1 * (fld g 95 64 : Int) * 9) 250000), 64)])) s

/-- The position of a pixel's row: how many pixels the rows before it hold, by row (R134). -/
def tmRowLen (y : Nat) : Nat :=
  getL [8, 14, 18, 20, 22, 24, 26, 28, 28, 30, 30, 30, 32, 32, 32, 32] (if y < 16 then y else 31 - y) 0
/-- The number of the pixel at (x, y), if it is active. -/
def tmPixAt (x y : Nat) : Option Nat :=
  let n := tmRowLen y
  let lo := (32 - n) / 2
  if y < 32 ∧ lo ≤ x ∧ x < lo + n then some (sumN ((List.range y).map tmRowLen) + (x - lo)) else none
/-- The nine pixels around (x, y), when all are active. -/
def tmRegion (x y : Nat) : Option (List Nat) :=
  let qs := ((List.range 3).map (fun dy => (List.range 3).map (fun dx => tmPixAt (x + dx) (y + dy)))).flatten
  if qs.all Option.isSome then some (qs.filterMap id) else none
/-- The highest sum of a 3 × 3 region of active pixels of a map, nine times its mean (R199, R326). -/
def tmBestRegion (pix : List Int) : Int :=
  let rs := ((List.range 30).map (fun y => (List.range 30).filterMap (fun x => tmRegion x y))).flatten
  rs.foldl (fun b r => max b (sumI (r.map (fun q => getL pix q 0)))) (-294912)

/-- The hot spot condition of a source at a value or frame (R199): `kind` 1 temperature, 2 tomography; `src` its channel or ring. A
condition that comes, or that holds in step 9, is declared at the next model step (log entry 47). -/
def hotSpot (l layer kind src : Nat) (hot : Bool) (s : Block) : Block :=
  let c := s.nch l
  let key := kind * 256 + src
  if !hot then s.setNch l { c with hotSrc := c.hotSrc.filter (fun k => k != key) }
  else if c.hotSrc.contains key ∧ (c.step ≠ 9 ∨ c.hotNew.any (fun h => h.2 == (layer, kind, src))) then s
  else s.setNch l { c with hotSrc := key :: c.hotSrc.filter (fun k => k != key), hotNew := c.hotNew ++ [(s.clk.tb, layer, kind, src)] }

/-- A temperature channel of STORE_SRC delivers a value (R199). -/
def storeTemp (l e layer chan ts : Nat) (v : Int) (s : Block) : Block :=
  let c := s.nch l
  let h := ts / (3600 * nsPerS)
  let old := match c.hist.find? (fun x => x.1 == e) with | some x => x.2 | none => []
  let new := if old.any (fun x => x.1 == h) then old else ((h, v) :: old).take 25
  let pos := match c.pos[layer]? with
    | some p => if p.grain then setAt c.pos layer { p with theta := clampI (-32768) 32767 v } else c.pos
    | none => c.pos
  let s1 := s.setNch l { c with pos := pos, hist := (e, new) :: c.hist.filter (fun x => x.1 != e) }
  match old.find? (fun x => x.1 + 24 == h) with
  | some x => hotSpot l layer 1 chan (decide (x.2 + (s.fget (lnStore l) 111 96 : Int) < v)) s1
  | none => s1

/-- A STORE_SRC ring delivers a VALID frame (R199, R326): its MEAN and nine times its highest region mean. -/
def storeRing (l layer r : Nat) (mean region : Int) (s : Block) : Block :=
  let c := s.nch l
  let crop := (getL c.pos layer parcelVoid).crop
  let lim := max (cropW s crop 18) (mean + (s.fget (lnStore l) 127 112 : Int))
  let s1 := s.setNch l { c with asked := c.asked ++ [(layer, mean * 65536, some r)] }
  hotSpot l layer 2 r (decide (9 * lim ≤ region)) s1

/-- Whether an object ID and node name FE channel n of a node. -/
def namesFe (s : Block) (oid node n from' : Nat) : Bool :=
  (attrOf oid).blk == 5 && (attrOf oid).kind == 0 && (attrOf oid).idx == n && s.nodeOf node == from'

/-- A delivered value of FE channel n of a node reaches the lines (R182, R189, R199). -/
def lineTake (node n ts qual : Nat) (v : Int) (s : Block) : Block :=
  forN 8 (fun l x =>
    if !lnOn x l then x
    else
      let c := x.nch l
      let inl := x.get (lnInlet l)
      let ob := x.get (lnObs l)
      let c1 := if namesFe x (fld inl 31 0) (fld inl 43 32) n node then { c with inVals := c.inVals ++ [(x.clk.tb, v)] } else c
      let c2 := if fld inl 95 64 ≠ 0 ∧ namesFe x (fld inl 95 64) (fld inl 107 96) n node then
          { c1 with gtVals := c1.gtVals ++ [(x.clk.tb, v)] } else c1
      let c3 := if namesFe x (fld ob 31 0) (fld ob 43 32) n node ∧ (qual = 0 ∨ (qual = 1 ∧ bitAt ob 208)) then
          { c2 with obsVals := c2.obsVals ++ [(ts, x.clk.tb, v)] } else c2
      let y := x.setNch l c3
      if lnProg x l ≠ 2 then y
      else (List.range 8).foldl (fun z k =>
        let e := entry (x.get (lnSrc l)) 64 (4 + k)
        if bitAt e 63 && namesFe x (fld e 31 0) (fld e 43 32) n node then storeTemp l (4 + k) (fld e 57 48) n ts v z else z) y) s

/-- A frame of ring r of a node reaches the STORE lines (R199, R326). -/
def lineRing (node r : Nat) (mean region : Int) (s : Block) : Block :=
  forN 8 (fun l x =>
    if !lnOn x l || lnProg x l != 2 then x
    else (List.range 4).foldl (fun z k =>
      let e := entry (x.get (lnSrc l)) 64 k
      let a := attrOf (fld e 31 0)
      if bitAt e 63 && a.blk == 6 && a.idx == r && x.nodeOf (fld e 43 32) == node then
        storeRing l (fld e 57 48) r mean region z else z) x) s

/-- The crop set a channel with CROP_LINE takes (R188). -/
def feCropLine (s : Block) (n : Nat) : Option Nat :=
  let l := s.fget (feLin n) 11 9
  let c := s.nch l
  let inl := s.get (lnInlet l)
  let ob := s.get (lnObs l)
  if namesFe s (fld inl 31 0) (fld inl 43 32) n s.img.node then c.cropFe
  else if namesFe s (fld ob 31 0) (fld ob 43 32) n s.img.node then c.cropObs
  else c.cropEnd

/-- FE_VALUE_RELEASE (R106, R113 to R119, R141, R182, R189, R199): channel n releases its oldest value. -/
def execFeValueRelease (n : Nat) (s : State) : Res := onBlock s fun s =>
  if 48 ≤ n then .next s
  else match feHead s n with
    | none => .next s
    | some h =>
      let r := feRelease n (feCropLine s n) h s
      if !r.2 then .next r.1
      else
        let s1 := tmLevel n (s.fch n).delivAt r.1
        let v := toS 32 (s1.fget (feLast n) 95 64)
        if s1.paired then .next s1
        else .next (lineTake s1.img.node n h.ts (s1.fget (feLast n) 130 128) v s1)

/-- What an issued map gives the STORE program (R142, R189, R199). -/
def ringDeliver (r : Nat) (f : TomoRun) (s : Block) : Block :=
  let region := tmBestRegion f.pix
  let s1 := s.setTch r { s.tch r with region := rdivI region 9 }
  if tmSuspect f ∨ s1.paired then s1
  else lineRing s1.img.node r (toS 16 (s1.fget (tmSummary r) 79 64)) region s1

/-- TOMO_KERNEL_DONE (R136 to R139, R142, R189, R199): the kernel of ring r ends, and a map is issued or the frame lost. -/
def execTomoKernelDone (r : Nat) (s : State) : Res := onBlock s fun s =>
  if 12 ≤ r then .next s
  else
    let k := tmKernelDone r s
    match k.2 with
    | none => .next k.1
    | some f => .next (ringDeliver r f k.1)

/-- The maps of the class D rings whose frame ends at boundary `t`, issued as class D publishes (R138, R169). -/
def ringsPublish (t : Nat) (s : Block) : Block :=
  forN 12 (fun r x => match (x.tch r).run with
    | some f => if !x.bit (tmCfg r) 1 ∧ f.ts = t then ringDeliver r f (tmPublish r f x) else x
    | none => x) s

/-- The checks of a LINE command (R203, R196): `op` its code, `pos` of OBSERVE. -/
def lnCmdCheck (op l pos : Nat) (x : Block) : Nat :=
  let s := x.seen
  let c := s.nch l
  let step := c.step
  firstErr [
    need (!(op == 1 || op == 3 || op == 4 || op == 7) || s.modeNo == 2) 0x0301,
    need (lnOn s l && (s.tab (cropSet (lnCrop s l))).isSome) 0x0303,
    need (op != 3 || step == 1 || step == 2 || step == 3 || step == 4 || step == 6) 0x0304,
    need (op != 7 || step == 9) 0x0304,
    need (op != 6 || !c.latch.isEmpty) 0x0304,
    need (op != 5 || s.bit (lnObs l) 63) 0x0304,
    need (op != 2 || step != 0) 0x0304,
    need (op != 4 || pos < lnN s l) 0x0201]

/-- Asks for a step at the next class D boundary (R196). -/
def linePend (l step cause : Nat) (s : Block) : Block := s.setNch l { s.nch l with pend := some (step, cause) }

/-- START taken (R196): the first step of the line's program. -/
def lnStartAct (l : Nat) (s : Block) : Block := linePend l (match lnProg s.seen l with | 0 => 1 | 1 => 6 | _ => 9) 2 s

/-- LINE_START (R195, R196). -/
def execLineStart (i l : Nat) (s : State) : Res := onBlock s fun s =>
  pairCommand i (lnCmd l) (.num 1) (lnCmdCheck 1 l 0) (lnStartAct l) noRefuse s

/-- LINE_STOP (R196). -/
def execLineStop (i l : Nat) (s : State) : Res := onBlock s fun s =>
  pairCommand i (lnCmd l) (.num 2) (lnCmdCheck 2 l 0) (linePend l 0 2) noRefuse s

/-- The step after the present one (the *Program steps* table). -/
def nextStep (step : Nat) : Nat := match step with | 5 => 0 | 8 => 0 | 9 => 9 | 10 => 9 | k => k + 1

/-- NEXT_STEP taken (R196). -/
def lnNextAct (l : Nat) (s : Block) : Block := linePend l (nextStep (s.nch l).step) 2 s

/-- NEXT_STEP (R196). -/
def execNextStep (i l : Nat) (s : State) : Res := onBlock s fun s =>
  pairCommand i (lnCmd l) (.num 3) (lnCmdCheck 3 l 0) (lnNextAct l) noRefuse s

/-- OBSERVE taken (R191). -/
def lnObserveAct (l pos m : Nat) (s : Block) : Block :=
  s.setNch l { s.nch l with asked := (s.nch l).asked ++ [(pos, ((m % 65536 : Nat) : Int) * 65536, none)] }

/-- OBSERVE (R191): a laboratory observation of the parcel at `pos`, `m` in 0.01 %, at the next model step. -/
def execObserve (i l pos m : Nat) (s : State) : Res := onBlock s fun s =>
  pairCommand i (lnCmd l) (.num (pack [(4, 0), (pos, 16), (m, 32)])) (lnCmdCheck 4 l pos) (lnObserveAct l pos m) noRefuse s

/-- CLEAR_CORR taken (R191). -/
def lnClearCorrAct (l : Nat) (s : Block) : Block :=
  (s.setNch l { s.nch l with pos := (s.nch l).pos.map (fun p => { p with corr := 0 }), rejRun := 0 }).putBit (lnStat l) 8 false

/-- CLEAR_CORR (R191). -/
def execClearCorr (i l : Nat) (s : State) : Res := onBlock s fun s =>
  pairCommand i (lnCmd l) (.num 5) (lnCmdCheck 5 l 0) (lnClearCorrAct l) noRefuse s

/-- The latched conditions whose cause is present outside the timed ones (R197, log entry 37). -/
def holdPresent (s : Block) (l : Nat) : List Nat :=
  let c := s.nch l
  if s.modeNo = 2 then c.holdNow
  else
    (if (grainOf c).any (fun p => decide (cropThMax s p.crop + 300 < p.theta)) then [4] else []) ++
    (if (List.range 4).any (fun z => s.bit (lnZone l z) 239 && dioInput s (s.fget (lnZone l z) 238 232)) then [5] else [])

/-- CLEAR_HOLD taken (R197). -/
def lnClearHoldAct (l : Nat) (s : Block) : Block :=
  s.setNch l { s.nch l with latch := (s.nch l).latch.filter (fun k => (holdPresent s l).contains k), holdNow := holdPresent s l }

/-- CLEAR_HOLD (R197): releases the latched conditions whose cause is absent. -/
def execClearHold (i l : Nat) (s : State) : Res := onBlock s fun s =>
  pairCommand i (lnCmd l) (.num 6) (lnCmdCheck 6 l 0) (lnClearHoldAct l) noRefuse s

/-- COOL_RUN (R199). -/
def execCoolRun (i l : Nat) (s : State) : Res := onBlock s fun s =>
  pairCommand i (lnCmd l) (.num 7) (lnCmdCheck 7 l 0) (linePend l 10 2) noRefuse s

/-- STATIC_OBSERVATION (R189): STATIC_T without motion or observation makes one due. -/
def execStaticObservation (l : Nat) (s : State) : Res := onBlock s fun s =>
  if 8 ≤ l then .next s
  else if !lnOn s l ∨ !s.bit (lnObs l) 63 then .next s
  else
    let s1 := s.advanceTb ((s.nch l).lastObs + s.fget (lnObs l) 207 192 * nsPerS)
    .next (s1.setNch l { s1.nch l with staticD := true })

/-- The time a program step timer has left, and the step it leads to (R196); COOL_RUN counts only while the air is on. -/
def stepTimer (s : Block) (l : Nat) : Option (Nat × Nat) :=
  let c := s.nch l
  let left := fun (sec t : Nat) => sec * nsPerS - t
  let fill := s.bit (lnInlet l) 119 && !dioInput s (s.fget (lnInlet l) 118 112)
  match c.step with
  | 1 => if fill then some (left (s.fget (lnFlowCfg l) 15 0) c.emptyT, 2) else none
  | 2 => some (left (s.fget (lnBatch l) 63 32) c.stepT, 3)
  | 3 => some (left (s.fget (lnBatch l) 95 64) c.stepT, 4)
  | 7 => if fill then some (left (s.fget (lnFlowCfg l) 15 0) c.emptyT, 8) else none
  | 10 => if airOn s l c then some (left (s.fget (lnStore l) 159 128) c.airT, 9) else none
  | _ => none

/-- PROGRAM_TIMER_EXPIRY (R196): the present step's timer runs out in RUN; the step changes at the next class D boundary. -/
def execProgramTimerExpiry (l : Nat) (s : State) : Res := onBlock s fun s =>
  if 8 ≤ l then .next s
  else if !lnOn s l ∨ s.modeNo ≠ 2 ∨ (s.nch l).pend.isSome then .next s
  else match stepTimer s l with
    | none => .next s
    | some e =>
      let s1 := s.advanceTb ((s.nch l).lastTs + e.1)
      let s2 := if (s.nch l).step = 2 then s1.putBit (lnStat l) 15 true else s1
      .next (linePend l e.2 (if (s.nch l).step = 2 ∨ (s.nch l).step = 3 ∨ (s.nch l).step = 10 then 3 else 1) s2)

/-- AERATION_WINDOW (R198): window `w` (0 COOLING, 1 DRYING), whose condition has changed, opens or closes, at the class D boundary
once its wait is over (R92). -/
def execAerationWindow (l w : Nat) (s : State) : Res := onBlock s fun s =>
  if 8 ≤ l ∨ 2 ≤ w then .next s
  else if !lnOn s l ∨ lnProg s l ≠ 2 then .next s
  else match (if w = 0 then (s.nch l).winC else (s.nch l).winD) with
    | none => .next s
    | some t =>
      let b := ceilMultiple (max 1 (clsPeriod s 3)) (t + windowWait s l w)
      .next (windowSet l b w (!s.bit (lnStat l) (16 + w)) (s.advanceTb b))

/-- The state of the enabled lines, with the counts of their last committed step (R201). -/
def lineCopy (s : Block) : List (Nat × LineCh) := ((List.range 8).filter (lnOn s)).map (fun l => (l, s.nch l))

/-- CHECKPOINT (R201): at a ring-time multiple of 10 s the state of every enabled line is copied. -/
def execCheckpoint (s : State) : Res := onBlock s fun s =>
  if s.phase ≠ .active then .next s
  else
    let p := 10 * nsPerS
    let last := match s.line.copy with | some c => c.1 | none => 0
    let t := dueMultiple p (max last (s.clk.tb - min s.clk.tb p)) s.clk.tb
    let s1 := s.advanceTb t
    .next { s1 with line := { s1.line with copy := some (t, lineCopy s1) } }

/-- The place of the older checkpoint area (R201). -/
def ckptOlder (m : List (Option Ckpt)) : Nat :=
  match getL m 0 none, getL m 1 none with
  | none, _ => 0
  | some _, none => 1
  | some a, some b => if a.seq < b.seq then 0 else 1

/-- Writes a copy to the older area with its marker (R201). -/
def ckptWrite (ts : Nat) (lines : List (Nat × LineCh)) (s : Block) : Block :=
  let m := s.mram.ckpt
  let top := m.foldl (fun k c => match c with | some x => max k x.seq | none => k) 0
  let m1 := setAt (m ++ List.replicate (2 - m.length) none) (ckptOlder m) (some ⟨top + 1, ts, lines⟩)
  let s1 := { s with mram := { s.mram with ckpt := m1 } }
  lines.foldl (fun x e => x.fput (lnValues e.1) 319 256 (ts % 2 ^ 64)) s1

/-- CHECKPOINT_COMMIT (R201): by 9.5 s the marker unit is written and the area becomes current. -/
def execCheckpointCommit (s : State) : Res := onBlock s fun s =>
  match s.line.copy with
  | none => .next s
  | some c =>
    if s.phase ≠ .active then .next s
    else
    let s1 := s.advanceTb (c.1 + 9500000000)
    .next (ckptWrite c.1 c.2 { s1 with line := { s1.line with copy := none } })

/-- The current checkpoint area (R202). -/
def ckptCurrent (m : List (Option Ckpt)) : Option Ckpt :=
  m.foldl (fun b c => match b, c with
    | some x, some y => if x.seq < y.seq then some y else some x
    | none, y => y
    | x, none => x) none

/-- One line at boot (R202, the *Resume* table). -/
def lineResume (l : Nat) (s : Block) : Block :=
  if !s.bit (lnCfg l) 0 then s
  else
    let ts := s.clk.tb
    let saved : Option LineCh := match ckptCurrent s.mram.ckpt with
      | some c => (c.lines.find? (fun e => e.1 == l)).map (fun e => e.2)
      | none => none
    match saved with
    | some c0 =>
      if c0.sig = lnSig s l then
        let g := s.get (lnGeom l)
        let cnt := (lnEncCount s (fld g 51 40) (fld g 34 32)).map (fun v => if bitAt g 39 then -v else v)
        let cnt2 := lnEncCount s (fld g 111 100) (fld g 98 96)
        let d : Int := match cnt, c0.cnt with | some a, some b => a - b | _, _ => 0
        let u := match cnt2, c0.cnt2 with | some a, some b => (a - b).toNat | _, _ => 0
        let vpc := s.fget (lnGeom l) 95 64
        let closed := s.bit (lnInlet l) 119 && !dioInput s (s.fget (lnInlet l) 118 112)
        let m := if lnProg s l = 1 then moveFlow s l ts (d * vpc) (closed && c0.step == 8) c0
          else moveStore s l ts (d * vpc) (if s.bit (lnGeom l) 99 then u * vpc else 0) closed c0
        let c1 := { m.ch with
          pos := m.ch.pos.map (fun p => if p.grain then p.flag pfResumed else p), lastTs := 0, cnt := cnt, cnt2 := cnt2
          inVals := [], gtVals := [], obsVals := [], hotNew := [], occFrom := ts, lastObs := ts, sigRun := lnSigRun s l }
        let moved := lineMoveEvents l ts c0 { m with ch := lineCropFe s l c1 } s
        let s1 := lineShow l (m.exits.foldl (lineExit l ts) moved)
        (s1.putBit (lnStat l) 13 (c1.pos.any (fun p => p.grain))).raise 0x9A sevInfo (lnObj l) ((m.fwd + m.rev) % 2 ^ 32)
      else lineFresh l s
    | none => lineFresh l s
where
  /-- A line that starts VOID and in IDLE. -/
  lineFresh (l : Nat) (s : Block) : Block :=
    (lineShow l (s.setNch l (lineVoid s l))).raiseC 0x9A sevWarn 1 (lnObj l) 0

/-- Every line at boot step 10: areas whose CRC fails are dropped with 0x9B, then the lines resume (R202). -/
def lineBoot (bad : List Nat) (failed : Attr → Bool) (s : Block) : Block :=
  let drop := fun (x : Block) (a : Nat) => match getL x.mram.ckpt a none with
    | none => x
    | some _ => ({ x with mram := { x.mram with ckpt := setAt x.mram.ckpt a none } }).raise 0x9B sevFault (lnObj 0) a
  forN 8 (fun l x => if failed (lnStat l) then x.putBit (lnStat l) 1 (x.bit (lnCfg l) 0)
    else (lineResume l x).putBit (lnStat l) 0 (x.bit (lnCfg l) 0)) (bad.foldl drop s)

/-- Own-value checks of a line attribute beyond its fields (R177, R203). -/
def lnOwn (a : Attr) (v : Nat) : Nat :=
  match a.att with
  | 0x020 => need (1 ≤ fld v 17 8 && fld v 17 8 ≤ 512 && fld v 41 32 < fld v 17 8) 0x0201
  | 0x021 => need (fld v 31 0 != 0 && fld v 95 64 != 0) 0x0201
  | 0x026 => need (fld v 63 32 < fld v 95 64) 0x0201
  | 0x028 => need (!bitAt v 55 || fld v 54 48 ≤ 95) 0x0201
  | 0x030 => zone v
  | 0x031 => zone v
  | 0x032 => zone v
  | 0x033 => zone v
  | _ => 0
where
  /-- One zone: LAST at or above FIRST, AIR_AGE and Q_NOM in range. -/
  zone (v : Nat) : Nat :=
    need (fld v 27 26 == 0 || (fld v 9 0 ≤ fld v 25 16 && 1 ≤ fld v 95 80 && fld v 95 80 ≤ 600 && 0 < fld v 191 160 &&
      (!bitAt v 239 || fld v 238 232 ≤ 95))) 0x0201

/-- Whether no two zones of a line overlap and none reaches beyond its parcels (R203). -/
def zonesOk (s : Block) (l : Nat) : Bool :=
  (List.range 4).all (fun z =>
    let v := s.get (lnZone l z)
    fld v 27 26 == 0 || (fld v 25 16 < lnN s l && (List.range 4).all (fun y =>
      let w := s.get (lnZone l y)
      z == y || fld w 27 26 == 0 || fld v 25 16 < fld w 9 0 || fld w 25 16 < fld v 9 0)))

/-- Whether the position of the observation and every layer of a STORE_SRC entry in use lie below N (R203). -/
def obsPosOk (s : Block) (l : Nat) : Bool := lnObsPos s l < lnN s l
def layersOk (s : Block) (l : Nat) : Bool :=
  (List.range 12).all (fun k => let e := entry (s.get (lnSrc l)) 64 k; !bitAt e 63 || fld e 57 48 < lnN s l)

/-- Whether a line may name a node: its own, or at a HEAD any. -/
def lnNodeOk (s : Block) (node : Nat) : Bool := s.ownNode node || s.role == 2

/-- Whether a source is an FE channel delivering a unit; the unit of another node's channel is not known here. -/
def feUnitOk (s : Block) (oid node unit : Nat) : Bool :=
  let a := attrOf oid
  oid == 0 || (a.blk == 5 && a.kind == 0 && a.idx < 48 && isSource oid && lnNodeOk s node &&
    (!s.ownNode node || s.fget (feLin a.idx) 23 20 == unit))

/-- The sources of a line and the kinds they must have (R203). -/
def storeSrcOk (s : Block) (l k : Nat) : Bool :=
  let e := entry (s.get (lnSrc l)) 64 k
  let o := attrOf (fld e 31 0)
  !bitAt e 63 || (lnNodeOk s (fld e 43 32) &&
    (if k < 4 then o.blk == 6 && o.kind == 0 && o.idx < 12
     else o.blk == 5 && o.kind == 0 && o.idx < 48 && (!s.ownNode (fld e 43 32) || isRes (feTyp s o.idx))))

/-- Whether no other enabled line drives a loop of this one (R203). -/
def lineLoopsOk (s : Block) (l : Nat) : Bool :=
  (lineLoops s l).all (fun k => (List.range 8).all (fun j => j == l || !s.bit (lnCfg j) 0 || !(lineLoops s j).contains k))

/-- The checks of a line attribute that involve others, on the state the write leaves (R177, R203). -/
def lnCross (a : Attr) (s : Block) : List Nat :=
  let l := a.idx
  let en := s.bit (lnCfg l) 0
  let total := sumN ((List.range 8).map (fun k => if s.bit (lnCfg k) 0 then lnN s k else 0))
  let input := dioIsIn s
  let zone := fun (z : Nat) =>
    let v := s.get (lnZone l z)
    [need (zonesOk s l) 0x0201,
      need (fld v 27 26 == 0 || (feUnitOk s (fld v 63 32) (fld v 75 64) 2 && feUnitOk s (fld v 127 96) (fld v 139 128) 5)) 0x0206,
      need (!bitAt v 239 || input (fld v 238 232)) 0x0206, need (lineLoopsOk s l) 0x0206]
  match a.att with
  | 0x020 => [need (zonesOk s l && obsPosOk s l && layersOk s l) 0x0201, need (!en || lineLoopsOk s l) 0x0206,
      need (total ≤ 4096) 0x0402, need (allFit s) 0x0402]
  | 0x021 =>
    let v := s.get (lnGeom l)
    [need (lnNodeOk s (fld v 51 40) && (!bitAt v 99 || lnNodeOk s (fld v 111 100))) 0x0206]
  | 0x023 =>
    let v := s.get (lnAmbient l)
    [need (feUnitOk s (fld v 31 0) (fld v 43 32) 2 && feUnitOk s (fld v 95 64) (fld v 107 96) 5) 0x0206]
  | 0x024 =>
    let v := s.get (lnInlet l)
    [need (feUnitOk s (fld v 31 0) (fld v 43 32) 1 && feUnitOk s (fld v 95 64) (fld v 107 96) 2 && (!bitAt v 119 || input (fld v 118 112))) 0x0206]
  | 0x025 => [need (obsPosOk s l) 0x0201, need (feUnitOk s (s.fget (lnObs l) 31 0) (s.fget (lnObs l) 43 32) 1) 0x0206]
  | 0x026 => [need (lineLoopsOk s l) 0x0206]
  | 0x028 =>
    let d := s.fget (lnFlowCfg l) 54 48
    [need (!s.bit (lnFlowCfg l) 55 || (dioIsOut s d && s.fget (dioCfg d) 5 4 == 0)) 0x0206]
  | 0x02A => [need (layersOk s l) 0x0201, need ((List.range 12).all (storeSrcOk s l)) 0x0206]
  | 0x030 => zone 0
  | 0x031 => zone 1
  | 0x032 => zone 2
  | 0x033 => zone 3
  | _ => []

/-- The check of a CROP_SET table's words (R188, R203). -/
def cropSetOk (w : List Int) : Bool :=
  let u := fun (k : Nat) => getL w k 0
  let rng := fun (k : Nat) (lo hi : Int) => decide (lo ≤ u k ∧ u k ≤ hi)
  rng 0 0 4 && decide (0 < u 5) && rng 6 500000 5000000 && rng 7 0 50000 && decide (0 < u 8) && rng 9 0 2000000 &&
  rng 10 0 2000000 && rng 11 10 36000 && rng 12 2000 12000 && rng 13 2000 12000 && rng 14 1000 4000 &&
  (u 15 == 0 || rng 15 500 3000) && decide (0 ≤ u 16 ∧ u 16 < u 17 ∧ u 17 ≤ 5000) && rng 18 500 3000 &&
  (List.range 45).all (fun k => u (19 + k) == 0)

/-- Effects of a write of a line attribute (R189, R195, R203): a line disabled ends its step as one with a new signature does. -/
def lnWritten (old : Block) (a : Attr) (s : Block) : Block :=
  let l := a.idx
  match a.att with
  | 0x020 =>
    let s1 := s.putBit (lnStat l) 0 (s.bit (lnCfg l) 0)
    seracSync (if s.bit (lnCfg l) 0 then s1 else lineDrop l s1.clk.tb s1)
  | 0x028 =>
    let d := old.fget (lnFlowCfg l) 54 48
    lineShow l (if old.bit (lnFlowCfg l) 55 && d < 96 then s.setDch d { s.dch d with lineOn := none } else s)
  | 0x025 => (s.setNch l { s.nch l with rejRun := 0 }).putBit (lnStat l) 8 false
  | _ => s

end Sys2Proof.Machine
end

