-- ==== Sys2Proof/Machine/Emu.lean ====
section
/-! DEFINITION. Machine/Emu.lean: the emulation outputs and the events that move an encoder's count (chapter 12, R277,
R282 to R284, R286 to R290). -/

namespace Sys2Proof.Machine

/-- Output o. -/
def Block.mch (s : Block) (o : Nat) : EmuCh := getL s.enc.emu o emuCh0
/-- The machine with output o replaced. -/
def Block.setMch (s : Block) (o : Nat) (c : EmuCh) : Block := { s with enc := { s.enc with emu := setAt s.enc.emu o c } }

/-- Whether an output runs: enabled, READY, the module in service (R286). -/
def emuOn (s : Block) (o : Nat) : Bool := s.phase == .active && s.bit (emuCfg o) 0 && s.bit (emuStat o) 0

/-- SRC_KIND: 0 ENC, 1 AXIS, 2 LINE. -/
def emuKind (s : Block) (o : Nat) : Nat := s.fget (emuCfg o) 2 1
/-- SRC. -/
def emuSrc (s : Block) (o : Nat) : Nat := s.fget (emuCfg o) 7 4
/-- EDGE_MIN in ns. -/
def emuEdgeMin (s : Block) (o : Nat) : Nat := 4 * s.fget (emuCfg o) 31 8

/-- The count of the encoder of a line source: its own module's, or what the last SNAPSHOT of its node gave (R287). -/
def emuLineCount (s : Block) (o : Nat) : Option Int :=
  let g := s.get (lnGeom (emuSrc s o))
  let e := fld g 34 32
  if s.ownNode (fld g 51 40) then some (s.ech e).count else lnEncCount s (fld g 51 40) e

/-- Whether the source of an output holds: an axis not in RUN or STOPPING (R287), or a line whose encoder no SNAPSHOT has given
yet (log entry 47). -/
def emuHolds (s : Block) (o : Nat) : Bool :=
  (emuKind s o == 1 && !(axSt s (emuSrc s o) == 5 || axSt s (emuSrc s o) == 6)) ||
  (2 ≤ emuKind s o && (emuLineCount s o).isNone)

/-- The source position P (R287). A line whose encoder is on another node has the position its last SNAPSHOT gave. -/
def emuSource (s : Block) (o : Nat) : Int :=
  let k := emuSrc s o
  match emuKind s o with
  | 0 => (s.ech k).count
  | 1 => (s.xch k).angle
  | _ =>
    let g := s.get (lnGeom k)
    match emuLineCount s o with
    | some n => (if bitAt g 39 then -n else n) * (fld g 95 64 : Int)
    | none => (s.mch o).hold

/-- The position an output follows: held while its source holds, so that it never jumps (R287). -/
def emuPos (s : Block) (o : Nat) : Int := if emuHolds s o then (s.mch o).hold else emuSource s o

/-- The target of an output (R287). -/
def emuTarget (s : Block) (o : Nat) : Int :=
  let c := s.mch o
  let r := s.get (emuRatio o)
  c.org + (emuPos s o - c.p0) * toS 32 (fld r 31 0) / (max 1 (fld r 63 32) : Nat)

/-- Takes up a source that has held: what it moved meanwhile stays out of the target (R287). -/
def emuResume (o : Nat) (s : Block) : Block :=
  let c := s.mch o
  if s.bit (emuStat o) 3 && !emuHolds s o then
    (s.setMch o { c with p0 := c.p0 + (emuSource s o - c.hold) }).putBit (emuStat o) 3 false
  else s

/-- Lag, limit, drops and VALUES of an output as its source stands (R288); what follows is stamped `ts`. -/
def emuUpdateAt (ts o : Nat) (s0 : Block) : Block :=
  if !emuOn s0 o then s0
  else
    let s := emuResume o s0
    let c := s.mch o
    let lag0 := emuTarget s o - c.out
    let mx : Int := max 1 (s.get (emuLimit o))
    let lag := clampI (-mx) mx lag0
    let drop := (lag0 - lag).natAbs
    let was := s.bit (emuStat o) 2
    let set := !was && decide (2 ≤ lag.natAbs)
    let clr := was && lag == 0
    let first := drop != 0 && (was || set) && !(if set then false else c.dropped)
    let old := s.fget (emuValues o) 191 160
    let mlag := if set then lag.natAbs else if was then max old lag.natAbs else old
    let s1 := s.setMch o { c with org := c.org - (lag0 - lag), dropped := (if set then false else c.dropped) || first
                                  hold := emuPos s o }
    let s2 := (s1.putBit (emuStat o) 2 ((was || set) && !clr)).putBit (emuStat o) 3 (emuHolds s o)
    let s3 := s2.put (emuValues o) (pack [(s2.clk.tb % 2 ^ 64, 0), (ofS 64 c.out, 64), (satS 32 lag, 128), (satU 32 mlag, 160)])
    let s4 := s3.fput (emuCount o) 63 32 (satU 32 (s3.fget (emuCount o) 63 32 + drop))
    let s5 := if set then (s4.countUp (emuCount o) 31 0).raiseAt ts 0xE4 sevWarn 0 (emuObj o) (satU 32 mlag) else s4
    let s6 := if first then s5.raiseAt ts 0xE5 sevFault 0 (emuObj o) 0 else s5
    if clr then s6.raiseAt ts 0xE4 sevInfo 0 (emuObj o) (pack [(satU 32 mlag, 0), (s6.fget (emuCount o) 63 32, 32)]) else s6

/-- The same stamped now. -/
def emuUpdate (o : Nat) (s : Block) : Block := emuUpdateAt s.clk.tb o s

/-- Every output whose source is an input of this module, or a line that counts it (R287), after an edge at `ts`. -/
def emuFollow (ts e : Nat) (s : Block) : Block :=
  forN 4 (fun o x =>
    let src := emuSrc x o
    let g := x.get (lnGeom src)
    if (emuKind x o == 0 && src == e) || (emuKind x o == 2 && x.ownNode (fld g 51 40) && fld g 34 32 == e) then emuUpdateAt ts o x
    else x) s

/-- Every output whose source is an axis, at a class A boundary (R287). -/
def emuAxes (s : Block) : Block := forN 4 (fun o x => if emuKind x o = 1 then emuUpdate o x else x) s

/-- A SNAPSHOT of the node of a line's encoder has come: the outputs take the position it gives (R287, log entry 35). -/
def emuSnap (node : Nat) (s : Block) : Block :=
  forN 4 (fun o x =>
    let g := x.get (lnGeom (emuSrc x o))
    if emuKind x o = 2 ∧ !x.ownNode (fld g 51 40) ∧ fld g 51 40 = node then emuUpdate o x else x) s

/-- The present position taken as origin of the target, OUT kept (R287). -/
def emuRebase (o : Nat) (s : Block) : Block :=
  let s1 := emuResume o s
  emuUpdate o (s1.setMch o { s1.mch o with p0 := emuPos s1 o, org := (s1.mch o).out })

/-- An output enabled: OUT 0, P0 the present position (R286, R287). -/
def emuEnable (o : Nat) (s : Block) : Block :=
  let s1 := s.setMch o { emuCh0 with p0 := emuSource s o, edgeAt := s.clk.raw, hold := emuSource s o }
  let s2 := (s1.putBit (emuStat o) 4 (emuOn s1 o)).put (emuValues o) (s.clk.tb % 2 ^ 64)
  (s2.putBit (emuStat o) 2 false).putBit (emuStat o) 3 (emuOn s1 o && emuHolds s o)

/-- The quadrature state of OUT: +1 makes A lead B (R286). -/
def emuQuad (out : Int) : Bool × Bool :=
  match (out % 4).toNat with
  | 0 => (false, false)
  | 1 => (true, false)
  | 2 => (true, true)
  | _ => (false, true)

/-- The lines A, B and Z of an output, none while its drivers are at high impedance (R286). -/
def emuPins (s : Block) (o : Nat) : Option (Bool × Bool × Bool) :=
  if !emuOn s o then none
  else
    let per := s.fget (emuCfg o) 63 32
    let q := emuQuad (s.mch o).out
    some (q.1, q.2, per != 0 && (s.mch o).out % (per : Int) == 0)

/-- The drivers of the outputs as the power state has them (R286). -/
def emuDrivers (s : Block) : Block := forN 4 (fun o x => x.putBit (emuStat o) 4 (emuOn x o)) s

/-- ENCODER_EDGE (R276, R277): an accepted edge of line 0 A, 1 B or 2 Z of input e to level `lvl`. -/
def execEncoderEdge (e line : Nat) (lvl : Bool) (s : State) : Res := onBlock s fun s =>
  if 8 ≤ e ∨ 3 ≤ line then .next s
  else if (s.phase ≠ .active ∧ s.phase ≠ .park) ∨ !encOn s e then .next s
  else .next (emuFollow (s.clk.tb - encFilt s e) e (encEdge e line lvl s))

/-- INDEX (R282, R283): input e captures an index. -/
def execIndex (e : Nat) (s : State) : Res := onBlock s fun s =>
  if 8 ≤ e then .next s
  else if s.phase ≠ .active ∨ !encOn s e ∨ !s.bit (encCfg e) 6 ∨ encCpr s e = 0 ∨ 3 < encMode s e then .next s
  else .next (emuFollow (s.clk.tb - encFilt s e) e (encIndexAct e (s.clk.tb - encFilt s e) s))

/-- Whether a line or an axis uses an input (R290). -/
def encUsed (s : Block) (e : Nat) : Bool :=
  (List.range 8).any (fun l =>
    let g := s.get (lnGeom l)
    s.bit (lnCfg l) 0 && ((s.ownNode (fld g 51 40) && fld g 34 32 == e) ||
      (bitAt g 99 && s.ownNode (fld g 111 100) && fld g 98 96 == e))) ||
  (List.range 12).any (fun a => s.bit (axCfg a) 0 && s.fget (axCfg a) 4 3 != 0 && s.fget (axCfg a) 7 5 == e)

/-- The check of a PRESET (R290). -/
def presetCheck (e : Nat) (s : Block) : Nat := need (!encUsed s e) 0x0309

/-- A PRESET taken (R289): it acts at the next class A boundary. -/
def presetAct (e v : Nat) (s : Block) : Block := s.setEch e { s.ech e with preset := some (toS 64 v) }

/-- ENC_PRESET (R289, R290). -/
def execEncPreset (i e v : Nat) (s : State) : Res := onBlock s fun s =>
  hostCommand i (encPreset e) false (presetCheck e) (presetAct e v) noRefuse s

/-- REBASE (R287, R290). -/
def execRebase (i o : Nat) (s : State) : Res := onBlock s fun s =>
  hostCommand i (emuCmd o) false (encReady (emuStat o)) (emuRebase o) noRefuse s

/-- The check of a RATIO write (R290). -/
def ratioCheck (v : Nat) (_ : Block) : Nat := need (v < 2 ^ 64 && fld v 31 0 != 0 && fld v 63 32 != 0) 0x0201

/-- A RATIO write taken (R287). -/
def ratioAct (o v : Nat) (s : Block) : Block :=
  emuRebase o ((s.put (emuRatio o) v).markVol (emuRatio o))

/-- RATIO_WRITE (R287, R290). -/
def execRatioWrite (i o v : Nat) (s : State) : Res := onBlock s fun s =>
  hostCommand i (emuRatio o) false (fun x => firstErr [numErr x (emuRatio o) v, ratioCheck v x]) (ratioAct o v) noRefuse s

/-- EMULATION_EDGE (R288): EDGE_MIN after the last edge, a non-zero lag moves OUT one edge. -/
def execEmulationEdge (o : Nat) (s : State) : Res := onBlock s fun s =>
  if 4 ≤ o then .next s
  else if !emuOn s o then .next s
  else
    let s0 := emuUpdate o s
    let lag := emuTarget s0 o - (s0.mch o).out
    if lag = 0 then .next s0
    else
      let s1 := s0.advanceTo ((s0.mch o).edgeAt + emuEdgeMin s0 o)
      .next (emuUpdate o (s1.setMch o { s1.mch o with out := (s1.mch o).out + (if lag < 0 then -1 else 1), edgeAt := s1.clk.raw }))

/-- Checks of an input's or output's attribute that involve others (R287, R290). -/
def encCross (a : Attr) (s : Block) : List Nat :=
  let n := a.idx
  if a.kind = 0 then
    (match a.att with
     | 0x020 => [need (encOfsOk s n) 0x0201,
         need ((List.range 12).all (fun x => s.fget (axCfg x) 7 5 != n || axFbOk s x)) 0x0309]
     | 0x021 => [need (encOfsOk s n) 0x0201]
     | _ => [])
  else
    (match a.att with
     | 0x020 =>
       let k := emuSrc s n
       [need (!s.bit (emuCfg n) 0 || (match emuKind s n with
         | 0 => s.bit (encCfg k) 0
         | 1 => s.bit (axCfg k) 0
         | 2 => s.bit (lnCfg k) 0 && s.fget (lnGeom k) 95 64 != 0
         | _ => false)) 0x0206]
     | _ => [])

/-- Effects of a write of an input's or output's attribute (R275, R286, R287): an output already enabled goes on from its OUT,
from a new source without a step (log entry 47). -/
def encWritten (old : Block) (a : Attr) (s : Block) : Block :=
  let n := a.idx
  if a.kind = 1 then
    (match a.att with
     | 0x020 =>
       let s1 := s.putBit (emuStat n) 0 (s.bit (emuCfg n) 0 && !s.bit (emuStat n) 1)
       if !s.bit (emuCfg n) 0 || !old.bit (emuCfg n) 0 then emuEnable n s1
       else if old.fget (emuCfg n) 7 1 = s.fget (emuCfg n) 7 1 then emuUpdate n s1
       else emuRebase n (s1.setMch n { s1.mch n with hold := emuSource s1 n } |>.putBit (emuStat n) 3 false)
     | 0x021 => emuRebase n s
     | 0x022 => emuUpdate n s
     | _ => s)
  else if a.att = 0x020 then
    let c := s.ech n
    let p := hallPos c.a c.b c.z
    let s1 := if encMode s n = 5 ∧ p ≠ 6 then s.setEch n { c with hall := p } else s
    (encStill n s1).putBit (encStat n) 0 (s.bit (encCfg n) 0 && !s.bit (encStat n) 1)
  else s

end Sys2Proof.Machine
end

