-- ==== Sys2Proof/Machine/Firn.lean ====
section
/-! DEFINITION. Machine/Firn.lean: what leaves the event queue, Firn's readiness and the trend records (R67, R93, R94,
R358). -/

namespace Sys2Proof.Machine

/-- The queue number up to which a stream has received the records of a queue (R94, R356): its first unacknowledged record,
or the next to look at; `rq`: the second queue, which a stream without RING does not hold. -/
def streamDone (rq : Bool) (t : Stream) : Nat :=
  match ((t.win.map (fun p => p.recs)).flatten).find? (fun e => e.1 == rq) with
  | some e => e.2.1
  | none => if rq then t.rnext else t.next

/-- Whether every open event stream has received a record; one that has fallen 4096 records behind does not hold the queue (R94). -/
def allReceived (rq : Bool) (s : Block) (num : Nat) : Bool :=
  let newest := if rq then s.ringq.nextNum else s.evq.nextNum
  s.host.sess.all (fun x => match x.stream with
    | some t => (rq && !t.ring) || num < streamDone rq t || streamDone rq t + evDepth ≤ newest
    | none => true)

/-- Records leave the head of a queue once Firn has committed them and every open session has received them (R94); those the
HEADs have yet to receive are kept for the EVENT frames (R93). -/
def evTrim (s : Block) : Block :=
  let gone := s.evq.q.takeWhile (fun r => r.firn && allReceived false s r.num)
  let due := if s.role = 1 then [] else (gone.filter (fun r => s.floe.evNext ≤ r.num)).map (fun r => r.ev)
  { s with evq := { s.evq with q := s.evq.q.drop gone.length }
           ringq := { s.ringq with q := s.ringq.q.dropWhile (fun r => r.firn && allReceived true s r.num) }
           floe := { s.floe with evOut := s.floe.evOut ++ due
                                 evNext := match gone.getLast? with | some r => max s.floe.evNext (r.num + 1) | none => s.floe.evNext } }

/-- Firn commits one queued record. -/
def evCommitOne (s : Block) (r : QRec) : Block := s.firnWrite 1 ⟨r.ev.ts, 0xFFFF, evBytes r.ev⟩

/-- Every queued record committed to Firn (R74, R93). -/
def evFlush (s : Block) : Block :=
  if !s.firnReady then s
  else
    let s1 := ((s.evq.q ++ s.ringq.q).filter (fun r => !r.firn)).foldl evCommitOne s
    evTrim { s1 with evq := { s1.evq with q := s1.evq.q.map (fun r => { r with firn := true }) }
                     ringq := { s1.ringq with q := s1.ringq.q.map (fun r => { r with firn := true }) } }

/-- The next records of a stream, at most `n` (R356): the own queue's first, then the second queue's under RING. -/
def evtNext (n : Nat) (t : Stream) (s : Block) : List (Bool × Nat × EvRec) :=
  let own := (s.evq.q.filter (fun r => t.next ≤ r.num && t.minSev ≤ r.ev.sev)).map (fun r => (false, r.num, r.ev))
  let ring := if t.ring then
      (s.ringq.q.filter (fun r => t.rnext ≤ r.num && t.minSev ≤ r.ev.sev)).map (fun r => (true, r.num, r.ev)) else []
  (own ++ ring).take n

/-- The payload of EVT_DATA (R91, R356). -/
def evtBytes (sseq : Nat) (l : List EvRec) : List Byte :=
  leBytes 4 sseq ++ leBytes 2 l.length ++ zeros 2 ++ (l.map evBytes).flatten

/-- One EVT_DATA of session entry `i`, where its window and its records allow (R356); a stream that has fallen behind the
oldest queued record receives 0x0F with CODE 1 first (R94). -/
def evtSend (i : Nat) (s : Block) : Block :=
  match s.sessAt i with
  | none => s
  | some x => match x.stream with
    | none => s
    | some t =>
      let old := match s.evq.q with | [] => s.evq.nextNum | r :: _ => r.num
      let lost : List (Bool × Nat × EvRec) := if t.next < old then
          [(false, t.next, ⟨s.clk.tb % 2 ^ 64, s.img.node, 0x0F, sevWarn, s.unsync, 1, oidOf evt0, (old - t.next) % 2 ^ 32⟩)] else []
      let t1 := { t with next := max t.next old }
      let l := lost ++ evtNext (58 - lost.length) t1 s
      let own := l.filter (fun e => !e.1)
      let ring := l.filter (fun e => e.1)
      let full := decide (l.length = 58)
      let nx := match own.getLast? with | some e => max t1.next (e.2.1 + 1) | none => t1.next
      let rx := match ring.getLast? with | some e => e.2.1 + 1 | none => t1.rnext
      let t2 := { t1 with next := if full then nx else s.evq.nextNum, rnext := if full then rx else s.ringq.nextNum }
      if 8 ≤ t.win.length then s
      else if l.isEmpty then s.setSess i { x with stream := some t2 }
      else
        let t3 := { t2 with win := t2.win ++ [⟨t.sseq, l⟩], sseq := t.sseq + l.length, sentAt := s.clk.raw }
        (s.setSess i { x with stream := some t3 }).send (.evt x.handle (evtBytes t.sseq (l.map (fun e => e.2.2))))

/-- Every stream sends what its window allows. -/
def evtPump (s : Block) : Block := forN 4 (fun i x => forN 8 (fun _ y => evtSend i y) x) s

/-- EVENT_FIRN_COMMIT (R93, R356): the open streams send what they may, and Firn, once it is READY, commits the oldest record it
has not yet, of the module's queue or of the second. -/
def execEventFirnCommit (s : State) : Res := onBlock s fun s =>
  if !s.firnReady then .next (evtPump s)
  else match s.evq.q.find? (fun r => !r.firn) with
    | some r =>
      let s1 := evCommitOne s r
      .next (evTrim (evtPump { s1 with evq := { s1.evq with
        q := s1.evq.q.map (fun x => if x.num = r.num then { x with firn := true } else x) } }))
    | none => match s.ringq.q.find? (fun r => !r.firn) with
      | none => .next (evtPump s)
      | some r =>
        let s1 := evCommitOne s r
        .next (evTrim (evtPump { s1 with ringq := { s1.ringq with
          q := s1.ringq.q.map (fun x => if x.num = r.num then { x with firn := true } else x) } }))

/-- EVT_LOST (R94): the queue has fallen below 3072 records after discards. -/
def execEvtLost (s : State) : Res := onBlock s fun s =>
  if s.evq.lostCnt = 0 ∨ 3072 ≤ s.evq.q.length then .next s
  else
    let d := pack [(s.evq.lostCnt % 2 ^ 32, 0), (s.evq.lostTs % 2 ^ 32, 32)]
    .next ({ s with evq := { s.evq with lostCnt := 0, lostTs := 0 } }.raise 0x0F sevWarn evt0 d)

/-- FIRN_READY (R67): the mount or the journal replay is complete. -/
def execFirnReady (s : State) : Res := onBlock s fun s =>
  if (s.phase ≠ .active ∧ s.phase ≠ .noImage) ∨ s.firnReady ∨ s.bit firnStat 1 then .next s
  else .next (((s.putBit firnStat 0 true).putBit firnStat 2 s.firn.replay).putBit modeReady 10 true)

/-- An entry of FIRN.TREND. -/
def trendEntry (s : Block) (e : Nat) : Nat := entry (s.get firnTrend) 64 e

/-- The bytes of a trend record (the *Trend record* table). -/
def trendBytes (s : Block) (a : TrendAcc) : List Byte :=
  let b := leBytes 8 a.ts ++ leBytes 2 s.img.node ++ leBytes 2 a.entry ++ leBytes 2 a.period ++ leBytes 1 a.vals.length ++
    leBytes 1 0 ++ (a.vals.map (leBytes 4)).flatten ++ zeros (240 - 4 * a.vals.length)
  b ++ leBytes 4 (crc32 b)

/-- Writes a trend record to Firn (R358). -/
def trendWrite (s : Block) (a : TrendAcc) : Block :=
  if a.vals.isEmpty ∨ !s.firnReady then s else s.firnWrite 4 ⟨a.ts, a.entry, trendBytes s a⟩

/-- Every open trend record closed (PARK, power fail). -/
def trendClose (s : Block) : Block :=
  let s1 := s.firn.accs.foldl trendWrite s
  { s1 with firn := { s1.firn with accs := [] } }

/-- TREND_SAMPLE (R358): entry `e` at its next period multiple. -/
def execTrendSample (e : Nat) (s : State) : Res := onBlock s fun s =>
  if 512 ≤ e then .next s
  else
    let w := trendEntry s e
    if s.phase ≠ .active ∨ !bitAt w 63 ∨ fld w 53 48 = 0 then .next s
    else
      let p := fld w 53 48
      let t := nextMultiple (p * nsPerS) s.clk.tb
      let s1 := s.advanceTb t
      let v := match srcValidLocal s1 (fld w 31 0) (fld w 43 32) (2 * p * nsPerS) t with
        | some x => satS 32 x
        | none => 0x80000000
      let a : TrendAcc := match s1.firn.accs.find? (fun x => x.entry == e) with
        | some x => { x with vals := x.vals ++ [v] }
        | none => ⟨e, t, p, [v]⟩
      let rest := s1.firn.accs.filter (fun x => x.entry != e)
      let s2 := { s1 with firn := { s1.firn with accs := if a.vals.length < 60 then rest ++ [a] else rest } }
      .next (if a.vals.length < 60 then s2 else trendWrite s2 a)

end Sys2Proof.Machine
end

