-- ==== Sys2Proof/Machine/Key.lean ====
section
/-! DEFINITION. Machine/Key.lean: the configuration key's flash, its slots and marks, and the structural checks of an image
(02, R41 to R53). -/

namespace Sys2Proof.Machine

/-- The flash with one byte set; an erased byte is not listed. -/
def flashPut : List (Nat × Byte) → Nat → Byte → List (Nat × Byte)
  | [], a, b => if b = 0xFF then [] else [(a, b)]
  | (k, x) :: r, a, b =>
    if k < a then (k, x) :: flashPut r a b
    else if k = a then (if b = 0xFF then r else (a, b) :: r)
    else if b = 0xFF then (k, x) :: r else (a, b) :: (k, x) :: r

/-- The flash with bytes programmed from an address on. -/
def flashProg : List (Nat × Byte) → Nat → List Byte → List (Nat × Byte)
  | f, _, [] => f
  | f, a, b :: r => flashProg (flashPut f a b) (a + 1) r

/-- The flash with `n` bytes from an address on erased. -/
def flashErase (f : List (Nat × Byte)) (a n : Nat) : List (Nat × Byte) := f.filter (fun e => e.1 < a || a + n ≤ e.1)

/-- `n` bytes from an address on; the list holds no address below it. -/
def flashSpan : List (Nat × Byte) → Nat → Nat → List Byte
  | _, _, 0 => []
  | [], a, n + 1 => 0xFF :: flashSpan [] (a + 1) n
  | (k, b) :: r, a, n + 1 => if k = a then b :: flashSpan r (a + 1) n else 0xFF :: flashSpan ((k, b) :: r) (a + 1) n

/-- Reads `n` bytes of the flash. -/
def flashRead (f : List (Nat × Byte)) (a n : Nat) : List Byte := flashSpan (f.dropWhile (fun e => e.1 < a)) a n

/-- The canonical form of the flash: addresses strictly rising, no erased byte listed. -/
def flashWf : List (Nat × Byte) → Bool
  | [] => true
  | [(_, b)] => b != 0xFF
  | (k, b) :: (k', b') :: r => k < k' && b != 0xFF && flashWf ((k', b') :: r)

/-- A key with its flash in canonical form. -/
def keyNorm (k : KeyDev) : KeyDev := { k with flash := k.flash.foldl (fun f e => flashPut f e.1 e.2) [] }

/-- What R41 asks of a key's own tables. -/
def keyFits (k : KeyDev) : Bool :=
  k.sfdpSig == 0x50444653 && k.sfdpMaj == 1 && 16 ≤ k.dwords && 24 ≤ k.densLog2 && k.densLog2 ≤ 26 && k.fast144 && k.erase4k &&
  k.erase64k && k.page256 && k.quadEn

/-- Whether the module accepts a key (R41, R42): the discovery succeeds at the first or the second attempt. -/
def keyOk (k : KeyDev) : Bool := (k.fail1 == 0 || k.fail2 == 0) && keyFits k

/-- Whether the first attempt succeeds. -/
def keyFirst (k : KeyDev) : Bool := k.fail1 == 0 && keyFits k

/-- The time the *Key discovery sequence* takes: once, or twice with KVCC off for 10 ms between (R42). -/
def keyTime (k : KeyDev) : Nat := if keyFirst k then 2300000 else 14600000

/-- IMAGE.KEY_INFO (the *Other IMAGE attributes* table): what the last attempt read before it failed. -/
def keyInfo (k : KeyDev) : Nat :=
  let stop := if keyFirst k then 0 else k.fail2
  let hdr := stop == 0 || 3 < stop
  let bfpt := (stop == 0 || 4 < stop) && k.sfdpSig == 0x50444653 && k.sfdpMaj == 1
  pack [(if hdr then k.jedec % 2 ^ 24 else 0, 0), (if hdr then k.sfdpMin % 256 else 0, 24),
    (if bfpt then k.densLog2 % 256 else 0, 32)]

/-- The size of a slot in bytes (the *Slot geometry* table). -/
def keySlotSize (k : KeyDev) : Nat := 2 ^ (k.densLog2 - 1)
/-- The base of a slot: A 0, B 1. -/
def keyBase (k : KeyDev) (slot : Nat) : Nat := if slot = 0 then 0 else keySlotSize k
/-- The address of a slot's mark sector. -/
def keyMark (k : KeyDev) (slot : Nat) : Nat := keyBase k slot + keySlotSize k - 4096
/-- The largest image a slot holds (R43). -/
def keyMax (k : KeyDev) : Nat := keySlotSize k - 4096

/-- The module's accepted key. -/
def Block.keyDev (s : Block) : Option KeyDev := match s.key with | some k => if keyOk k then some k else none | none => none

/-- The header bytes of a slot. -/
def slotHdr (k : KeyDev) (slot : Nat) : List Byte := flashRead k.flash (keyBase k slot) 128

/-- Whether reading a slot fails. -/
def readBad (k : KeyDev) (slot : Nat) : Bool := if slot = 0 then k.readBadA else k.readBadB

/-- "EVFO" followed by zeros to offset 15 (R43). -/
def openPattern : List Byte := [0x45, 0x56, 0x46, 0x4F] ++ zeros 12

/-- The mark of a slot and its generation (R44, the *Slot marks* table): 0 UNMARKED, 1 OPEN, 2 COMMITTED, 3 INVALID. -/
def slotMark (k : KeyDev) (slot : Nat) : Nat × Nat :=
  let p0 := flashRead k.flash (keyMark k slot) 256
  let p1 := flashRead k.flash (keyMark k slot + 256) 256
  let h := slotHdr k slot
  let gen := leAt p1 4 4
  let erased := fun (l : List Byte) => l.all (fun b => b == 0xFF)
  if erased p0 && erased p1 then (0, 0)
  else if p0.take 16 == openPattern && erased p1 then (1, 0)
  else if p1.take 4 == [0x45, 0x56, 0x46, 0x43] && leAt p1 60 4 == crc32 (p1.take 60) && 1 ≤ gen && gen ≤ 0xFFFFFFFE &&
      slice p1 8 4 == slice h 8 4 && slice p1 12 2 == slice h 24 2 && slice p1 16 32 == slice h 32 32 then (2, gen)
  else (3, 0)

/-- A commit record (R43). -/
def commitRec (gen : Nat) (h : List Byte) : List Byte :=
  let b := [0x45, 0x56, 0x46, 0x43] ++ leBytes 4 gen ++ slice h 8 4 ++ slice h 24 2 ++ zeros 2 ++ slice h 32 32 ++ zeros 12
  b ++ leBytes 4 (crc32 b)

/-- An image header (R46). -/
structure ImgHdr where
  role    : Nat
  strict  : Bool
  node    : Nat
  sects   : Nat
  keySlot : Nat
  svn     : Nat
  len     : Nat
  hash    : Nat

/-- The fields of a header. -/
def hdrOf (h : List Byte) : ImgHdr :=
  { role := leAt h 12 1, strict := leAt h 13 1 % 2 == 1, node := leAt h 14 2, sects := leAt h 16 2, keySlot := leAt h 18 1,
    svn := leAt h 24 2, len := leAt h 8 4, hash := leAt h 32 32 }

/-- One record of an image (R49): OBJ_ID, KIND, value and the offset in the image. -/
structure ImgRec where
  oid  : Nat
  kind : Nat
  val  : List Byte
  off  : Nat
deriving DecidableEq, Repr

/-- Steps 2 to 7 of the *Boot validation order*. -/
def hdrCheck (h : List Byte) (max : Nat) : Nat :=
  let x := hdrOf h
  if h.take 4 != [0x45, 0x56, 0x46, 0x49] then 0x0601
  else if leAt h 4 1 ≠ 1 ∨ leAt h 5 1 ≠ 0 then 0x0602
  else if leAt h 6 2 ≠ 128 ∨ leAt h 13 1 > 1 ∨ leAt h 19 1 ≠ 0 ∨ leAt h 26 2 ≠ 0 ∨ 3 < x.keySlot ∨ x.sects = 0 ∨ 21 < x.sects
    then 0x0605
  else if x.len % 4 ≠ 0 ∨ x.len < 144 ∨ max < x.len then 0x0603
  else if leAt h 20 4 ≠ 0x4896 then 0x0609
  else if x.role = 0 ∨ 3 < x.role ∨ 4094 < x.node ∨ (x.node = 0 ∧ x.role ≠ 1) then 0x0608
  else 0

/-- The records of a section body (R49): the records, or the error of step 10. -/
def parseRecs (blk : Nat) : Nat → Nat → List Byte → Except Nat (List ImgRec)
  | 0, _, b => if b.isEmpty then .ok [] else .error 0x0606
  | n + 1, off, b =>
    if b.length < 12 then .error 0x0606
    else
      let oid := leAt b 0 4
      let len := leAt b 4 4
      let kind := leAt b 8 1
      let tot := 12 + len + padTo4 len
      if fld oid 31 24 ≠ blk ∨ kind = 0 ∨ 3 < kind ∨ leAt b 9 1 ≠ 0 ∨ leAt b 10 2 ≠ 0 then .error 0x0607
      else if b.length < tot ∨ leNat (slice b (12 + len) (padTo4 len)) ≠ 0 then .error 0x0607
      else match parseRecs blk n (off + tot) (b.drop tot) with
        | .error e => .error e
        | .ok r => .ok (⟨oid, kind, slice b 12 len, off⟩ :: r)

/-- The sections of a body (R48): the records of all, or the error of step 10. -/
def parseSects : Nat → Nat → Nat → List Byte → Except Nat (List ImgRec)
  | 0, _, _, b => if b.isEmpty then .ok [] else .error 0x0606
  | n + 1, last, off, b =>
    let blk := leAt b 0 1
    let len := leAt b 4 4
    if b.length < 16 ∨ blk ≤ last ∨ 21 < blk ∨ leAt b 1 3 ≠ 0 ∨ leAt b 12 4 ≠ 0 ∨ len % 4 ≠ 0 ∨ len < 16 ∨ b.length < len
      then .error 0x0606
    else match parseRecs blk (leAt b 8 4) (off + 16) (slice b 16 (len - 16)) with
      | .error e => .error e
      | .ok r => match parseSects n blk (off + len) (b.drop len) with
        | .error e => .error e
        | .ok r' => .ok (r ++ r')

/-- Whether no attribute has two value records or two NARROW records (R50). -/
def noDuplicates : List ImgRec → Bool
  | [] => true
  | r :: rs => !rs.any (fun x => x.oid == r.oid && ((x.kind == 2) == (r.kind == 2))) && noDuplicates rs

/-- The state of a public-key slot, and its key (R62). -/
def Block.keyState (s : Block) (k : Nat) : Nat := s.fget (imgKey k) 1 0
def Block.keyBytes (s : Block) (k : Nat) : List Byte := leBytes 32 (s.fget (imgKey k) 263 8)

/-- Steps 2 to 10 of the *Boot validation order* on a slot (R47, R48, R53): the records, or the error. -/
def imgStructure (s : Block) (k : KeyDev) (slot : Nat) : Except Nat (List ImgRec) :=
  let h := slotHdr k slot
  let x := hdrOf h
  if readBad k slot then .error 0x060C
  else if hdrCheck h (keyMax k) ≠ 0 then .error (hdrCheck h (keyMax k))
  else
    let body := flashRead k.flash (keyBase k slot + 128) (x.len - 128)
    if sha256 body != slice h 32 32 then .error 0x0604
    else if s.keyState x.keySlot ≠ 1 then .error 0x0503
    else if !edVerify (s.keyBytes x.keySlot) (h.take 64 ++ body) (slice h 64 64) then .error 0x0502
    else if x.svn < s.get imgSvnFloor then .error 0x0505
    else match parseSects x.sects 0 128 body with
      | .error e => .error e
      | .ok r => if noDuplicates r then .ok r else .error 0x060A

/-- SLOT_INFO of a slot from its mark and header (R44), with CHECKED, GOOD and REJECT_ERR. -/
def slotInfo (k : KeyDev) (slot : Nat) (checked good : Bool) (err : Nat) : Nat :=
  let m := slotMark k slot
  let bad := readBad k slot
  let h := hdrOf (slotHdr k slot)
  pack [(m.2, 0), (m.1, 32), (b2n checked, 34), (b2n good, 35), (if bad then 0 else h.role, 40), (if bad then 0 else h.node, 48),
    (if bad then 0 else h.svn, 64), (err, 80), (if bad then 0 else h.len, 96)]

/-- The mark, generation and header fields of both slots shown again, CHECKED and GOOD of an eligible slot and REJECT_ERR kept
(R56), and NEWER_WAITING (the *IMAGE.STATUS* table). -/
def slotShow (s : Block) : Block :=
  match s.keyDev with
  | none => s
  | some k =>
    let one := fun (x : Block) (i : Nat) =>
      let el := (slotMark k i).1 == 0 || (slotMark k i).1 == 2
      x.put (imgSlot i) (slotInfo k i (el && x.bit (imgSlot i) 34) (el && x.bit (imgSlot i) 35) (x.fget (imgSlot i) 95 80))
    let s1 := one (one s 0) 1
    let act := s1.fget imgStatus 1 1
    let gen := fun (i : Nat) => (slotMark k i).2
    s1.putBit imgStatus 5 (s1.bit imgStatus 2 && (slotMark k (1 - act)).1 == 2 && gen act < gen (1 - act))

/-- Staging ends FAILED with a RESULT (R60, R61): 0x25. -/
def stageFail (code : Nat) (s : Block) : Block :=
  let v := s.get imgStage
  let s1 := (s.put imgStage (setFld (setFld v 2 0 5) 31 16 code)).raise 0x25 sevWarn img0 (pack [(code, 0), (fld v 3 3, 16)])
  slotShow { s1 with stage := { s1.stage with owner := none, verified := false } }

/-- What a reset, a loss of power or a module shutdown leaves of staging in progress (R61): before the mark sector is
erased and the open page programmed it may be partly erased, and while the commit record is programmed it may be
incomplete; which of the two outcomes comes is free. -/
def stageCut (s : Block) : Block :=
  let st := s.fget imgStage 2 0
  let slot := s.fget imgStage 3 3
  match s.key with
  | none => s
  | some k =>
    let whole := Config.freeBool s.fresh
    let s1 := { s with fresh := s.fresh + 1 }
    if st = 1 ∧ !s.stage.erased then
      let f := flashErase k.flash (keyMark k slot) 4096
      { s1 with key := some { k with flash := if whole then f else flashPut f (keyMark k slot) 0 } }
    else if st = 3 ∧ s.stage.verified then
      let gen := max (slotMark k 0).2 (slotMark k 1).2 + 1
      { s1 with key := some { k with flash := if whole then flashProg k.flash (keyMark k slot + 256) (commitRec gen (slotHdr k slot))
                                               else flashPut k.flash (keyMark k slot + 256) 0 } }
    else s

/-- Staging abandoned by a module shutdown (R61, R297). -/
def stageDrop (s : Block) : Block := { (stageCut s).put imgStage 0 with stage := stageInit }

end Sys2Proof.Machine
end

