-- ==== Sys2Proof/Machine/Sess.lean ====
section
/-! DEFINITION. Machine/Sess.lean: host sessions: their entries, their end (R347 to R349), and HOST.STAT. -/

namespace Sys2Proof.Machine

/-- HOST.STAT's counts brought up to date: PROV, SESSIONS, MB_CONN. -/
def hostSync (s : Block) : Block :=
  let held := (s.host.sess.filter (fun x => x.st != .free)).length
  let prov := s.host.sess.any (fun x => x.st != .free && x.prov)
  s.put hostStat (setFld (setFld (setBit (s.get hostStat) 3 prov) 6 4 held) 10 8 s.host.mb.length)

/-- An entry released: it reads 0 and no other entry moves. -/
def sessRelease (i : Nat) (s : Block) : Block := evTrim (hostSync (s.setSess i sessFree))

/-- FIRN.STAT QUERIES (the *FIRN attributes* table). -/
def firnQueries (s : Block) : Block :=
  s.fput firnStat 18 16 ((s.host.sess.filter (fun x => x.query.isSome)).length)

/-- A session closes (R349): cause 1 CLOSE, 2 idle, 3 tag failures, 4 network change, 5 key erased, 6 KEYSW released. The
SERVICE it owns ends, staging it owns fails, and its segment buffer, query and stream end with it. -/
def sessClose (i cause : Nat) (s : Block) : Block :=
  match s.sessAt i with
  | none => s
  | some x =>
    if x.st ≠ .opened then sessRelease i s
    else
      let s1 := s.raise 0x29 sevInfo host0 (pack [(x.handle, 0), (x.level, 16), (x.slot, 24), (cause, 32)])
      let s2 := if s1.modeNo = 5 ∧ s1.fget modeState 18 16 = i + 1 then
          { s1 with mode := { s1.mode with ownerGone := true } } else s1
      let s3 := if s2.stage.owner = some i ∧ 1 ≤ s2.fget imgStage 2 0 ∧ s2.fget imgStage 2 0 ≤ 3 then stageFail 0x0306 s2 else s2
      firnQueries (sessRelease i s3)

/-- Every session closes (R345). -/
def sessCloseAll (cause : Nat) (s : Block) : Block := forN 4 (fun i x => sessClose i cause x) s

end Sys2Proof.Machine
end

