-- ==== Sys2Proof/Machine/Therm.lean ====
section
/-! DEFINITION. Machine/Therm.lean: thermal sensors and zones, throttle steps, zone and module shutdowns and their records
(13). -/

namespace Sys2Proof.Machine

/-- Zone z. -/
def Block.zch (s : Block) (z : Nat) : ThermZone := getL s.therm.zn z thZone0
/-- The machine with zone z replaced. -/
def Block.setZch (s : Block) (z : Nat) (c : ThermZone) : Block :=
  { s with therm := { s.therm with zn := setAt s.therm.zn z c } }

/-- The zone of a sensor (the *Zone classes* table). -/
def thZoneOf (k : Nat) : Nat := if k ≤ 3 then 0 else if k ≤ 24 then k - 3 else 22

/-- The sensors of a zone. -/
def thSensors (z : Nat) : List Nat := (List.range 27).filter (fun k => thZoneOf k == z)

/-- The deepest step of a zone. -/
def thDeepest (z : Nat) : Nat := if z = 0 then 2 else if z ≤ 3 then 1 else if z ≤ 21 then 4 else 0

/-- The highest shutdown threshold of a zone's class, in 0.01 °C. -/
def thHighest (z : Nat) : Int := if z ≤ 3 then 14800 else if z ≤ 21 then 15000 else 11500

/-- The state of a sensor: 0 OK, 1 BROKEN, 2 NOT_FITTED, 3 LOCAL. -/
def thState (s : Block) (k : Nat) : Nat := s.fget (thStat k) 1 0

/-- The temperature a sensor reads, if it does. -/
def thRead (s : Block) (k : Nat) : Option Int :=
  let v := s.fget (thValue k) 79 64
  if thState s k = 0 ∧ v ≠ 0x8000 then some (toS 16 v) else none

/-- The zone temperature (R292): the highest reading of the sensors that are not broken. -/
def thTemp (s : Block) (z : Nat) : Option Int :=
  ((thSensors z).filterMap (thRead s)).foldl (fun m t => match m with | some x => some (max x t) | none => some t) none

/-- Whether some, or all, of a zone's sensors are broken. -/
def thSomeBroken (s : Block) (z : Nat) : Bool := (thSensors z).any (fun k => thState s k == 1)
def thAllBroken (s : Block) (z : Nat) : Bool := (thSensors z).all (fun k => thState s k == 1)

/-- W, H, S of a zone, and its hysteresis, in 0.01 °C. -/
def thW (s : Block) (z : Nat) : Int := toS 16 (s.fget (tzCfg z) 15 0)
def thH (s : Block) (z : Nat) : Int := toS 16 (s.fget (tzCfg z) 31 16)
def thS (s : Block) (z : Nat) : Int := toS 16 (s.fget (tzCfg z) 47 32)
def thY (s : Block) (z : Nat) : Int := (s.fget (tzCfg z) 55 48 * 10 : Nat)

/-- Brings a zone's STATE, BROKEN and TEMP up to date. -/
def thSync (z : Nat) (s : Block) : Block :=
  let st := s.fget (tzStat z) 2 0
  let code := if st = 3 ∨ st = 4 then st
    else if (thSensors z).all (fun k => thState s k == 2) then 5
    else if s.zoneStep z ≠ 0 then 2 else b2n (s.zch z).warn
  let s1 := (s.fput (tzStat z) 2 0 code).putBit (tzStat z) 6 (thSomeBroken s z)
  match thTemp s z with
  | some t => s1.fput (tzStat z) 31 16 (satS 16 t)
  | none => s1

/-- What the stage of a zone does after the zone's step or shutdown changed (the *Zone classes* table); `down`: a step
down. -/
def thStage (z : Nat) (down : Bool) (s : Block) : Block :=
  if z = 0 then (if down then shedUnfit 2 (seracSync s) else seracSync s)
  else if z ≤ 3 then feZone (z - 1) s
  else if z ≤ 9 then vZone (z - 4) s
  else if z ≤ 21 then axZone (z - 10) s
  else s

/-- Sets a zone's step, raising 0xE9 (and 0x74 for the core zone) once for each step between. -/
def thSetStep (z dest : Nat) (s : Block) : Block :=
  let frm := s.zoneStep z
  let down := frm < dest
  let one := fun (k : Nat) (x : Block) =>
    let st := if down then frm + k + 1 else frm - k - 1
    let x1 := x.fput (tzStat z) 5 3 st
    let x2 := if down then x1.countUp (tzCount z) 63 32 else x1
    let x3 := x2.raise 0xE9 (if down then sevWarn else sevInfo) (tzObj z) st
    if z = 0 then x3.raise 0x74 (if down then sevWarn else sevInfo) ⟨7, 0, 0, 0⟩ st else x3
  if frm = dest then s else thStage z down (thSync z (forN ((frm - dest) + (dest - frm)) one s))

/-- Sets or clears a zone's warning, with 0xE8 at each change. -/
def thSetWarn (z : Nat) (on : Bool) (s : Block) : Block :=
  if (s.zch z).warn = on then s
  else
    let s1 := s.setZch z { s.zch z with warn := on }
    let s2 := if on then s1.countUp (tzCount z) 31 0 else s1
    s2.raise 0xE8 (if on then sevWarn else sevInfo) (tzObj z)
      (match thTemp s z with | some t => satS 16 t | none => 0x8000)

/-- A shutdown record (R298) as its 64 bytes. -/
def sdBytes (s : Block) (kind z cause sensor temp : Nat) (latched : Bool) (unacked : Nat) : List Byte :=
  let b := leBytes 8 s.clk.tb ++ leBytes 2 s.img.node ++ leBytes 1 kind ++ leBytes 1 z ++ leBytes 1 cause ++
    leBytes 1 sensor ++ leBytes 2 temp ++ leBytes 1 s.modeNo ++ leBytes 1 (s.zoneStep z) ++ leBytes 1 (b2n latched) ++
    leBytes 1 unacked ++ leBytes 4 (s.mram.sdSeq + 1) ++ zeros 36
  b ++ leBytes 4 (crc32 b)

/-- How many shutdown records of a zone lie within the last 60 min (R296). -/
def sdWithin (s : Block) (z : Nat) : Nat :=
  (s.mram.sdRing.filter (fun r => r.zone == z && r.ts ≤ s.clk.tb && s.clk.tb ≤ r.ts + 3600 * nsPerS)).length

/-- Zone shutdown (R296, R298, R299): the record, SD_LAST, the latch at the third within 60 min, the stage off. -/
def zoneShutdown (z cause sensor : Nat) (s : Block) : Block :=
  let temp := if cause = 2 then 0x8000 else match thTemp s z with | some t => satS 16 t | none => 0x8000
  let n := sdWithin s z + 1
  let latch := 3 ≤ n
  let w := leNat (sdBytes s 1 z cause sensor temp latch 0)
  let s1 := { s with mram := { s.mram with
    sdRing := ((⟨z, s.clk.tb, w⟩ : SdRec) :: s.mram.sdRing).take 64, sdSeq := s.mram.sdSeq + 1
    sdLatched := if latch then z :: s.mram.sdLatched.filter (fun x => x != z) else s.mram.sdLatched } }
  let s2 := (((s1.put (tzSdLast z) w).fput (tzStat z) 2 0 (if latch then 4 else 3)).countUp (tzCount z) 95 64)
  let s3 := (s2.setZch z { s2.zch z with hotAt := none, coolAt := none, clearAt := none }).raise 0xEA sevFault (tzObj z) cause
  let s4 := if latch then s3.raise 0xED sevFault (tzObj z) (pack [(cause, 0), (satU 8 n, 8)]) else s3
  thStage z false (thSync z s4)

/-- Module shutdown (R297, R298): every output off, the record in its reserved slot, SD_UNACK, and the halt. -/
def moduleShutdown (z cause sensor : Nat) (s : Block) : Block :=
  let temp := if cause = 2 then 0x8000 else match thTemp s z with | some t => satS 16 t | none => 0x8000
  let un := if s.bit modeState 9 then satInc 8 (fld (s.get tzSdModule) 159 152) else 0
  let w := leNat (sdBytes s 2 z cause sensor temp false un)
  let s1 := { (axGateStop (stageDrop s)) with phase := .halted }
  let s2 := vEvalAll false s1
  let s3 := forN 48 feSync s2
  let s4 := (s3.put tzSdModule w).putBit modeState 9 true
  let s5 := { s4 with mram := { s4.mram with sdSeq := s4.mram.sdSeq + 1, sdNew := some (s4.clk.tb, s4.unsync) } }
  ((s5.putBit (floePort 0) 2 false).putBit (floePort 1) 2 false).putBit (floePort 2) 2 false

/-- What a zone does at S or with every sensor broken: CORE and BOARD shut the module down, BOARD not for broken sensors. -/
def thShut (z cause sensor : Nat) (s : Block) : Block :=
  if z = 22 ∧ cause = 2 then thSync z s
  else if z = 0 ∨ z = 22 then moduleShutdown z cause sensor s
  else if s.zoneDown z then thSync z s
  else zoneShutdown z cause sensor s

/-- The throttle of a zone at temperature t (R294): the first step, and the stretches below and above its points. -/
def thThrottle (z : Nat) (t : Int) (s : Block) : Block :=
  let c := s.zch z
  if thDeepest z = 0 then s
  else if thH s z ≤ t then
    let s1 := s.setZch z { c with hotAt := some (c.hotAt.getD s.clk.raw), coolAt := none }
    if c.hotAt.isNone ∧ s.zoneStep z < thDeepest z then thSetStep z (s.zoneStep z + 1) s1 else s1
  else
    s.setZch z { c with hotAt := none
                        coolAt := if t < thH s z - thY s z then some (c.coolAt.getD s.clk.raw) else none }

/-- Evaluates a zone at a sample of sensor k (R294 to R297). -/
def thEval (z k : Nat) (s : Block) : Block :=
  match thTemp s z with
  | none => thSync z s
  | some t =>
    let held := thSomeBroken s z
    let s1 := if thW s z ≤ t then thSetWarn z true s
      else if t < thW s z - thY s z ∧ !held then thSetWarn z false s else s
    if s1.zoneDown z then
      thSync z (s1.setZch z { s1.zch z with
        clearAt := (if t < thS s z - thY s z then some ((s1.zch z).clearAt.getD s.clk.raw) else none) })
    else if thS s z ≤ t then thShut z 1 k s1
    else if held then thSync z s1
    else thSync z (thThrottle z t s1)

/-- Whether the thermal sensors are evaluated. -/
def thRuns (s : Block) : Bool :=
  match s.phase with
  | .active => true
  | .park => true
  | .noImage => true
  | _ => false

/-- The temperature a raw reading of a sensor stands for: in 0.01 °C on die and board, or the voltage at NTCa in µV
through the axis's NTC_CURVE (R291). -/
def thConvert (s : Block) (k : Nat) (x : Int) : Option Int :=
  if 13 ≤ k ∧ k ≤ 24 then
    match s.elems (axNtc (k - 13)) with
    | none => none
    | some rows =>
      if x < 0 ∨ 3300000 ≤ x then none
      else
        let y := interp 2 0 1 rows (rows.length / 2) (100000 * x, 3300000 - x)
        if y.2 then none else some (rdivI y.1.1 y.1.2)
  else some x

/-- A reading of a sensor taken (R294). -/
def thTake (k : Nat) (t : Int) (s : Block) : Block :=
  thEval (thZoneOf k) k (s.put (thValue k) (pack [(s.clk.tb % 2 ^ 64, 0), (satS 16 t, 64)]))

/-- THERM_SAMPLE (R292, R294). -/
def execThermSample (k : Nat) (x : Int) (s : State) : Res := onBlock s fun s =>
  if 33 ≤ k then .next s
  else if 27 ≤ k ∨ !thRuns s ∨ thState s k ≠ 0 then .next s
  else match thConvert s k x with
    | some t => .next (thTake k t s)
    | none => .next s

/-- THERM_STEP_DOWN (R294): a further step every 2 s at or above H. -/
def execThermStepDown (z : Nat) (s : State) : Res := onBlock s fun s =>
  if 23 ≤ z then .next s
  else match (s.zch z).hotAt with
    | none => .next s
    | some t =>
      if !thRuns s ∨ s.zoneDown z ∨ thDeepest z ≤ s.zoneStep z then .next s
      else
        let s1 := s.advanceTo (t + 2 * nsPerS)
        .next (thSetStep z (s1.zoneStep z + 1) (s1.setZch z { s1.zch z with hotAt := some s1.clk.raw }))

/-- THERM_STEP_RELEASE (R294, R295): a step after each 10 s below H − Y. -/
def execThermStepRelease (z : Nat) (s : State) : Res := onBlock s fun s =>
  if 23 ≤ z then .next s
  else match (s.zch z).coolAt with
    | none => .next s
    | some t =>
      if !thRuns s ∨ s.zoneDown z ∨ s.zoneStep z = 0 ∨ thSomeBroken s z then .next s
      else
        let s1 := s.advanceTo (t + 10 * nsPerS)
        .next (thSetStep z (s1.zoneStep z - 1) (s1.setZch z { s1.zch z with coolAt := some s1.clk.raw }))

/-- The return of a zone from its shutdown (R296): at its deepest step. -/
def thReturn (z : Nat) (s : Block) : Block :=
  let cool := match thTemp s z with | some t => decide (t < thH s z - thY s z) | none => false
  let s1 := ((s.fput (tzStat z) 2 0 2).fput (tzStat z) 5 3 (thDeepest z)).setZch z
    { s.zch z with hotAt := none, coolAt := if cool then some s.clk.raw else none, clearAt := none }
  let s2 := { s1 with mram := { s1.mram with sdLatched := s1.mram.sdLatched.filter (fun x => x != z) } }
  thStage z false (thSync z (s2.raise 0xEA sevInfo (tzObj z) 0))

/-- ZONE_SHUTDOWN_CLEAR (R296): 60 s below S − Y with at least one sensor restored. -/
def execZoneShutdownClear (z : Nat) (s : State) : Res := onBlock s fun s =>
  if 23 ≤ z then .next s
  else match (s.zch z).clearAt with
    | none => .next s
    | some t =>
      if !thRuns s ∨ s.fget (tzStat z) 2 0 ≠ 3 ∨ thAllBroken s z then .next s
      else .next (thReturn z (s.advanceTo (t + 60 * nsPerS)))

/-- SENSOR_BROKEN (R291, R295): cause 1 open, 2 short, 3 out of range, 4 stuck. -/
def execSensorBroken (k cause : Nat) (s : State) : Res := onBlock s fun s =>
  if 33 ≤ k then .next s
  else if 27 ≤ k ∨ !thRuns s ∨ thState s k ≠ 0 then .next s
  else
    let z := thZoneOf k
    let s1 := ((s.fput (thStat k) 1 0 1).fput (thStat k) 4 2 cause).fput (thValue k) 79 64 0x8000
    let s2 := s1.raise 0xEC sevWarn (tzObj z) (pack [(k, 0), (cause % 256, 8)])
    if thAllBroken s2 z ∧ z ≠ 22 then .next (thShut z 2 0xFF (s2.setZch z { s2.zch z with clearAt := none }))
    else
      let s3 := thSetWarn z true s2
      .next (if s3.zoneDown z then thSync z s3 else thSync z (thSetStep z (max (s3.zoneStep z) (thDeepest z)) s3))

/-- SENSOR_RESTORED (R291, R295): valid and following the offset for 10 s; `x` is the reading. -/
def execSensorRestored (k : Nat) (x : Int) (s : State) : Res := onBlock s fun s =>
  if 33 ≤ k then .next s
  else if 27 ≤ k ∨ !thRuns s ∨ thState s k ≠ 1 then .next s
  else match thConvert s k x with
    | none => .next s
    | some t =>
      let z := thZoneOf k
      let s1 := (s.fput (thStat k) 4 0 0).raise 0xEC sevInfo (tzObj z) k
      .next (thTake k t (s1.setZch z { s1.zch z with coolAt := none }))

/-- The check of a zone's CLEAR (R300). -/
def tzClearCheck (z : Nat) (s : Block) : Nat :=
  need (s.fget (tzStat z) 2 0 == 4 && (match thTemp s z with | some t => decide (t < thS s z - thY s z) | none => false)) 0x0304

/-- THERM_CLEAR (R296, R300). -/
def execThermClear (i z : Nat) (s : State) : Res := onBlock s fun s =>
  hostCommand i (tzCmd z) false (tzClearCheck z) (thReturn z) noRefuse s

/-- SHUTDOWN_BOOT_RETRY (R297, step 7): boot step 1 looks at the CORE and BOARD sensors again after 10 s. -/
def execShutdownBootRetry (cool : Bool) (s : State) : Res := onBlock s fun s =>
  if s.phase ≠ .pending ∨ s.rst.sdWait = 0 then .next s
  else
    let s1 := s.advanceTo (s.rst.sdWait + 10 * nsPerS)
    .next { s1 with rst := { s1.rst with sdWait := if cool then 0 else s1.clk.raw } }

/-- The sensors and zones as a boot leaves them (R291, R292, R294, R296). -/
def thermBoot (s : Block) : Block :=
  let s1 := { s with therm := thermInit }
  let s2 := forN 33 (fun k x =>
    let st := if 27 ≤ k then 3 else if 13 ≤ k ∧ k ≤ 24 ∧ (x.tab (axNtc (k - 13))).isNone then 2 else 0
    (x.put (thStat k) (pack [(st, 0), (if 27 ≤ k then 0xFF else thZoneOf k, 8)])).put (thValue k) (0x8000 * 2 ^ 64)) s1
  forN 23 (fun z x =>
    let w := match x.mram.sdRing.find? (fun r => r.zone == z) with | some r => r.word | none => 0
    thSync z ((x.put (tzStat z) (if x.mram.sdLatched.contains z then 4 else 0)).put (tzSdLast z) w)) s2

/-- R293: the order of a zone's thresholds. -/
def thCfgOk (z v : Nat) : Bool :=
  let w := toS 16 (fld v 15 0)
  let h := toS 16 (fld v 31 16)
  let sd := toS 16 (fld v 47 32)
  (if z = 22 then decide (w < sd) else decide (w ≤ h) && decide (h < sd)) && decide (sd ≤ thHighest z)

/-- Checks a write of a THERM attribute has beyond its fields: the order of a zone's thresholds, and that only sensors 13
to 24 carry an NTC table. -/
def thOwn (a : Attr) (v : Nat) : Nat :=
  if a.kind = 1 ∧ a.att = 0x020 then need (thCfgOk a.idx v) 0x0201 else 0

/-- R291: an NTC table rises in resistance and falls in temperature. -/
def ntcOk (l : List Int) : Bool := ascending (column 2 0 l) && ascending ((column 2 1 l).map (fun x => -x))

/-- An NTC table of axis `a` has been written: its sensor and zone are fitted (R291, R292). -/
def ntcWritten (a : Nat) (s : Block) : Block :=
  thSync (10 + a) (if thState s (13 + a) = 2 then s.fput (thStat (13 + a)) 1 0 0 else s)

/-- Effects of a write of a THERM attribute (R293): H of BOARD is stored as 0. -/
def thWritten (a : Attr) (s : Block) : Block :=
  if a.kind = 1 ∧ a.att = 0x020 ∧ a.idx = 22 then s.fput (tzCfg 22) 31 16 0 else s

end Sys2Proof.Machine
end

