-- ==== Sys2Proof/Machine/Mode.lean ====
section
/-! DEFINITION. Machine/Mode.lean: operating modes and their boundary, park states, the MODE commands, the PERSIST overlay,
and what every reset leaves (03). -/

namespace Sys2Proof.Machine

/-- Whether the functions of the module have been started: a booted module, parked, halted or not. -/
def Block.booted (s : Block) : Bool :=
  match s.phase with
  | .active => true
  | .halted => true
  | .park => true
  | .deepPark => true
  | _ => false

/-- The MRAM-backed registers and those of the terminals that a reset keeps (R81). -/
def keptRegs : List Attr :=
  [devPfCount, devPfLast, devUsMv, devHoldMv, devVrefMv, devVboostMv, modeRstCount, imgKey 0, imgKey 1, imgKey 2, imgKey 3,
   imgSvnFloor, hostAuth 0, hostAuth 1, hostAuth 2, hostAuth 3, tzSdModule, pairEpoch] ++ (List.range 12).map axHours

/-- DEV.SUPPLY_STAT as a reset leaves it: what the terminals show; VBOOST's latch ends (R40). -/
def supplyKept (v : Nat) (lost : Bool) : Nat :=
  setFld (setFld (setBit (setBit v 3 false) 2 (!lost && bitAt v 2 && !bitAt v 3)) 31 24 0) 23 16 0

/-- The values a WARM reset keeps (R79, R81): what hosts have written and no commit has taken. -/
def volVals (s : Block) : List (Attr × AVal) :=
  (s.vol ++ (match s.mode.persistOp with | some p => p.2.2 | none => [])).filterMap (fun a => (s.seen.cur a).map (fun v => (a, v)))

/-- The machine that a reset of a kind leaves, in phase `ph` (R77, R78, R81); `lost`: the supply was lost. The sequencer of
EXT, WDR, WARM and RELOAD saves the encoder counts first. -/
def afterReset (kind : ResetKind) (ph : Phase) (lost : Bool) (s0 : Block) : Block :=
  let s := stageCut s0
  let seq := kind == .ext || kind == .wdr || kind == .warm || kind == .reload
  let m1 := if seq && s.booted then { s.mram with encSaved := encSave s } else s.mram
  let m2 := if !lost && s.booted then { m1 with fanHours := s.axis.ch.map (fun c => c.gateNs) } else m1
  let regs := keptRegs.foldl (fun m a => regsPut m a (s.get a)) Block.reset.regs
  let keep := pack [(b2n (s.bit modeState 8), 8), (b2n (s.bit modeState 9), 9)]
  let r1 := regsPut (regsPut regs modeState keep) devSupply (supplyKept (s.get devSupply) lost)
  { dioReset lost { Block.reset with dio := s.dio } with
    regs := regsPut r1 timeRtc (s.get timeRtc)
    phase := ph
    clk := { clkInit with raw := s.clk.raw, rtcSub := s.clk.rtcSub }
    supply := { supplyInit with usFed := s.supply.usFed, rstLow := s.supply.rstLow }
    key := s.key
    mram := m2
    rst := { rstInit with kind := kind, keepHash := s.img.hash, keepVals := if kind = .warm then volVals s else [] }
    firn := { s.firn with wrapped := [], accs := [], replay := lost }
    enc := { encInit with ch := s.enc.ch.map (fun c => { encCh0 with a := c.a, b := c.b, z := c.z, hall := c.hall }) }
    host := { hostInit with out := s.host.out, wire := s.host.wire }
    net := s.net
    valve := { valveInit with acc := if lost then boostCap else boostNow s, accAt := s.clk.raw }
    fresh := s.fresh
    vol := if kind = .warm then (volVals s).map (fun e => e.1) else [] }

/-- A FALLBACK cause that is present: its FB_CAUSE and its MODE.LAST CAUSE (R73), lowest first. -/
def fbCauses (s : Block) : List (Nat × Nat) :=
  let pl := (List.range 256).any (fun n => s.bit (lpStat n) 15 && s.fget (lpCfg n) 27 26 == 2)
  ((if s.mode.fbWd then [(1, 3)] else []) ++ (if s.mode.fbHeads then [(2, 4)] else []) ++ (if pl then [(3, 5)] else []) ++
   (if s.mode.fbCmd then [(4, 2)] else []) ++ (if s.mode.fbSect then [(4, 0x0B)] else []) ++
   (if s.mode.fbLatch then [(5, 7)] else []) : List (Nat × Nat))

/-- Whether a program HOLD condition is present (R197). -/
def holdHeld (s : Block) : Bool := (List.range 8).any (fun l => lnOn s l && !(s.nch l).latch.isEmpty)

/-- The outputs follow the value that levels 4 and 5 now give them (R70). -/
def outSync (s : Block) : Block :=
  forN 12 (fun a x => if axOn x a then x.putBit (axStat a) 14 (axForced x a) else x) (vEvalAll false s)

/-- Outputs and status follow the mode (R70): the valves, the axes' FORCED bits; a SERVICE entry forgets manual values and
its end clears the PROBEs. -/
def modeOutputs (frm dest : Nat) (s : Block) : Block :=
  let s1 := if dest = 5 then
      { s with dio := { s.dio with ch := s.dio.ch.map (fun c => { c with manSet := false }) }
               valve := { s.valve with ch := s.valve.ch.map (fun c => { c with manSet := false }) }
               axis := { s.axis with ch := s.axis.ch.map (fun c => { c with manSet := false }) } }
    else s
  let s2 := if frm = 5 then forN 6 (fun g x => if x.get (dgProbe g) = 0 then x else dioProbeAct g 0 x) s1 else s1
  outSync s2

/-- Enters a mode (R69, R71, R73): STATE, LAST, the latch, 0x01. -/
def modeEnter (t dest cause fb owner : Nat) (s : Block) : Block :=
  let frm := s.modeNo
  let w := s.get modeState
  let latch := if dest = 4 then true else if frm = 4 then false else bitAt w 8
  let w1 := setFld (setFld (setFld (setBit w 8 latch) 2 0 dest) 15 12 (if dest = 4 then fb else 0)) 18 16 (if dest = 5 then owner else 0)
  let s1 := (s.put modeState w1).put modeLast (pack [(frm, 0), (dest, 8), (cause, 16), (t % 2 ^ 64, 64)])
  let s2 := { s1 with mode := { s1.mode with ownerGone := false, fbCmd := false
                                             fbLatch := if dest = 4 then false else s1.mode.fbLatch } }
  (modeOutputs frm dest s2).raiseAt t 0x01 (if dest = 4 then sevCrit else sevInfo) 0 mode0 (pack [(frm, 0), (dest, 8), (cause, 16)])

/-- 0x02 MODE_CMD_REFUSED. -/
def modeRefused (op code : Nat) (s : Block) : Block :=
  if code = 0x0507 then s else s.raise 0x02 sevInfo mode0 (pack [(op, 0), (code, 16)])

/-- Whether staging is ERASING, OPEN or VERIFYING (R61). -/
def Block.staging (s : Block) : Bool := 1 ≤ s.fget imgStage 2 0 && s.fget imgStage 2 0 ≤ 3

/-- The transition a MODE.CMD asks for, against the present state (the *Mode transitions* table, R73, R74, R83); the owner of
SERVICE is judged where the command was accepted, not at the standby that takes it from a pair's delta (R334). -/
def modeTransition (o : Origin) (op : Nat) (s : Block) : Nat :=
  let m := s.modeNo
  let fb := !(fbCauses s).isEmpty
  match op with
  | 1 => if m = 2 ∨ m = 3 then 0 else if m = 4 then (if fb then 0x0307 else 0)
      else if m = 5 then (if s.ownsService o || o == .pair then 0 else 0x0401) else 0x0301
  | 2 => if m = 1 then
        (if s.role = 3 then 0x0302 else if s.bit modeState 9 then 0x0308 else if s.bit modeState 8 then 0x0307 else 0)
      else if m = 3 then (if holdHeld s then 0x0307 else 0) else 0x0301
  | 3 => if m = 2 then 0 else if m = 4 then (if fb then 0x0307 else 0) else 0x0301
  | 4 => if m = 1 ∨ m = 2 ∨ m = 3 ∨ m = 5 then 0 else 0x0301
  | 5 => if m = 1 then (if s.bit modeState 9 then 0x0308 else 0) else 0x0301
  | 6 => need (m == 1 && s.phase == .active) 0x0301
  | 7 => need (m == 1 && s.phase == .active) 0x0301
  | 8 => need (s.phase == .park) 0x0301
  | 0x10 => need (m != 0) 0x0301
  | 0x11 => need (m != 0) 0x0301
  | 0x20 => need (s.bit modeState 9) 0x0304
  | _ => 0x0201

/-- Whether a MODE.CMD waits for its boundary or its cycle (R69, R334). -/
def modeCmdWaits (s : Block) : Bool := s.mode.cmd.isSome || s.waits modeCmd

/-- The check of a MODE.CMD when it is written (R69, R74, R77): SERVICE needs a session at ENGINEER to own it. -/
def modeCheck (o : Origin) (op : Nat) (s : Block) : Nat :=
  let t := modeTransition o op s
  let sess := match o with | .sess _ => true | _ => false
  if op = 5 ∧ s.levelOf o < 2 then 0x0508
  else if op = 5 ∧ !sess then 0x0301
  else if t ≠ 0 then t
  else if modeCmdWaits s then 0x0401
  else if (op = 6 ∨ op = 7 ∨ op = 0x10 ∨ op = 0x11) ∧ s.staging then 0x0401
  else if (op = 6 ∨ op = 7) ∧ (s.mode.persistOp.isSome ∨ s.waits modePersistCmd) then 0x0401
  else 0

/-- The session entry an origin stands for, 4 where none. -/
def entryOf (o : Origin) : Nat := match o with | .sess i => i | _ => 4

/-- Whether a module with a READY axis, a working core and its PLL in lock may hold DRVEN high (R18). -/
def drvenNow (s : Block) : Bool :=
  (List.range 12).any (fun a => s.bit (axStat a) 0) && !(coresOn s).isEmpty && !s.rst.pllFault

/-- DRVEN brought up to date while the module works (R18). -/
def drvenSync (s : Block) : Block := if s.phase = .active then s.putBit axsStat 1 (drvenNow s) else s

/-- The end of PARK (R75): power, clocks and functions restored, SAFE, RAM as it was; 1 UNPARK, 2 WAKE, 3 RTC. -/
def unpark (cause : Nat) (s : Block) : Block :=
  let s1 := { s with phase := .active, host := { s.host with wdFrom := s.clk.raw } }
  let s2 := (s1.fput modeState 5 4 0).put modeLast (pack [(1, 0), (1, 8), (0x0A, 16), (s.clk.tb % 2 ^ 64, 64)])
  let s3 := (s2.putBit firnStat 0 (!s2.bit firnStat 1)).putBit axsStat 1 (drvenNow s2)
  let s4 := { s3 with serac := { s3.serac with
    cls := s3.serac.cls.map (fun c => { c with last := s3.clk.tb, prog := none, tent := [] })
    loops := s3.serac.loops.map (fun c => { c with run := false }) } }
  let s5 := forN 3 (fun g x => if x.bit (fgStat g) 0 then feGroupRestart g x else x) s4
  let s6 := dioUnpark (emuDrivers (encUnpark (axMclk true s5)))
  (vEvalAll false s6).raise 0x0C sevInfo mode0 (pack [(1, 0), (cause, 8)])

/-- Park entry at its mode boundary (the *Park entry* table). -/
def parkEnter (deep : Bool) (s : Block) : Block :=
  let s1 := { (axGateStop s) with phase := if deep then .deepPark else .park }
  let s2 := forN 48 feSync (emuDrivers (dioParked (vEvalAll false s1)))
  let s3 := (s2.fput modeState 5 4 1).raise 0x0B sevInfo mode0 (if deep then 2 else 1)
  let s4 := trendClose (evFlush s3)
  let s5 := ckptWrite s4.clk.tb (lineCopy s4) s4
  let s6 := { s5 with mram := { s5.mram with encSaved := encSave s5, fanHours := s5.axis.ch.map AxCh.gateNs }
                      floe := { s5.floe with cycle := none, gath := false, cmdd := false, launched := false }
                      line := { s5.line with copy := none } }
  let s7 := ((s6.putBit (floePort 0) 2 false).putBit (floePort 1) 2 false).putBit (floePort 2) 2 false
  let s8 := axMclk false (s7.putBit firnStat 0 false)
  if deep then { (s8.fput devSupply 31 24 0).putBit devSupply 2 false with host := { hostInit with out := s8.host.out, wire := s8.host.wire } } else s8

/-- What an accepted MODE.CMD does when it is written: a command for the boundary waits; UNPARK and ACK_SHUTDOWN act at
once; WARM and RELOAD act once the response is out (modeLate). -/
def modeAct (o : Origin) (op : Nat) (s : Block) : Block :=
  match op with
  | 8 => unpark 1 s
  | 0x20 =>
    let s1 := s.putBit modeState 9 false
    if s1.bit modeState 8 ∧ s1.modeNo = 1 then { s1 with mode := { s1.mode with fbLatch := true } } else s1
  | 4 => { s with mode := { s.mode with cmd := some (op, entryOf o), fbCmd := true } }
  | k => { s with mode := { s.mode with cmd := some (k, entryOf o) } }

/-- The reset a WARM or RELOAD command makes after its response (R77). -/
def modeLate (s : Block) : Block :=
  match s.mode.cmd with
  | some (0x10, _) => afterReset .warm .pending false s
  | some (0x11, _) => afterReset .reload .pending false s
  | _ => s

/-- The request of higher priority than a MODE.CMD that takes effect at a boundary (R68): the mode, its cause, FB_CAUSE. -/
def modeForced (s : Block) : Option (Nat × Nat × Nat) :=
  match fbCauses s with
  | c :: _ => if s.modeNo ≠ 4 ∧ s.modeNo ≠ 0 then some (4, c.2, c.1) else none
  | [] => if s.modeNo = 2 ∧ holdHeld s then some (3, 6, 0) else none

/-- The MODE.CMD that waits, decided at its boundary (R69): taken, or dropped with 0x02. -/
def modeDecide (t : Nat) (s : Block) : Block :=
  match s.mode.cmd with
  | none => s
  | some (op, i) =>
    let s1 := { s with mode := { s.mode with cmd := none, fbCmd := false } }
    let c := modeTransition (if i < 4 then .sess i else .pair) op s1
    if op = 4 then s1
    else if c ≠ 0 then modeRefused op (if c = 0x0307 ∨ c = 0x0308 then c else 0x0301) s1
    else match op with
      | 6 => parkEnter false s1
      | 7 => parkEnter true s1
      | _ => modeEnter t op 2 0 (if i < 4 then i + 1 else 0) s1

/-- Drops the MODE.CMD that waits, outranked at its boundary (R69). -/
def modeDrop (s : Block) : Block :=
  match s.mode.cmd with
  | none => s
  | some (op, _) =>
    let s1 := { s with mode := { s.mode with cmd := none } }
    if op = 4 then s1 else modeRefused op 0x0307 s1

/-- The requests of lower rank at a boundary (R68): the host's, the SERVICE owner's leaving, the applied section's. -/
def modeLower (t : Nat) (s : Block) : Block :=
  if s.mode.cmd.isSome then modeDecide t s
  else if s.mode.ownerGone ∧ s.modeNo = 5 then modeEnter t 1 9 0 0 s
  else match s.mode.sectMode with
    | some m => if s.role = 3 ∧ 1 ≤ m ∧ m ≤ 3 ∧ m ≠ s.modeNo ∧ 1 ≤ s.modeNo ∧ s.modeNo ≤ 3 then modeEnter t m 0x0B 0 0 s else s
    | none => s

/-- A change of mode that no MODE.CMD asks for (R68, R69): forced, or the SERVICE owner's leaving. -/
def modePlan (s : Block) : Option (Nat × Nat × Nat) :=
  match modeForced s with
  | some x => some x
  | none => if s.mode.cmd.isNone ∧ s.mode.ownerGone ∧ s.modeNo = 5 then some (1, 9, 0) else none

/-- The FB_CAUSE that goes with a cause of MODE.LAST (R73). -/
def fbOfCause (c : Nat) : Nat := match c with | 3 => 1 | 4 => 2 | 5 => 3 | 7 => 5 | _ => 4

/-- FALLBACK entered at a boundary of a pair (R73): the lowest cause present there, or the cause `c` it was planned for. -/
def pairFallback (t c : Nat) (s : Block) : Block :=
  match fbCauses s with
  | x :: _ => modeEnter t 4 x.2 x.1 0 (modeDrop s)
  | [] => modeEnter t 4 c (fbOfCause c) 0 (modeDrop s)

/-- Whether a host's FALLBACK has come to its boundary in a pair, where both heads take it (R73, R334). -/
def fbDue (s : Block) : Bool := s.mode.fbCmd && s.modeNo != 4 && s.modeNo != 0

/-- The mode boundary at timebase `t` (R68), in cycle `n` of a pair: there the standby takes the copied mode, the active
head places a change of its own two deltas ahead, and both take a host's FALLBACK (R334). -/
def modeBoundary (t n : Nat) (s : Block) : Block :=
  if s.phase ≠ .active then s
  else if s.standby then
    match s.mode.standbyMode with
    | some (m, c) =>
      let s1 := { s with mode := { s.mode with standbyMode := none } }
      if s.modeNo = 4 then modeDecide t s1 else modeEnter t m c (if m = 4 then fbOfCause c else 0) 0 s1
    | none => if fbDue s then pairFallback t 2 s else modeDecide t s
  else if s.paired ∧ s.pairState = 2 then
    if fbDue s then pairFallback t 2 s
    else match s.pair.modeAt with
    | some (e, m, c) =>
      if e ≤ n then
        let s1 := { s with pair := { s.pair with modeAt := none } }
        if s.modeNo = 4 then modeDecide t s1 else if m = 4 then pairFallback t c s1 else modeEnter t m c 0 0 (modeDrop s1)
      else modeDecide t s
    | none => match modePlan s with
      | some (m, c, _) =>
        let e := pairOpen s + 2
        ({ s with pair := { s.pair with modeAt := some (e, m, c), recs := s.pair.recs + 1 } }).emitState (.mode (pairOpen s) e m c)
      | none => modeLower t s
  else match modeForced s with
    | some (m, c, f) => modeEnter t m c f 0 (modeDrop s)
    | none => modeLower t s

/-- One MODE.CMD written by session entry `i`. -/
def modeCommand (op i : Nat) (s : Block) : BRes :=
  let o := Origin.sess i
  let r := if 1 ≤ op ∧ op ≤ 5 then pairCommand i modeCmd (.num op) (modeCheck o op) (modeAct o op) (modeRefused op) s
    else hostCommand i modeCmd (op == 8) (modeCheck o op) (modeAct o op) (modeRefused op) s
  match r with
  | .next s1 => .next (modeLate s1)
  | x => x

/-- MODE_CMD_SAFE (R69). -/
def execModeCmdSafe (i : Nat) (s : State) : Res := onBlock s fun s => modeCommand 1 i s
/-- MODE_CMD_RUN (R69). -/
def execModeCmdRun (i : Nat) (s : State) : Res := onBlock s fun s => modeCommand 2 i s
/-- MODE_CMD_HOLD (R69). -/
def execModeCmdHold (i : Nat) (s : State) : Res := onBlock s fun s => modeCommand 3 i s
/-- MODE_CMD_FALLBACK (R73). -/
def execModeCmdFallback (i : Nat) (s : State) : Res := onBlock s fun s => modeCommand 4 i s
/-- MODE_CMD_SERVICE (R69). -/
def execModeCmdService (i : Nat) (s : State) : Res := onBlock s fun s => modeCommand 5 i s
/-- MODE_CMD_PARK (R74). -/
def execModeCmdPark (i : Nat) (s : State) : Res := onBlock s fun s => modeCommand 6 i s
/-- MODE_CMD_DEEP_PARK (R74). -/
def execModeCmdDeepPark (i : Nat) (s : State) : Res := onBlock s fun s => modeCommand 7 i s
/-- MODE_CMD_UNPARK (R75). -/
def execModeCmdUnpark (i : Nat) (s : State) : Res := onBlock s fun s => modeCommand 8 i s
/-- MODE_CMD_WARM (R77). -/
def execModeCmdWarm (i : Nat) (s : State) : Res := onBlock s fun s => modeCommand 0x10 i s
/-- MODE_CMD_RELOAD (R77). -/
def execModeCmdReload (i : Nat) (s : State) : Res := onBlock s fun s => modeCommand 0x11 i s
/-- MODE_CMD_ACK_SHUTDOWN (R72, R83). -/
def execModeCmdAckShutdown (i : Nat) (s : State) : Res := onBlock s fun s => modeCommand 0x20 i s

/-- The POR boot that ends DEEP PARK (R76): its wake cause, 2 WAKE or 3 RTC. -/
def deepExit (cause : Nat) (s : Block) : Block :=
  let s1 := afterReset .por .pending true s
  { s1 with rst := { s1.rst with fromDeep := cause }, firn := { s1.firn with replay := false } }

/-- RTC_WAKE (R75, R76): the RTC reaches a non-zero WAKE_TIME. -/
def execRtcWake (s : State) : Res := onBlock s fun s =>
  let w := s.get modeWake
  let r := s.get timeRtc
  if (s.phase ≠ .park ∧ s.phase ≠ .deepPark) ∨ w = 0 ∨ r = 0 then .next s
  else
    let s1 := if r < w then s.elapse (((w - r) * nsPerS - s.clk.rtcSub + 3) / 4) else s
    .next (if s.phase = .park then unpark 3 s1 else deepExit 3 s1)

/-- PERSIST_STAT's description of the overlay in MRAM (the *Other MODE attributes* table). -/
def persistShow (s : Block) : Block :=
  let o := s.mram.overlay
  let stale := o.hash != s.img.hash && !(o.entries.isEmpty && o.hash == 0)
  s.put modePersist (setFld (setFld (setBit (setFld (s.get modePersist) 15 0 o.entries.length) 17 stale) 63 32 (overlayBytes o).length)
    319 64 o.hash)

/-- The RWP attributes that hold a VOLATILE value (R79). -/
def volRwp (s : Block) : List Attr := s.vol.filter (fun a => accessOf a == some .rwp)

/-- The value an attribute has in the image. -/
def imgVal (s : Block) (a : Attr) : Option AVal :=
  if ttypeOf a ≠ 0 then (amapFind s.img.imgTabs a).map AVal.tab else some (.num (regsGet s.img.imgRegs a))

/-- The overlay a COMMIT builds (R79). -/
def commitOverlay (s : Block) : Overlay :=
  let v := volRwp s
  let old := if s.mram.overlay.hash = s.img.hash then s.mram.overlay.entries.filter (fun e => !v.contains e.1) else []
  let new := v.filterMap (fun a => (s.seen.cur a).map (fun x => (a, x)))
  ⟨s.img.hash, (old ++ new).filter (fun e => imgVal s e.1 != some e.2)⟩

/-- The overlay a PERSIST_CMD writes: 1 COMMIT, 2 CLEAR, 3 DROP of an OBJ_ID. An empty one carries the active image's hash too (log
entry 47). -/
def persistOverlay (op oid : Nat) (s : Block) : Overlay :=
  match op with
  | 1 => commitOverlay s
  | 2 => ⟨s.img.hash, []⟩
  | _ => { s.mram.overlay with entries := s.mram.overlay.entries.filter (fun e => oidOf e.1 != oid) }

/-- The check of a PERSIST_CMD (R79). -/
def persistCheck (op oid : Nat) (s : Block) : Nat :=
  let o := persistOverlay op oid s
  if op = 3 ∧ !s.mram.overlay.entries.any (fun e => oidOf e.1 == oid) then 0x0201
  else if s.mode.persistOp.isSome ∨ s.waits modePersistCmd then 0x0401
  else need (o.entries.length ≤ 4096 && (overlayBytes o).length ≤ 131072) 0x0402

/-- A PERSIST_CMD taken (R79): the write of the unused area begins. -/
def persistAct (op oid : Nat) (s : Block) : Block :=
  let took := if op = 1 then volRwp s else []
  { s with mode := { s.mode with persistOp := some (op, persistOverlay op oid s, took) }
           vol := s.vol.filter (fun a => !took.contains a) }

/-- The value a PERSIST_CMD is written with. -/
def persistWord (op oid : Nat) : Nat := pack [(op, 0), (oid % 2 ^ 32, 32)]

/-- PERSIST_COMMIT (R79). -/
def execPersistCommit (i : Nat) (s : State) : Res := onBlock s fun s =>
  pairCommand i modePersistCmd (.num (persistWord 1 0)) (persistCheck 1 0) (persistAct 1 0) noRefuse s
/-- PERSIST_CLEAR (R79). -/
def execPersistClear (i : Nat) (s : State) : Res := onBlock s fun s =>
  pairCommand i modePersistCmd (.num (persistWord 2 0)) (persistCheck 2 0) (persistAct 2 0) noRefuse s
/-- PERSIST_DROP (R79): the entry of one OBJ_ID. -/
def execPersistDrop (i oid : Nat) (s : State) : Res := onBlock s fun s =>
  pairCommand i modePersistCmd (.num (persistWord 3 oid)) (persistCheck 3 oid) (persistAct 3 oid) noRefuse s

/-- PERSIST_COMPLETE (R79, R82): the selector unit switches. -/
def execPersistComplete (s : State) : Res := onBlock s fun s =>
  match s.mode.persistOp with
  | none => .next s
  | some (op, o, _) =>
    let s1 := { s with mram := { s.mram with overlay := o }, mode := { s.mode with persistOp := none } }
    .next ((persistShow s1).raise 0x09 sevInfo mode0 (pack [(op, 0), (o.entries.length, 16)]))

end Sys2Proof.Machine
end

