-- ==== Sys2Proof/Machine/Supply.lean ====
section
/-! DEFINITION. Machine/Supply.lean: supplies, hold-up and power fail, and the control inputs (01). -/

namespace Sys2Proof.Machine

/-- Whether the supply supervision runs and records (R29): not off, in reset, or in DEEP PARK. -/
def supplyRuns (s : Block) : Bool :=
  match s.phase with
  | .active => true
  | .pending => true
  | .park => true
  | .noImage => true
  | .halted => true
  | _ => false

/-- POR (R26, R33, R64): US has stood above 9.0 V for 10 ms; `bpos` the slot strap, read at power-on, `mv` the US reading. The
reset released is a POR, or the BOR that a brown-out began; while RESET_N is low the module stays in it. -/
def execPor (bpos mv : Nat) (s : State) : Res := onBlock s fun s =>
  if s.phase ≠ .off ∨ mv ≤ 9000 then .next s
  else
    let w := s.get devSupply
    let w1 := setFld (setFld w 3 0 1) 9 8 (if s.rst.kind = .por then bpos else fld w 9 8)
    let s1 := ((s.put devSupply w1).put devUsMv mv).put devHoldMv mv
    .next { s1 with phase := if s1.supply.rstLow then .held else .pending, supply := { s1.supply with usFed := true } }

/-- The power-fail record (R30, the *Power-fail record* table). -/
def pfBytes (ts node mode role seq hash : Nat) : List Byte :=
  let b := leBytes 8 ts ++ leBytes 2 node ++ leBytes 1 mode ++ leBytes 1 role ++ leBytes 4 seq ++ leBytes 1 0 ++ zeros 7 ++
    leBytes 32 hash ++ zeros 4
  b ++ leBytes 4 (crc32 b)

/-- The record rewritten with VOID = 1 (R30). -/
def pfVoided (r : List Byte) : List Byte :=
  let b := r.take 16 ++ leBytes 1 1 ++ slice r 17 43
  if r.isEmpty then r else b ++ leBytes 4 (crc32 b)

/-- Whether the unit holds a record with a correct CRC and VOID = 0 (R30). -/
def pfValid (r : List Byte) : Bool := r.length == 64 && leAt r 60 4 == crc32 (r.take 60) && leAt r 16 1 == 0

/-- US falls again while a power fail lasts (R380): the sequence that runs goes on. -/
def usFell (mv : Nat) (s : Block) : Block :=
  { (s.putBit devSupply 0 false).put devUsMv mv with supply := { s.supply with usFed := false } }

/-- POWER_FAIL_DETECT (R29, R30, the *Power-fail sequence* table); `mv`: the US reading. -/
def execPowerFailDetect (mv : Nat) (s : State) : Res := onBlock s fun s =>
  if !supplyRuns s ∨ 8500 ≤ mv then .next s
  else if s.pfActive then .next (usFell mv s)
  else
    let w := s.get devSupply
    let s1 := (((s.put devSupply (setFld w 2 0 2)).put devUsMv mv).put devPfLast s.clk.tb).countUp devPfCount 31 0
    let m := { s1.mram with
      pfRec := pfBytes s.clk.tb s.img.node s.modeNo s.role (s.mram.pfSeq + 1) s.img.hash, pfSeq := s.mram.pfSeq + 1
      encSaved := if s.booted then encSave s else s1.mram.encSaved
      fanHours := if s.booted then s.axis.ch.map (fun c => c.gateNs) else s1.mram.fanHours }
    let s2 := trendClose { s1 with mram := m, supply := { s1.supply with usFed := false } }
    .next (s2.raise 0x04 sevWarn dev0 (s2.get devPfCount))

/-- POWER_FAIL_CLEAR (R29, R30, R241): US above 9.0 V for 10 ms; `mv` the US reading. VBOOST restarts and reports itself
ready later (R26). -/
def execPowerFailClear (mv : Nat) (s : State) : Res := onBlock s fun s =>
  if !supplyRuns s ∨ !s.pfActive ∨ mv ≤ 9000 then .next s
  else
    let s1 := ((s.put devSupply (setFld (s.get devSupply) 1 0 1)).put devUsMv mv).put devHoldMv mv
    let m := { s1.mram with pfRec := pfVoided s1.mram.pfRec }
    let s2 := { s1 with mram := m, supply := { s1.supply with usFed := true }
                        valve := { s1.valve with acc := boostCap, accAt := s1.clk.raw } }
    .next (s2.raise 0x05 sevInfo dev0 0)

/-- US_RETURN (R380): US returns above the held node, at any level, and feeds it; the power fail stays until it clears. While
US feeds the node its level is US's; below the converter floor no logic runs. -/
def execUsReturn (mv : Nat) (s : State) : Res := onBlock s fun s =>
  if !supplyRuns s ∨ !s.pfActive ∨ mv ≤ 5500 ∨ (s.supply.usFed ∧ mv ≤ s.get devHoldMv) then .next s
  else
    let s1 := ((s.putBit devSupply 0 (8500 ≤ mv)).put devUsMv mv).put devHoldMv mv
    .next { s1 with supply := { s1.supply with usFed := true } }

/-- BOR (R29, R76, R77): the held node below 8.0 V for more than 1 ms. -/
def execBor (s : State) : Res := onBlock s fun s =>
  if s.phase = .off then .next s
  else
    let s1 := afterReset .bor .off true s
    .next { (s1.putBit devSupply 0 false).putBit devSupply 1 false with supply := { supplyInit with rstLow := s.supply.rstLow } }

/-- CONVERTER_FLOOR (R90): the held node at 5.5 V: the logic stops, the RTC loses its time, the next rise is a POR. -/
def execConverterFloor (s : State) : Res := onBlock s fun s =>
  let s1 := afterReset .por .off true s
  let s2 := ((s1.put timeRtc 0).putBit devSupply 0 false).putBit devSupply 1 false
  .next { s2 with supply := { supplyInit with rstLow := s.supply.rstLow }, clk := { s2.clk with rtcSub := 0 } }

/-- EXT_RESET (R33, R77): RESET_N low for 10 µs or more holds the module in reset; its rising edge releases it. -/
def execExtReset (low : Bool) (s : State) : Res := onBlock s fun s =>
  let s1 := { s with supply := { s.supply with rstLow := low } }
  if low then (if s.phase = .off ∨ s.phase = .held then .next s1 else .next (afterReset .ext .held false s1))
  else if s.phase = .held then .next { s1 with phase := .pending } else .next s1

/-- WDR (R77): the supervisor watchdog, not served for 200 ms; `fwCheck` the last firmware checkpoint. It is stopped in a
module shutdown (R297) and unpowered in DEEP PARK. -/
def execWdr (fwCheck : Nat) (s : State) : Res := onBlock s fun s =>
  match s.phase with
  | .off => .next s
  | .held => .next s
  | .deepPark => .next s
  | .halted => .next s
  | _ =>
    let s1 := afterReset .wdr .pending false s
    .next { s1 with rst := { s1.rst with wdCheck := fwCheck % 2 ^ 32 } }

/-- WAKE (R32, R75, R76): the level of WAKE; a low-to-high transition held for 10 ms ends a park state. -/
def execWake (level : Bool) (s : State) : Res := onBlock s fun s =>
  let rise := level && !s.bit devSupply 6
  let s1 := s.putBit devSupply 6 level
  if rise ∧ s.phase = .park then .next (unpark 2 s1)
  else if rise ∧ s.phase = .deepPark then .next (deepExit 2 s1)
  else .next s1

/-- KEYSW_CHANGE (R34, R348): a release closes the provisioning session. -/
def execKeyswChange (on : Bool) (s : State) : Res := onBlock s fun s =>
  let s1 := s.putBit devSupply 5 on
  if on then .next s1
  else .next (forN 4 (fun i x => match x.sessAt i with
    | some e => if e.prov then sessClose i 6 x else x
    | none => x) s1)

/-- VBOOST_READY (R26, R29): VBOOST within its operating window, wherever the module has its supply. -/
def execVboostReady (mv : Nat) (s : State) : Res := onBlock s fun s =>
  if s.phase = .off ∨ s.phase = .deepPark ∨ s.pfActive ∨ s.bit devSupply 3 ∨ s.supply.vbLatched ∨
      mv < 42000 ∨ 54000 < mv then .next s
  else
    let s1 := (s.putBit devSupply 2 true).put devVboostMv mv
    if s.valve.boostW then
      .next (({ s1 with valve := { s1.valve with boostW := false } }).raise 0xC8 sevInfo (bnkObj 0) 0)
    else .next s1

/-- VBOOST_FAULT (R40): outside 42 V to 54 V; a second failure within 60 s latches the converter off. -/
def execVboostFault (mv : Nat) (s : State) : Res := onBlock s fun s =>
  if !supplyRuns s ∨ s.pfActive ∨ s.bit devSupply 3 ∨ (42000 ≤ mv ∧ mv ≤ 54000) then .next s
  else
    let again := match s.supply.vbFailAt with | some t => decide (s.clk.raw < t + 60 * nsPerS) | none => false
    let s1 := (s.put devSupply (setFld (s.get devSupply) 3 2 2)).put devVboostMv mv
    let s2 := { s1 with supply := { s1.supply with
      vbFailAt := some s.clk.raw, vbLatched := again, vbRestartAt := if again then none else some (s.clk.raw + nsPerS) } }
    .next (s2.raise 0x06 sevFault dev0 (pack [(mv % 65536, 0), (b2n again, 16)]))

/-- VBOOST_RESTART (R40): 1 s after the fault the converter restarts. -/
def execVboostRestart (s : State) : Res := onBlock s fun s =>
  match s.supply.vbRestartAt with
  | none => .next s
  | some t =>
    let s1 := s.advanceTo t
    .next { s1.putBit devSupply 3 false with supply := { s1.supply with vbRestartAt := none } }

/-- ESUP_ON follows ESUP_EN and the latches (R28). -/
def esupShow (s : Block) : Block :=
  let en := s.get devEsupEn
  let w := s.get devSupply
  let on := sumN ((List.range 8).map (fun e => b2n (bitAt en e && !bitAt w (16 + e)) * 2 ^ e))
  s.put devSupply (setFld w 31 24 on)

/-- Effects of a write of ESUP_EN (R28): a bit written from 0 to 1 clears its latch. -/
def esupWritten (s : Block) : Block :=
  let en := s.get devEsupEn
  let old := s.supply.esupPrev
  let s1 := forN 8 (fun e x => if bitAt en e && !bitAt old e then x.putBit devSupply (16 + e) false else x) s
  esupShow { s1 with supply := { s1.supply with esupPrev := en } }

/-- ESUP_OVERCURRENT (R28, R40): above 150 mA for 1 ms. -/
def execEsupOvercurrent (e : Nat) (s : State) : Res := onBlock s fun s =>
  if 8 ≤ e then .next s
  else if !supplyRuns s ∨ !s.bit devSupply (24 + e) then .next s
  else .next ((esupShow (s.putBit devSupply (16 + e) true)).raise 0x07 sevFault dev0 e)

/-- VREF_AO_FAULT (R40, R118): VREF_AO outside 0.9 V to 11.0 V for 10 ms. -/
def execVrefAoFault (mv : Nat) (s : State) : Res := onBlock s fun s =>
  if !supplyRuns s ∨ !s.vrefOk ∨ (900 ≤ mv ∧ mv ≤ 11000) then .next s
  else .next (aoVref (((s.putBit devSupply 4 false).put devVrefMv mv).raise 0x08 sevFault dev0 (mv % 65536)))

/-- VREF_AO_RESTORED (R40, R118): back in its window. -/
def execVrefAoRestored (mv : Nat) (s : State) : Res := onBlock s fun s =>
  if !supplyRuns s ∨ s.vrefOk ∨ mv < 900 ∨ 11000 < mv then .next s
  else .next (aoVref ((s.putBit devSupply 4 true).put devVrefMv mv))

end Sys2Proof.Machine
end

