-- ==== Sys2Proof/Machine/Sample.lean ====
section
/-! DEFINITION. Machine/Sample.lean: the sample classes: a class's boundary, its publication and its overrun, and the loss
of a core (07, R163 to R174). -/

namespace Sys2Proof.Machine

/-- Runs a kernel with the timebase reading the exact boundary it computes for (R92, R376). -/
def atTb (t : Nat) (f : Block → Block) (s : Block) : Block :=
  let s1 := f { s with clk := { s.clk with tb := t } }
  { s1 with clk := { s1.clk with tb := s.clk.tb } }

/-- Discards the sample of class k in progress (R169): its inputs and tentative results; the duties of class A hold, and
the tomography kernels of class D end with it. -/
def classDiscard (k : Nat) (s : Block) : Block :=
  let s1 := s.setCls k { s.cls k with prog := none, tent := [] }
  match k with
  | 0 => forN 12 axOverrun { s1 with serac := { s1.serac with axIn := [] } }
  | 3 => forN 12 (fun r x => if !x.bit (tmCfg r) 1 && (x.tch r).run.isSome then tmDiscard r x else x)
      { s1 with line := { s1.line with inp := [] } }
  | _ => s1

/-- The state of class k as a UNIT carries it (R330). -/
def unitOf (k bnd : Nat) (s : Block) : PairUnit :=
  { k := k, bnd := bnd
    loops := ((List.range 256).filter (fun n => lpClass s n == k && (s.bit (lpCfg n) 0 || (s.lch n).run))).map
      (fun n => (n, s.lch n, s.get (lpStat n), s.get (lpMode n), s.get (lpManOut n)))
    shed := (s.cls k).shed
    lines := if k = 3 then ((List.range 8).filter (lnOn s)).map (fun l => (l, s.nch l, s.get (lnStat l))) else [] }

/-- Takes one loop of a unit: its state, STAT but for its CORE, and the MODE and MAN_OUT it may have set itself (R174). -/
def unitLoop (s : Block) (e : Nat × LoopCh × Nat × Nat × Nat) : Block :=
  (((s.setLch e.1 e.2.1).put (lpStat e.1) (setFld e.2.2.1 19 18 (s.fget (lpStat e.1) 19 18))).put (lpMode e.1) e.2.2.2.1).put
    (lpManOut e.1) e.2.2.2.2

/-- Takes the loops, the shed set and the lines of a unit in place of the module's own (R174, R331). -/
def unitTake (u : PairUnit) (s : Block) : Block :=
  let s1 := u.loops.foldl unitLoop s
  let s2 := s1.setCls u.k { s1.cls u.k with shed := u.shed }
  let s3 := s2.fput (clsStat u.k) 15 8 (satU 8 u.shed.length)
  u.lines.foldl (fun x e => (x.setNch e.1 e.2.1).put (lnStat e.1) e.2.2) s3

/-- 0xFC at the first stale unit or discarded delta after one adopted. -/
def pairBadCopy (ts cyc : Nat) (s : Block) : Block :=
  if s.pair.copyBad then s
  else ({ s with pair := { s.pair with copyBad := true } }).raiseAt ts 0xFC sevWarn 0 pairObj
    (pack [(b2n (s.bit pairStat 4), 0), (cyc % 2 ^ 32, 32)])

/-- The standby takes the UNIT of its latest committed sample at the start of the class's next sample; another is stale
(R331). -/
def pairAdopt (k : Nat) (s : Block) : Block :=
  if !s.standby then s
  else
    let rest := s.pair.units.filter (fun u => u.k != k)
    let mine := s.pair.units.filter (fun u => u.k == k)
    let s0 := { s with pair := { s.pair with units := rest } }
    mine.foldl (fun x u =>
      if u.bnd = (x.cls k).done then
        let y := (unitTake u x).countUp pairCount 127 96
        { y with pair := { y.pair with copyBad := false, gotCls := if y.pair.gotCls.contains k then y.pair.gotCls else k :: y.pair.gotCls } }
      else pairBadCopy x.clk.tb x.cycleNow (x.countUp pairCount 159 128)) s0

/-- The instant a sample of class k at boundary `t` starts: at once, or at the gather instant of a ring-bound class of a
HEAD (R309). -/
def classStart (s : Block) (k t : Nat) : Nat := if s.role = 2 ∧ clsRemote s k then t + s.tGather else t

/-- CLASS_PUBLISH (R169): the last core finishes class k, `ns` after the boundary: every state commits and every output is
published at once. -/
def execClassPublish (k ns : Nat) (s : State) : Res := onBlock s fun s =>
  if 4 ≤ k then .next s
  else match (s.cls k).prog with
    | none => .next s
    | some t =>
      if s.phase ≠ .active ∨ (s.cls k).dl < ns ∨ t + ns < s.clk.tb then .next s
      else
        let s0 := s.advanceTb (t + ns)
        let s1 := match k with
          | 0 => emuAxes (atTb t (axSampleAll s0.serac.axIn) s0)
          | 2 => atTb t axAirAll s0
          | 3 => lineCommitAll s0
          | _ => s0
        let swapped := (s1.cls k).tent.any (fun r => r.took)
        let s2a := publishLoops k s1
        let s2b := if swapped then seracSync s2a else s2a
        let s2 := if k = 3 then ringsPublish t s2b else s2b
        let c := s2.cls k
        let s3 := (s2.setCls k { c with prog := none, tent := [], done := t, ovr := 0 }).put (clsTime k)
          (max (s2.get (clsTime k)) ns)
        let s4 := s3.fput (clsStat k) 7 0 0
        let s5 := if c.ovr = 0 then s4 else s4.raiseAt t 0x75 sevInfo 0 (clsObj k) (c.ovr % 2 ^ 32)
        let u := unitOf k t s5
        if s5.paired ∧ s5.pairState = 2 then
          .next (({ s5 with pair := { s5.pair with recs := s5.pair.recs + 1 } }).emitState (.unit s5.cycleNow u))
        else .next s5

/-- CLASS_OVERRUN (R169, R170): the work on core `c` has not finished by the deadline. -/
def execClassOverrun (k c : Nat) (s : State) : Res := onBlock s fun s =>
  if 4 ≤ k ∨ 4 ≤ c then .next s
  else match (s.cls k).prog with
    | none => .next s
    | some t =>
      if s.phase ≠ .active then .next s
      else
        let s0 := s.advanceTb (t + (s.cls k).dl)
        let n := (s0.cls k).ovr
        let s1 := classDiscard k s0
        let s2 := ((s1.setCls k { s1.cls k with ovr := n + 1 }).countUp (clsCount k) 31 0).countUp (clsStat k) 7 0
        let s3 := if n = 0 then s2.raiseAt t 0x70 sevWarn 0 (clsObj k) (pack [(k, 0), (c, 2)]) else s2
        if s3.fget (clsCfg k) 47 40 ≤ s3.fget (clsStat k) 7 0 ∧ !s3.standby then
          .next ((shedClass k 1 t s3).fput (clsStat k) 7 0 0)
        else .next s3

/-- A core removed at the next class A boundary (R172): the samples in progress are discarded, the work placed again; the
last core's removal stops the gates and issues a WDR, whose firmware checkpoint the spec does not give. -/
def coreRemove (c cause : Nat) (s : Block) : Block :=
  let s0 := s.toClassA
  let s1 := s0.putBit (coreStat c) 2 true
  let last := (coresOn s1).isEmpty
  let s2 := s1.raise 0x73 (if last then sevCrit else sevFault) (coreObj c) (pack [(c, 0), (cause, 8)])
  let s3 := forN 4 classDiscard s2
  if last then
    let d := (axGateStop s3).draw
    let s4 := afterReset .wdr .pending false d.2
    { s4 with rst := { s4.rst with wdCheck := d.1 % 2 ^ 32 } }
  else shedUnfit 3 (seracPlace s3)

/-- CORE_SELF_TEST (R172): the self-test of core c, and whether it passes. -/
def execCoreSelfTest (c : Nat) (pass : Bool) (s : State) : Res := onBlock s fun s =>
  if 4 ≤ c then .next s
  else if s.phase ≠ .active ∨ pass ∨ !coreOn s c then .next s
  else .next (coreRemove c 1 s)

/-- CORE_MEMORY_ERROR (R172). -/
def execCoreMemoryError (c : Nat) (s : State) : Res := onBlock s fun s =>
  if 4 ≤ c then .next s
  else if s.phase ≠ .active ∨ !coreOn s c then .next s
  else .next (coreRemove c 2 s)

end Sys2Proof.Machine
end

