-- ==== Sys2Proof/Machine/PairSt.lean ====
section
/-! DEFINITION. Machine/PairSt.lean: claims, the state of a paired head, promotion, and what hearing the partner does
(R321 to R324, R336, R337). -/

namespace Sys2Proof.Machine

/-- RANK (R321): of a paired head as PREFER says, 2 of an unpaired HEAD, 0 of another role. -/
def pairRank (s : Block) : Nat :=
  if s.role ≠ 2 then 0
  else if !s.paired then 2
  else
    let sel := if s.bit pairCfg 28 then s.fget pairCfg 27 16 else s.fget pairCfg 11 0
    if s.img.node = sel then 2 else 1

/-- This head's claim (R321). -/
def pairOwn (s : Block) : Nat := if s.role = 2 then s.get pairEpoch * 256 + pairRank s else 0

/-- The partner's node. -/
def pairPartner (s : Block) : Nat :=
  if s.img.node = s.fget pairCfg 11 0 then s.fget pairCfg 27 16 else s.fget pairCfg 11 0

/-- PROMO cycles. -/
def pairPromo (s : Block) : Nat := s.fget pairCfg 39 32

/-- RANK and the own claim shown (the *PAIR.STAT* and *Other PAIR attributes* tables). -/
def pairShow (s : Block) : Block := (s.fput pairStat 15 8 (pairRank s)).fput pairClaim 31 0 (pairOwn s)

/-- Enters a pair state at timebase `ts` (R324): 0xF8; a head that joins forgets the copy it had. -/
def pairTo (st ts : Nat) (s : Block) : Block :=
  let old := s.pairState
  if old = st then s
  else
    let s1 := (s.fput pairStat 2 0 st).putBit pairStat 3 false
    let p := s1.pair
    let p1 := if st = 3 then { p with units := [], deltas := [], writes := [], values := none, gotVals := false, gotCls := [],
                                      copyBad := false, reqs := [], modeAt := none, hand := none } else p
    let p2 := if st = 1 then { p1 with from' := s.cycleNow, heardAt := none } else p1
    let p3 := if st = 2 then { p2 with closed := none, recs := 0, units := [], deltas := [], values := none } else p2
    (pairShow { s1 with pair := { p3 with peState := none } }).raiseAt ts 0xF8 sevInfo 0 pairObj (pack [(old, 0), (st, 8)])

/-- Promotion at `ts` (R322, R323): EPOCH above every one heard, written before any section carries it; at the limit the
promotion does not take place. -/
def promote (ts : Nat) (drill : Bool) (s : Block) : Block :=
  let e := max (s.get pairEpoch) (s.pair.pclaim / 256) + 1
  if 0xFFFFFF < e then s.raiseAt ts 0xF9 sevCrit 1 pairObj (pairOwn s)
  else
    let s0 := s.countN pairCount 191 160 s.pair.deltas.length
    let s1 := (pairShow (s0.put pairEpoch e)).countUp pairCount 255 224
    (pairTo 2 ts s1).raiseAt ts 0xF9 (if drill then sevInfo else sevWarn) 0 pairObj (e * 256 + pairRank s)

/-- A valid frame of the partner has come, on any port (R336). -/
def pairSeen (s : Block) : Block :=
  { (s.putBit pairStat 6 true).putBit pairStat 3 false with pair := { s.pair with heardAt := some s.cycleNow } }

/-- What hearing the partner does (R324, R337): its state where the frame gives it, its claim, and whether it has this
head's build hash. An ACTIVE head that hears a higher claim demotes at the next cycle start; a candidate claim of a
LISTENING partner is no claim it holds (log entry 42). -/
def pairHear (st : Option Nat) (claim : Nat) (same : Bool) (s : Block) : Block :=
  let s1 := (pairSeen s).fput pairClaim 63 32 claim
  let was := s1.pair.partner
  let s2 := { s1 with pair := { s1.pair with pclaim := max s1.pair.pclaim claim, partner := st.getD was } }
  let s3 := if s2.pairState = 2 ∧ st = some 3 ∧ was ≠ 3 then { s2 with pair := { s2.pair with sendVals := true } } else s2
  match s3.pairState with
  | 1 =>
    if !same then (pairTo 5 s3.clk.tb s3).raise 0xFE sevFault pairObj (pairPartner s3)
    else if st = some 2 ∨ st = none then { s3 with pair := { s3.pair with peState := some 3 } }
    else if st = some 1 ∧ pairOwn s3 < claim then { s3 with pair := { s3.pair with from' := s3.cycleNow } }
    else s3
  | 2 => if pairOwn s3 < claim ∧ st ≠ some 1 then { s3 with pair := { s3.pair with peState := some 3 } } else s3
  | _ => s3

/-- The pair state after a write of PAIR.CFG or an entry to SAFE: a paired head listens, another is UNPAIRED (R324). -/
def pairConfig (s : Block) : Block :=
  let s1 := pairShow s
  if s1.paired then (if s1.pairState = 0 then pairTo 1 s1.clk.tb s1 else s1) else pairTo 0 s1.clk.tb s1

/-- Whether the partner has been silent throughout the PROMO cycles before cycle `m` (R336). -/
def pairSilent (s : Block) (m : Nat) : Bool :=
  decide ((match s.pair.heardAt with | some h => h + 1 | none => s.pair.from') + pairPromo s ≤ m)

/-- The result of a drill that ends (R340): DRILL and 0xFF. -/
def drillEnd (res ts : Nat) (s : Block) : Block :=
  let s1 := (s.put pairDrill (pack [(ts % 2 ^ 64, 0), (res, 64)])).putBit pairStat 5 false
  ({ s1 with pair := { s1.pair with drillTo := none, drillDur := 0, drilled := false, hand := none } }).raiseAt ts 0xFF sevInfo 0 pairObj res

end Sys2Proof.Machine
end

