-- ==== Sys2Proof/Machine/Time.lean ====
section
/-! DEFINITION. Machine/Time.lean: the reference and its faults, the timebase and its discipline, and the RTC (R84 to R90,
R97, R314, R318). -/

namespace Sys2Proof.Machine

/-- Whether clocks and timebase run under this chapter's supervision (R84): booted and not in DEEP PARK, or in BOOT without
an image. -/
def clockRuns (s : Block) : Bool :=
  match s.phase with
  | .active => true
  | .park => true
  | .noImage => true
  | _ => false

/-- UNSYNC takes a value (R89), from now on. -/
def unsyncTo (b : Bool) (s : Block) : Block :=
  if s.unsync = b then s else { s.putBit timeState 3 b with time := { s.time with unsFrom := s.clk.tb } }

/-- Enters a timebase state (R88, R89): SYNC and UNSYNC. -/
def syncTo (k : Nat) (s : Block) : Block := (unsyncTo (k == 0 || k == 2) s).fput timeState 2 0 k

/-- MASTER shown. -/
def masterShow (node : Nat) (s : Block) : Block := s.fput timeState 27 16 node

/-- Whether this module is the time master (R314, R97): a HEAD that sends TIME frames, which a paired head does in ACTIVE only. -/
def Block.isMaster (s : Block) : Bool :=
  s.role == 2 && s.img.node != 0 && s.fget timeState 27 16 == s.img.node && (!s.paired || s.pairState == 2)

/-- A moment of the timebase as a step of `d` leaves it named. -/
def shiftBy (d : Int) (t : Nat) : Nat := ((t : Int) + d).toNat

/-- The timebase set to `v` (R88): whatever is under way keeps its distance from now, the boundaries to come are the
multiples above the new value, and the open ring cycle ends. -/
def tbMove (v : Nat) (s : Block) : Block :=
  let d : Int := (v : Int) - s.clk.tb
  let sh := shiftBy d
  { s with
    clk := { s.clk with tb := v, slew := 0 }
    time := { s.time with unsFrom := sh s.time.unsFrom }
    late := s.late.map (fun w => { w with due := sh w.due })
    serac := { s.serac with cls := s.serac.cls.map (fun c =>
      { c with last := v, prog := c.prog.map sh, done := sh c.done }) }
    fe := { s.fe with ch := s.fe.ch.map (fun c =>
      { c with t0 := sh c.t0, delivAt := c.delivAt.map sh, pend := c.pend.map (fun p => { p with due := sh p.due }) }) }
    enc := { s.enc with ch := s.enc.ch.map (fun c =>
      { c with tA := c.tA.map sh, tB := c.tB.map sh, tL := c.tL.map sh, run := c.run.map (fun e => (sh e.1, e.2))
               terr := c.terr.map sh }) }
    tomo := { s.tomo with ch := s.tomo.ch.map (fun c =>
      { c with last := v, mapAt := v, run := c.run.map (fun r => { r with due := sh r.due, limit := sh r.limit }) }) }
    floe := { s.floe with cycle := none, gath := false, cmdd := false, launched := false }
    pair := { s.pair with drillTo := s.pair.drillTo.map sh } }

/-- A step of the timebase (R88): 0x16, stamped with the value after it. -/
def tbStep (v : Nat) (s : Block) : Block := (tbMove v s).raise 0x16 sevWarn time0 (s.clk.tb % 2 ^ 64)

/-- What the loss of PLL lock does (R86): the hardware drives gates and DRVEN low and switches the valve channels off, the
sequencer writes the clock fault record, and a WDR follows; the firmware checkpoint it records is not stated. -/
def pllFault (s : Block) : Block :=
  let d := (axGateStop (valveReset s)).draw
  let s1 := { d.2 with mram := { d.2.mram with clkFault := some s.clk.tb } }
  let s2 := afterReset .wdr .pending false s1
  { s2 with rst := { s2.rst with wdCheck := d.1 % 2 ^ 32, pllFault := true } }

/-- A switch of reference begins (R85); `fault`: a REFIN or TCXO fault makes it. -/
def refSwitch (dest : Nat) (fault : Bool) (s : Block) : Block :=
  { s.fput timeState 4 4 dest with time := { s.time with switching := some (dest, fault) } }

/-- REFIN_LOST (R85, R86): lost, or outside its window, while selected. -/
def execRefinLost (s : State) : Res := onBlock s fun s =>
  if !clockRuns s ∨ !s.bit timeState 4 ∨ !s.bit timeState 5 then .next s
  else
    let s1 := ({ s.putBit timeState 5 false with time := { s.time with refHeld := false, refLost := true } }).raise 0x11 sevWarn time0 0
    if s1.bit timeState 6 then .next (refSwitch 0 true s1) else .next (pllFault s1)

/-- REF_SWITCH_DONE (R85): the slew ends. -/
def execRefSwitchDone (s : State) : Res := onBlock s fun s =>
  match s.time.switching with
  | none => .next s
  | some (dest, fault) =>
    if !clockRuns s then .next s
    else .next (({ s with time := { s.time with switching := none } }).raise 0x10 (if fault then sevWarn else sevInfo) time0 dest)

/-- Whether a setting of REF_SEL takes REFIN now (R85): AUTO once it has been valid for 100 ms; REFIN while it is valid, and
after a loss once it has been valid for 100 ms again. -/
def refWanted (sel : Nat) (s : Block) : Bool :=
  s.bit timeState 5 && sel != 1 && (s.time.refHeld || (sel == 2 && !s.time.refLost))

/-- REFIN_VALID (R85): REFIN is valid, or (`held`) has been for 100 ms; under AUTO or REFIN the module switches to it. -/
def execRefinValid (held : Bool) (s : State) : Res := onBlock s fun s =>
  if !clockRuns s ∨ s.time.refHeld then .next s
  else
    let s1 := { s.putBit timeState 5 true with time := { s.time with refHeld := held, refLost := s.time.refLost && !held } }
    if refWanted (s1.get timeRefSel) s1 ∧ !s1.bit timeState 4 then .next (refSwitch 1 false s1) else .next s1

/-- REFIN_INVALID (R86): invalid while not selected. -/
def execRefinInvalid (s : State) : Res := onBlock s fun s =>
  if !clockRuns s ∨ s.bit timeState 4 then .next s
  else .next { s.putBit timeState 5 false with time := { s.time with refHeld := false } }

/-- TCXO_FAULT (R86): a switch to a valid REFIN that holds until the next reset, else as a PLL fault. -/
def execTcxoFault (s : State) : Res := onBlock s fun s =>
  if !clockRuns s ∨ !s.bit timeState 6 then .next s
  else
    let s1 := (s.putBit timeState 6 false).raise 0x12 sevFault time0 0
    let s2 := { s1 with time := { s1.time with tcxoForced := true } }
    if !s2.bit timeState 5 then .next (pllFault s2)
    else if s2.bit timeState 4 then .next s2 else .next (refSwitch 1 true s2)

/-- PLL_FAULT (R86). -/
def execPllFault (s : State) : Res := onBlock s fun s => if !clockRuns s then .next s else .next (pllFault s)

/-- The check of a TIME.SET (R97). -/
def timeSetCheck (s : Block) : Nat :=
  if s.modeNo = 0 then 0x0301
  else need (s.role == 1 || (s.role == 2 && s.isMaster)) 0x0302

/-- A TIME.SET taken (R88, R97). -/
def timeSetAct (v : Nat) (s : Block) : Block :=
  let v' := v % 2 ^ 64
  (tbStep v' (syncTo 1 s)).raise 0x17 sevInfo time0 (s.clk.tb % 2 ^ 64)

/-- TIME_SET (R88, R97): a host TIME.SET of `v` ns. -/
def execTimeSet (i v : Nat) (s : State) : Res := onBlock s fun s => hostCommand i timeSet false timeSetCheck (timeSetAct v) noRefuse s

/-- A TIME.REF_SEL taken (R85, R97). -/
def refSelAct (v : Nat) (s : Block) : Block :=
  let s1 := (s.put timeRefSel v).markVol timeRefSel
  let want := refWanted v s1
  if s1.time.tcxoForced ∨ want = s1.bit timeState 4 then s1 else refSwitch (b2n want) false s1

/-- REF_SEL_WRITE (R85, R97). -/
def execRefSelWrite (i v : Nat) (s : State) : Res := onBlock s fun s =>
  hostCommand i timeRefSel false (fun x => if x.modeNo = 0 then 0x0301 else numErr x timeRefSel v)
    (refSelAct v) noRefuse s

/-- Enters LOCKED (R88): 0x14. -/
def timeLocked (s : Block) : Block := (syncTo 3 s).raise 0x14 sevInfo time0 (s.fget timeState 27 16)

/-- The consecutive ring cycles within 100 ns after a measurement in cycle `n` (R88): a cycle without one breaks the run. -/
def lockRunNext (off : Int) (n : Nat) (s : Block) : Nat :=
  if 100 < off.natAbs then 0
  else if n = s.time.lockCyc then max 1 s.time.lockRun
  else if n = s.time.lockCyc + 1 then s.time.lockRun + 1 else 1

/-- Disciplines the timebase on a measured offset to ring time in ring cycle `n` (R87, R88). -/
def timeMeasure (off : Int) (n : Nat) (s : Block) : Block :=
  let s1 := { s.put timeOffset (satS 32 off) with time := { s.time with lastFrame := s.clk.raw } }
  let far := decide (100000 < off.natAbs)
  let step := fun (x : Block) => tbStep (shiftBy off x.clk.tb) { x with time := { x.time with lockRun := 0 } }
  let slew := fun (x : Block) => { x with clk := { x.clk with slew := off } }
  match s.fget timeState 2 0 with
  | 3 => if far then step (syncTo 2 s1) else slew s1
  | 4 => if far then step (syncTo 2 s1) else timeLocked (slew s1)
  | _ =>
    let s2 := syncTo 2 s1
    if 1000 < off.natAbs then step s2
    else
      let run := lockRunNext off n s2
      let s3 := slew { s2 with time := { s2.time with lockRun := run, lockCyc := n } }
      if 8 ≤ run then timeLocked s3 else s3

/-- Whether a TIME frame's claim is of the master this module follows (R314): the highest heard in the last 3 cycles, and
above its own. -/
def timeFollows (s : Block) (claim : Nat) : Bool :=
  (s.role != 2 || pairOwn s < claim || (s.paired && s.pairState != 2)) &&
  (match s.floe.master with | some m => decide (m.1 ≤ claim) || decide (m.2 + 3 < s.cycleNow) | none => true)

/-- TIME_FRAME (R314): a TIME frame comes in at a ring port; ring time is ORIGIN + CORR + the port's delay, by the copy with
fewer HOPS. -/
def execTimeFrame (f : TimeFrame) (port : Nat) (s : State) : Res := onBlock s fun s =>
  if 2 ≤ port then .next s
  else if s.phase ≠ .active ∨ s.role = 1 ∨ f.src = s.img.node then .next s
  else
    let s0 := if s.paired ∧ f.src = pairPartner s then pairHear (some 2) f.claim true s else s
    let s1 := { s0 with floe := { s0.floe with heads := (f.src, s0.cycleNow) :: s0.floe.heads.filter (fun h => h.1 != f.src) } }
    if !timeFollows s1 f.claim then .next s1
    else
      let worse := match s1.floe.copy with | some c => c.1 == f.cycle && decide (c.2 ≤ f.hops) | none => false
      let s2 := { s1 with floe := { s1.floe with master := some (f.claim, s1.cycleNow) } }
      if worse then .next s2
      else
        let ring := f.origin + f.corr + s2.fget (floePort port) 31 8
        let s3 := masterShow f.src { s2 with floe := { s2.floe with copy := some (f.cycle, f.hops) } }
        .next (timeMeasure ((ring : Int) - s3.clk.tb) f.cycle s3)

/-- The period of the Rime master's SYNC (R318). -/
abbrev syncPeriod : Nat := 10000000

/-- RIME_SYNC (R318): a SYNC of the Rime master in slot 0, as a TIME frame of one hop, for a module without a Floe time
master; a module LOCKED to one ignores it. -/
def execRimeSync (f : TimeFrame) (s : State) : Res := onBlock s fun s =>
  let floe : Bool := match s.floe.master with | some m => decide (s.cycleNow ≤ m.2 + 3) | none => false
  if s.phase ≠ .active ∨ !s.bit rmCfg 3 ∨ rmSlot s = 0 ∨ !rmUp s 0 ∨ s.isMaster ∨ floe then .next s
  else
    let s1 := masterShow f.src (s.putBit rmStat 4 true)
    .next (timeMeasure (((f.origin + f.corr : Nat) : Int) - s1.clk.tb) ((f.origin + f.corr) / syncPeriod) s1)

/-- What passes while no command waits (log entry 1): a tick, and the SYNC of the Rime master every 10 ms on each port that is up
(R318, log entry 47). -/
def Block.tick (s0 : Block) : Block :=
  let s := s0.idle
  if s.phase ≠ .active ∨ !s.bit rmStat 2 ∨ s.clk.tb / syncPeriod = s.floe.syncAt then s
  else
    let ports := (List.range 3).filter (fun p => s.bit (rmPort p) 2 && s.bit rmCfg p)
    let pay := timeBytes s.img.node (pairOwn s) s.clk.tb 0
    let s1 := { s with floe := { s.floe with syncAt := s.clk.tb / syncPeriod } }
    ports.foldl (fun x p =>
      let slot := (rmSlot s + p + 1) % 4
      x.emit (.rime slot (rimeBytes 4 (rmSlot s) slot 0 s.clk.tb pay))) s1

/-- The time without a frame after which LOCKED ends: 3 ring cycles, or 3 SYNC periods for a module that uses SYNC. -/
def holdAfter (s : Block) : Nat := if s.bit rmStat 4 then 3 * syncPeriod else 3 * s.tCyc

/-- TIME_HOLDOVER (R88): the last correction is held, so what the servo is removing goes on. -/
def execTimeHoldover (s : State) : Res := onBlock s fun s =>
  if s.phase ≠ .active ∨ s.fget timeState 2 0 ≠ 3 ∨ s.isMaster then .next s
  else
    let s0 := s.advanceTo (s.time.lastFrame + holdAfter s)
    let s1 := syncTo 4 s0
    .next ({ s1 with time := { s1.time with holdSince := s1.time.lastFrame } }.raise 0x15 sevWarn time0 0)

/-- Effects of a write of TIME.HOLD_LIMIT (R89): in HOLDOVER UNSYNC follows the new limit. -/
def timeWritten (a : Attr) (s : Block) : Block :=
  if a = timeHold ∧ s.fget timeState 2 0 = 4 then unsyncTo (decide (s.time.holdSince + s.get timeHold * nsPerS < s.clk.raw)) s else s

/-- HOLD_LIMIT_EXPIRY (R89). -/
def execHoldLimitExpiry (s : State) : Res := onBlock s fun s =>
  if s.phase ≠ .active ∨ s.fget timeState 2 0 ≠ 4 ∨ s.unsync then .next s
  else .next (unsyncTo true (s.advanceTo (s.time.holdSince + s.get timeHold * nsPerS)))

/-- RTC_UPDATE (R90): in SET or LOCKED the RTC is written from the timebase. -/
def execRtcUpdate (s : State) : Res := onBlock s fun s =>
  let k := s.fget timeState 2 0
  if !clockRuns s ∨ (k ≠ 1 ∧ k ≠ 3) then .next s
  else
    let s1 := s.put timeRtc (s.clk.tb / nsPerS)
    .next { s1 with clk := { s1.clk with rtcSub := s1.clk.tb % nsPerS } }

end Sys2Proof.Machine
end

