-- ==== Sys2Proof/Machine/Obj.lean ====
section
/-! DEFINITION. Machine/Obj.lean: the writing of objects (R39, R49, R83, R97, R121, R122, R146, R176, R203, R231, R253,
R274, R290, R300, R320, R343, R354, R362, R363): the checks of a write in the order of R354, and what a write does. -/

namespace Sys2Proof.Machine

/-- The one home of a table that two attributes name (R291): THERM[13+a].NTC is AXIS[a].NTC. -/
def canon (a : Attr) : Attr :=
  if a.blk = 0xD ∧ a.kind = 0 ∧ a.att = 0x020 ∧ 13 ≤ a.idx ∧ a.idx ≤ 24 then axNtc (a.idx - 13) else a

/-- Whether an attribute that its kind declares exists for the instance. -/
def attHere (a : Attr) : Bool :=
  !(a.blk == 0xD && a.kind == 0 && a.att == 0x020 && !(13 ≤ a.idx && a.idx ≤ 24)) &&
  !((a.blk == 0xA || a.blk == 0xD) && a.kind == 1 && a.att == 0x040 && a.idx != 0)

/-- The addressing check (R354, R362): 0x0101, 0x0102, 0x0103, or 0. -/
def addrErr (oid : Nat) : Nat :=
  let a := attrOf oid
  if a.blk = 0 ∨ 0x15 < a.blk then 0x0101
  else if instCount a.blk a.kind ≤ a.idx then 0x0102
  else need ((specOf a.blk a.kind a.att).isSome && attHere a) 0x0103

/-- The access check of a write (R362): 0x0104, or 0. -/
def writeErr (a : Attr) : Nat :=
  match accessOf a with
  | some .ro => 0x0104
  | some .rc => 0x0104
  | _ => 0

/-- A non-contiguous netmask (R363). -/
def maskOk (m : Nat) : Bool := (List.range 33).any (fun k => m == 2 ^ 32 - 2 ^ k)

/-- Own-value checks of a valve attribute beyond its fields (R253). -/
def vlvOwn (a : Attr) (v : Nat) : Nat :=
  if a.kind = 0 ∧ a.att = 0x021 then
    need ((fld v 15 0 == 0 || (500 ≤ fld v 15 0 && fld v 15 0 ≤ 6000)) &&
      (fld v 47 32 == 0 || (50 ≤ fld v 47 32 && fld v 47 32 ≤ 2500)) &&
      (fld v 95 80 == 0 || (20 ≤ fld v 95 80 && fld v 95 80 ≤ 500))) 0x0201
  else 0

/-- Own-value checks of a DIO attribute beyond its fields (R274). -/
def dioOwn (a : Attr) (v : Nat) : Nat :=
  if a.kind = 0 ∧ a.att = 0x020 then
    need (!(fld v 1 0 == 1 && fld v 5 4 != 0) && !((fld v 5 4 == 1 || fld v 5 4 == 2) && fld v 7 6 != 0)) 0x0201
  else 0

/-- Own-value checks of a HOST or FIRN attribute beyond its fields (R363). -/
def hostOwn (a : Attr) (v : Nat) : Nat :=
  if a = hostCfg then
    let m := fld v 63 32
    need (maskOk m && (fld v 95 64 == 0 || (fld v 95 64).land m == (fld v 31 0).land m)) 0x0201
  else if a = firnTrend then
    need ((List.range 512).all (fun e => !bitAt (entry v 64 e) 63 || (1 ≤ fld (entry v 64 e) 53 48 && fld (entry v 64 e) 53 48 ≤ 60))) 0x0201
  else 0

/-- Own-value checks of a FLOE, PAIR or switch attribute beyond its fields (R309, R343). -/
def netOwn (a : Attr) (v : Nat) : Nat :=
  if a = floeCfg then need (fld v 63 32 + fld v 95 64 + 25 ≤ fld v 31 0) 0x0201
  else if a = pairCfg then need (fld v 11 0 != fld v 27 16) 0x0201
  else 0

/-- Own-value checks of an attribute beyond its fields. -/
def ownErr (a : Attr) (v : Nat) : Nat :=
  match a.blk with
  | 0x05 => if a.kind = 0 then feOwn a v else 0
  | 0x06 => tmOwn a v
  | 0x07 => lpOwn a v
  | 0x08 => lnOwn a v
  | 0x09 => if a.kind = 0 then axOwn a v else 0
  | 0x0A => vlvOwn a v
  | 0x0B => dioOwn a v
  | 0x0C => encOwn a v
  | 0x0D => thOwn a v
  | 0x0E => netOwn a v
  | 0x0F => netOwn a v
  | 0x10 => hostOwn a v
  | 0x12 => hostOwn a v
  | _ => 0

/-- Own-value checks of a table (R115, R156, R188, R203, R220, R291). -/
def tableErr (a : Attr) (t : Table) : Nat :=
  match a.blk, a.att with
  | 0x05, 0x02A => need (ascending (column 2 0 t.elems)) 0x0201
  | 0x09, 0x02A => need (fanCurveOk t.elems) 0x0201
  | 0x09, 0x02B => need (ntcOk t.elems) 0x0201
  | 0x13, 0x020 => need (cropSetOk t.elems) 0x0201
  | 0x13, 0x022 => need (ascending (column 2 0 t.elems)) 0x0201
  | 0x07, 0x033 => firstErr [need (t.rows ≤ 2) 0x0204, (bankCheck (secsOf t.elems)).2]
  | _, _ => 0

/-- Attributes a host writes only in SAFE and SERVICE (the refusal rules of the chapters). -/
def safeOnly (a : Attr) : Bool :=
  match a.blk, a.kind with
  | 0x05, 0 => a.att == 0x020 || a.att == 0x021 || a.att == 0x025
  | 0x06, 0 => a.att == 0x020 || a.att == 0x021 || a.att == 0x022 || a.att == 0x023 || (0x02A ≤ a.att && a.att ≤ 0x02C)
  | 0x07, 0 => a.att == 0x020 || a.att == 0x021 || a.att == 0x022 || a.att == 0x026 || a.att == 0x027 || a.att == 0x02A
  | 0x07, 2 => a.att == 0x020
  | 0x08, 0 => a.att == 0x020 || a.att == 0x021 || a.att == 0x023 || a.att == 0x024 || a.att == 0x02A || (0x030 ≤ a.att && a.att ≤ 0x033)
  | 0x09, 0 => 0x021 ≤ a.att && a.att ≤ 0x02B
  | 0x0A, 0 => a.att == 0x020 || a.att == 0x021
  | 0x0A, 1 => a.att == 0x020
  | 0x0B, _ => a.att == 0x020
  | 0x0C, 0 => a.att == 0x020 || a.att == 0x021
  | 0x0C, 1 => a.att == 0x020
  | 0x0D, _ => a.att == 0x020
  | 0x0E, _ => true
  | 0x0F, _ => true
  | 0x12, _ => true
  | 0x13, _ => true
  | 0x15, _ => true
  | _, _ => false

/-- Attributes only the owner of SERVICE writes. -/
def serviceOnly (a : Attr) : Bool :=
  (a.blk == 5 && a.kind == 0 && a.att == 0x030) || (a.blk == 9 && a.kind == 0 && a.att == 0x031) ||
  (a.blk == 0xA && a.kind == 0 && a.att == 0x031) || (a.blk == 0xB && a.kind == 0 && a.att == 0x031) || (a.blk == 0xB && a.kind == 1 && a.att == 0x022)

/-- Whether a loop of this module routes to a destination of a node (R155). -/
def routedAt (s : Block) (oid node : Nat) : Bool :=
  s.regs.any (fun e => e.1.blk == 7 && e.1.kind == 0 && e.1.att == 0x02A &&
    (lpDests s e.1.idx).any (fun d => d.1 == oid && s.nodeOf d.2 == s.nodeOf node))

/-- Whether a loop of this module routes to a destination of this module (R155). -/
def routedTo (s : Block) (oid : Nat) : Bool := routedAt s oid 0

/-- Whether a line drives a DIO output or reads a DIO input of this module (R195). -/
def lineNames (s : Block) (n : Nat) : Bool :=
  (List.range 8).any (fun l => s.bit (lnCfg l) 0 &&
    ((s.bit (lnFlowCfg l) 55 && s.fget (lnFlowCfg l) 54 48 == n) || (s.bit (lnInlet l) 119 && s.fget (lnInlet l) 118 112 == n) ||
     (List.range 4).any (fun z => zoneKind s l z != 0 && s.bit (lnZone l z) 239 && s.fget (lnZone l z) 238 232 == n)))

/-- Whether a line drives a DIO output. -/
def lineDrives (s : Block) (n : Nat) : Bool :=
  (List.range 8).any (fun l => s.bit (lnCfg l) 0 && s.bit (lnFlowCfg l) 55 && s.fget (lnFlowCfg l) 54 48 == n)

/-- Whether a write of a set-point is taken from its destination's owner (R231, R253, R274): the code, or 0. -/
def spErr (s : Block) (a : Attr) : Nat :=
  if s.role = 3 then 0x0302
  else if routedTo s (oidOf a) then 0x0309
  else if a.blk = 0xB ∧ ((dioSwitch s a.idx).isSome ∨ lineDrives s a.idx) then 0x0309
  else 0

/-- The mode checks of a host's write (class 0x03 of R354): the code, or 0. -/
def stateErr (o : Origin) (a : Attr) (s : Block) : Nat :=
  let m := s.modeNo
  let prov := s.isProv o && a == hostCfg
  firstErr [
    need (m != 0 || prov) 0x0301,
    need (!safeOnly a || m == 1 || m == 5) 0x0301,
    need (!serviceOnly a || m == 5) 0x0301,
    need (!(a.blk == 0xB && a.kind == 1 && a.att == 0x022) || s.bit (dgStat a.idx) 0) 0x0303,
    need (!(a.blk == 5 && a.kind == 0 && (a.att == 0x022 || a.att == 0x023) && feTyp s a.idx == 6)) 0x0309,
    need (!(a.blk == 0xB && a.kind == 0 && dioIsMember s a.idx)) 0x0309,
    if a.att = 0x030 ∧ a.kind = 0 ∧ (a.blk = 9 ∨ a.blk = 0xA ∨ a.blk = 0xB) then spErr s a else 0,
    need (!(a.blk == 7 && a.kind == 0 && a.att == 0x025 && lineOwnsSp s a.idx)) 0x0309,
    need (!(a == floePublish && s.role == 1)) 0x0302]

/-- The cross checks of a valve attribute on the state the write leaves (R238, R253). -/
def vlvCross (a : Attr) (s : Block) : List Nat :=
  let n := a.idx
  let prop := fun (k : Nat) => if s.bit (vlvCfg k) 0 && vProp s k then vPropMax s k else 0
  let bank := sumN ((List.range 4).map (fun k => prop (n / 4 * 4 + k)))
  let all := sumN ((List.range 24).map prop)
  let shape := !s.bit (vlvCfg n) 0 ||
    (if vProp s n then vPropMax s n != 0 else vHoldI s n != 0 && (vPiT s n == 0 || vPiI s n != 0))
  let cfg := [need (shape && (vPiT s n == 0 || vHoldI s n ≤ vPiI s n) && s.fget (vlvCfg n) 47 32 ≤ vPropMax s n) 0x0201,
    need (bank ≤ 8000 && all ≤ 30000) 0x0402]
  let sp := fun (v : Nat) => need (if vProp s n then v ≤ vPropMax s n else v ≤ 1) 0x0201
  let on := s.outMode == 2 && !vProp s n && s.get (vlvSp n) != 0 && (s.vch n).out == 0 && (s.vch n).want == 0 && !vBlocked s n
  match a.kind, a.att with
  | 0, 0x020 => cfg
  | 0, 0x021 => cfg
  | 0, 0x030 => [sp (s.get (vlvSp n)), need (!on || vBudget s n == 0) 0x0402]
  | 0, 0x031 => [sp (s.get (vlvMan n))]
  | _, _ => []

/-- Whether another object names a DIO channel (R260, R274). -/
def dioNamed (s : Block) (n : Nat) : Bool := (dioSwitch s n).isSome || routedTo s (oidOf (dioSp n)) || lineNames s n

/-- The cross checks of a DIO attribute on the state the write leaves (R260, R274). -/
def dioCross (a : Attr) (s : Block) : List Nat :=
  let leads := fun (g : Nat) => (List.range 16).filter (fun k => dioIsMember s (16 * g + k))
  match a.kind, a.att with
  | 0, 0x020 => [need (s.fget (dioCfg a.idx) 1 0 == 2 || (dioSet s a.idx).length ≤ 1) 0x0201]
  | 1, 0x020 => [
      need ((leads a.idx).all (fun k => dioMode s (16 * a.idx + k) == 2)) 0x0201,
      need ((leads a.idx).all (fun k => !dioNamed s (16 * a.idx + k))) 0x0206]
  | _, _ => []

/-- The cross checks of a threshold switch (R119, R122). -/
def swCross (a : Attr) (s : Block) : List Nat :=
  let k := a.idx
  let low := s.bit (swCfg k) 1
  let st := toS 32 (s.fget (swPoints k) 31 0)
  let rs := toS 32 (s.fget (swPoints k) 63 32)
  let t := s.fget (swCfg k) 38 32
  let node := s.fget (swCfg k) 51 40
  let here := s.ownNode node
  match a.att with
  | 0x020 => [
      need (!s.bit (swCfg k) 0 || ((s.role == 2 || here) && (!here || (dioIsOut s t && s.fget (dioCfg t) 5 4 == 0)) &&
        !routedAt s (oidOf (dioSp t)) node &&
        (List.range 32).all (fun j => j == k || !s.bit (swCfg j) 0 || s.fget (swCfg j) 38 32 != t ||
          s.nodeOf (s.fget (swCfg j) 51 40) != s.nodeOf node))) 0x0206]
  | 0x021 => [need (if low then decide (st < rs) else decide (rs < st)) 0x0201]
  | _ => []

/-- Whether an object ID names a status attribute (R307): a 32-bit STAT of this module. -/
def isStatus (oid : Nat) : Bool :=
  let a := attrOf oid
  oid < 2 ^ 32 && addrErr oid == 0 && a.att == 0x010 && accessOf a == some .ro && widthOf a == 32

/-- Whether an object ID may be published (R307, R320, R326). -/
def publishable (oid : Nat) : Bool :=
  isSource oid || isStatus oid || ((attrOf oid).blk == 6 && (attrOf oid).att == 0x011 && addrErr oid == 0)

/-- Whether a host may read an attribute as an object of MB_MAP. -/
def readable (oid : Nat) : Bool :=
  addrErr oid == 0 && (match accessOf (attrOf oid) with | some .wo => false | some _ => true | none => false)

/-- The entries of TREND in use. -/
def trendEntries (s : Block) : List Nat := ((List.range 512).map (fun e => entry (s.get firnTrend) 64 e)).filter (fun w => bitAt w 63)

/-- R325: at a paired HEAD every class with a loop or a line has a period of whole ring cycles. -/
def pairClassesOk (s : Block) : Bool :=
  !s.paired || (List.range 4).all (fun k =>
    let used := (List.range 256).any (fun n => s.bit (lpCfg n) 0 && lpClass s n == k) || (k == 3 && (List.range 8).any (fun l => s.bit (lnCfg l) 0))
    !used || clsPeriod s k % max 1 (s.fget floeCfg 31 0 * 1000) == 0)

/-- The cross checks of the attributes of FLOE, PAIR, HOST, FIRN and AO (R118, R309, R320, R325, R343, R363). -/
def miscCross (a : Attr) (s : Block) : List Nat :=
  match a.blk, a.kind, a.att with
  | 0x0E, 0, 0x020 => [need ((List.range 4).all (clsRingOk s) && pairClassesOk s) 0x0201]
  | 0x0E, 0, 0x021 =>
    let es := ((List.range 256).map (fun i => entry (s.get floePublish) 32 i)).filter (fun e => e != 0)
    [need (es.all publishable) 0x0206, need (es.length ≤ 162) 0x0402]
  | 0x0F, 0, 0x020 => [need (pairClassesOk s) 0x0201]
  | 0x10, 0, 0x040 => [need ((List.range 128).all (fun i => entry (s.get hostMbMap) 32 i == 0 || readable (entry (s.get hostMbMap) 32 i))) 0x0206]
  | 0x12, 0, 0x020 => [need ((trendEntries s).all (fun w => if s.ownNode (fld w 43 32) then isSource (fld w 31 0) else publishable (fld w 31 0))) 0x0206]
  | 0x14, 0, 0x021 => [need (s.fget (aoSpan a.idx) 31 0 != s.fget (aoSpan a.idx) 63 32) 0x0201]
  | _, _, _ => []

/-- The checks of a written attribute that involve others, on the state the write leaves (R352, R379): a code for each check, 0 where
it passes. -/
def crossChecks (a : Attr) (s : Block) : List Nat :=
  match a.blk, a.kind with
  | 0x05, 0 => feCross a s
  | 0x05, 2 => swCross a s
  | 0x06, _ => tmCross a s
  | 0x07, _ => lpCross a s ++ [need (!(a.att == 0x020) || pairClassesOk s) 0x0201]
  | 0x08, _ => lnCross a s ++ [need (!(a.att == 0x020) || pairClassesOk s) 0x0201]
  | 0x09, _ => axCross a s ++ [need (!(a.kind == 0 && a.att == 0x021 && s.bit (axCfg a.idx) 0) || allFit s) 0x0402]
  | 0x0A, _ => vlvCross a s
  | 0x0B, _ => dioCross a s
  | 0x0C, _ => encCross a s
  | _, _ => miscCross a s

/-- The first of them that fails: its code, or 0. -/
def crossErr (a : Attr) (s : Block) : Nat := firstErr (crossChecks a s)

/-- The role check of a write on the state it leaves (R122, R176, R177, R203, R354, R363): 0x0302, or 0. -/
def roleErr (a : Attr) (s : Block) : Nat :=
  match a.blk, a.kind, a.att with
  | 0x05, 2, 0x020 => need (s.fget (swCfg a.idx) 27 16 == 0 || s.role == 2) 0x0302
  | 0x07, 0, 0x020 => need (!s.bit (lpCfg a.idx) 0 || s.role != 3) 0x0302
  | 0x08, 0, 0x020 => need (!s.bit (lnCfg a.idx) 0 || s.role != 3) 0x0302
  | 0x12, 0, 0x020 => need ((trendEntries s).all (fun w => s.ownNode (fld w 43 32) || s.role == 2)) 0x0302
  | 0x14, 0, 0x020 => need (!s.bit (aoCfg a.idx) 8 || s.role == 1) 0x0302
  | _, _, _ => 0

/-- MODE and MASKED of a DIO channel and its set shown (the *DIO[n].STAT* table). -/
def dioShow (n : Nat) (s : Block) : Block :=
  let v := if dioIsMember s n then 3 else s.fget (dioCfg n) 1 0
  (s.fput (dioStat n) 1 0 v).putBit (dioStat n) 4 (bitAt (s.dgrp (n / 16)).mask (n % 16))

/-- Effects of a write of a DIO attribute (R269, R273, R274). -/
def dioWritten (old : Block) (a : Attr) (s : Block) : Block :=
  let off := fun (x : Block) (m : Nat) => dioShow m (x.setDch m { x.dch m with offNext := true })
  match a.kind, a.att with
  | 0, 0x020 => (dioSet s a.idx).foldl off s
  | 0, 0x031 => s.setDch a.idx { s.dch a.idx with manSet := true }
  | 1, 0x020 =>
    let moved := ((List.range 16).map (fun k => 16 * a.idx + k)).filter (fun n => dioSet old n != dioSet s n)
    dioGroupEn a.idx (old.bit (dgCfg a.idx) 0) (moved.foldl off s)
  | 1, 0x021 =>
    if s.bit (dgProbe a.idx) 31 then s
    else (s.setDgrp a.idx { s.dgrp a.idx with maskSeq := (s.dgrp a.idx).maskSeq + 1 }).putBit (dgStat a.idx) 5 false
  | _, _ => s

/-- Effects of a write of a valve attribute (R253). -/
def vlvWritten (a : Attr) (s : Block) : Block :=
  match a.kind, a.att with
  | 0, 0x020 => vReconfig a.idx s
  | 0, 0x021 => vReconfig a.idx s
  | 0, 0x030 => vEval a.idx false s
  | 0, 0x031 => vEval a.idx false (s.setVch a.idx { s.vch a.idx with manSet := true })
  | 1, 0x020 =>
    vEvalBank a.idx false (s.putBit (bnkStat a.idx) 0 (s.bit (bnkCfg a.idx) 0 && !s.bit (bnkStat a.idx) 1))
  | _, _ => s

/-- The status of a crop set (the *CROP[c] attributes* table). -/
def cropShow (c : Nat) (s : Block) : Block :=
  s.put (cropStat c) (pack [(b2n (s.tab (cropSet c)).isSome, 0), (b2n ((s.tab (cropPoly c)).isSome || (s.tab (cropPwl c)).isSome), 1)])

/-- The trend records of entries that a write has changed are dropped: a new entry starts at its next period multiple
(R363). -/
def trendWritten (old s : Block) : Block :=
  { s with firn := { s.firn with accs := s.firn.accs.filter (fun t => trendEntry old t.entry == trendEntry s t.entry) } }

/-- The host watchdog's cause ends (R359): 0x28. -/
def wdClear (s : Block) : Block :=
  if !s.bit hostWdStat 1 then s
  else ({ s.putBit hostWdStat 1 false with mode := { s.mode with fbWd := false } }).raise 0x28 sevInfo host0 (s.fget hostWd 15 0)

/-- A write of HOST.WD (R359): with EN it arms the watchdog and times it from now; without, it disarms it. -/
def wdWritten (s : Block) : Block :=
  let s1 := { s with host := { s.host with wdFrom := s.clk.raw } }
  if s1.bit hostWd 16 then s1.putBit hostWdStat 0 true else (wdClear s1).putBit hostWdStat 0 false

/-- What a written attribute brings about; `old` is the machine before the write. -/
def written (old : Block) (a : Attr) (s : Block) : Block :=
  match a.blk, a.kind with
  | 0x01, _ => esupWritten s
  | 0x02, _ => timeWritten a s
  | 0x04, _ => if a.att = 0x031 then outSync s else s
  | 0x05, 0 => feWritten a s
  | 0x05, 2 => swWritten old a s
  | 0x06, _ => if a.att = 0x020 then seracSync (tmWritten a s) else tmWritten a s
  | 0x07, _ => lpWritten a s
  | 0x08, _ => lnWritten old a s
  | 0x09, _ =>
    let s1 := drvenSync (if a.att = 0x02B then ntcWritten a.idx (axWritten old a s) else axWritten old a s)
    if a.kind = 0 ∧ a.att = 0x021 then seracSync s1 else s1
  | 0x0A, _ => vlvWritten a s
  | 0x0B, _ => dioWritten old a s
  | 0x0C, _ => encWritten old a s
  | 0x0D, _ => thWritten a s
  | 0x0F, _ => pairConfig s
  | 0x10, _ => if a = hostCfg then { s with host := { s.host with cfgAt := some (s.clk.raw + nsPerS) } } else if a = hostWd then wdWritten s else s
  | 0x12, _ => trendWritten old s
  | 0x13, _ => cropShow a.idx s
  | 0x14, _ => aoWritten old a s
  | _, _ => s

/-- The check of a write of an attribute that has checks of its own beside them (R107, R135, R157, R270, R287). -/
def specialErr (o : Origin) (a : Attr) (v : AVal) (s : Block) : Nat :=
  match a.blk, a.kind, a.att, v with
  | 0x05, 0, 0x022, .num n => feExcCheck a.idx (some n) none s
  | 0x05, 0, 0x023, .num n => feExcCheck a.idx none (some n) s
  | 0x06, 0, 0x02C, .tab t => tmSensCheck t s
  | 0x07, 0, 0x030, .tab t => bankWriteCheck a.idx false t s
  | 0x07, 0, 0x031, .tab t => bankWriteCheck a.idx true t s
  | 0x0B, 1, 0x022, .num n => probeCheck o a.idx n s
  | 0x0C, 1, 0x021, .num n => ratioCheck n s
  | _, _, _, _ => 0

/-- Whether a write of an attribute goes through `specialAct`. -/
def isSpecial (a : Attr) : Bool :=
  match a.blk, a.kind, a.att with
  | 0x02, 0, 0x030 => true
  | 0x05, 0, 0x022 => true
  | 0x05, 0, 0x023 => true
  | 0x06, 0, 0x02C => true
  | 0x07, 0, 0x030 => true
  | 0x07, 0, 0x031 => true
  | 0x0B, 1, 0x022 => true
  | 0x0C, 1, 0x021 => true
  | _, _, _ => false

/-- A write of such an attribute taken. -/
def specialAct (a : Attr) (v : AVal) (s : Block) : Block :=
  match a.blk, v with
  | 0x02, .num n => refSelAct n s
  | 0x05, .num n => if a.att = 0x022 then feExcWrite a.idx (some n) none s else feExcWrite a.idx none (some n) s
  | 0x06, .tab t => tmSensAct a.idx t s
  | 0x07, .tab t => bankWriteAct a.idx (a.att == 0x031) t s
  | 0x0B, .num n => dioProbeAct a.idx n (s.markVol a)
  | 0x0C, .num n => ratioAct a.idx n s
  | _, _ => s

/-- The checks of a written value (classes 0x02 and 0x04 of R354): its fields and its range, its order, and the others it
involves. -/
def valueErr (a : Attr) (v : AVal) (s : Block) : Nat :=
  match v with
  | .num n => firstErr [numErr s a n, ownErr a n, crossErr a (s.setVal a v)]
  | .tab t => firstErr [tableErr a t, crossErr a (s.setVal a v)]

/-- The checks of a write of a RW or RWP attribute after addressing, access and level (R354). -/
def objErr (o : Origin) (a : Attr) (v : AVal) (s : Block) : Nat :=
  firstErr [stateErr o a s, roleErr a (s.setVal a v),
    (if isSpecial a then
      (match v with
       | .num n => firstErr [numErr s a n, specialErr o a v s]
       | .tab _ => specialErr o a v s)
     else valueErr a v s),
    if serviceOnly a then ownerErr o s else 0]

/-- A write of a RW or RWP attribute taken (R79, R362): it holds the value, counts as VOLATILE, and acts. -/
def objAct (a : Attr) (v : AVal) (s : Block) : Block :=
  if isSpecial a then specialAct a v s
  else written s a ((s.setVal a v).markVol a)

/-- The check of a write of a command attribute of a function (R354): its state class before its value class; `present`:
the condition a CLEAR would clear persists. -/
def cmdErr (o : Origin) (a : Attr) (n : Nat) (present : Bool) (s : Block) : Nat :=
  let i := a.idx
  let op := fld n 7 0
  let c := match a.blk, a.kind, a.att with
    | 0x02, 0, 0x020 => timeSetCheck s
    | 0x04, 0, 0x020 => modeCheck o op s
    | 0x04, 0, 0x040 => if op = 0 ∨ 3 < op then 0x0201 else persistCheck op (fld n 63 32) s
    | 0x05, 1, 0x020 => need (s.bit (fgStat i) 0) 0x0303
    | 0x06, 0, 0x030 => if op = 0 ∨ 3 < op then 0x0201 else tmCmdCheck o op i (fld n 15 8) s
    | 0x07, 0, 0x032 => (swapCheck i s).1
    | 0x07, 0, 0x038 => clearPlausCheck i s
    | 0x07, 2, 0x030 => restoreCheck i s
    | 0x08, 0, 0x038 => if op = 0 ∨ 7 < op then 0x0201 else lnCmdCheck op i (fld n 25 16) s
    | 0x09, 0, 0x038 => axClearCheck i present s
    | 0x0A, 0, 0x038 => if op = 2 then vRetryCheck i s else vClearCheck i present s
    | 0x0A, 1, 0x038 => bnkClearCheck i present s
    | 0x0B, 1, 0x038 => dioReadyCheck i s
    | 0x0C, 0, 0x030 => presetCheck i s
    | 0x0C, 0, 0x038 => encClearCheck i present s
    | 0x0C, 1, 0x038 => encReady (emuStat i) s
    | 0x0D, 1, 0x038 => tzClearCheck i s
    | _, _, _ => 0
  let state := need (s.modeNo != 0 || a == imgStageCtrl || a == imgStageData || a == imgKeyCmd || a == hostAuthCmd) 0x0301
  if state ≠ 0 then state
  else if c / 256 = 3 then c
  else firstErr [fieldErr a n, c]

/-- A command attribute of a function written (R362): its act. -/
def cmdAct (o : Origin) (a : Attr) (n : Nat) (s : Block) : Block :=
  let i := a.idx
  let op := fld n 7 0
  match a.blk, a.kind, a.att with
  | 0x02, 0, 0x020 => timeSetAct n s
  | 0x04, 0, 0x020 => modeAct o op s
  | 0x04, 0, 0x040 => persistAct op (fld n 63 32) s
  | 0x05, 1, 0x020 => feGroupRestart i s
  | 0x06, 0, 0x030 => if op = 3 then tmRestart i s else tmCalAct op i (fld n 15 8) s
  | 0x07, 0, 0x032 => swapAct i s
  | 0x07, 0, 0x038 => clearPlausAct i s
  | 0x07, 2, 0x030 => restoreAct i s
  | 0x08, 0, 0x038 =>
    (match op with
     | 1 => lnStartAct i s
     | 2 => linePend i 0 2 s
     | 3 => lnNextAct i s
     | 4 => lnObserveAct i (fld n 25 16) (fld n 47 32) s
     | 5 => lnClearCorrAct i s
     | 6 => lnClearHoldAct i s
     | _ => linePend i 10 2 s)
  | 0x09, 0, 0x038 => axClearAct i s
  | 0x0A, 0, 0x038 => if op = 2 then vRetryAct i (bitAt n 8) s else vClearAct i s
  | 0x0A, 1, 0x038 => bnkClearAct i s
  | 0x0B, 1, 0x038 => dioClearAct i s
  | 0x0C, 0, 0x030 => presetAct i n s
  | 0x0C, 0, 0x038 => encClearAct i s
  | 0x0C, 1, 0x038 => emuRebase i s
  | 0x0D, 1, 0x038 => thReturn i s
  | _, _, _ => s

/-- What the refusal of a command raises beside its response: 0x02 and 0x7B. -/
def cmdRefused (a : Attr) (n code : Nat) (s : Block) : Block :=
  if a = modeCmd then modeRefused (fld n 7 0) code s
  else if a.blk = 7 ∧ a.kind = 0 ∧ a.att = 0x032 then swapRefused a.idx code s
  else s

/-- Whether a write belongs to the pair scope (R334). -/
def pairScope (a : Attr) (n : Nat) : Bool :=
  a.blk == 7 || a.blk == 8 || a.blk == 0x13 || (a.blk == 5 && a.kind == 2) || a == modeAutoResume || a == modeHoldFan ||
  a == modePersistCmd || (a == modeCmd && 1 ≤ fld n 7 0 && fld n 7 0 ≤ 5)

end Sys2Proof.Machine
end

