-- ==== Sys2Proof/Machine/Late.lean ====
section
/-! DEFINITION. Machine/Late.lean: accepted writes and commands that wait for the instant at which they take effect, and the start of
a class sample, which takes those that wait for it (R163, R166, R175, R203, R334). -/

namespace Sys2Proof.Machine

/-- The class whose sample takes a write of an attribute (R175, R203, R334): the loop's, the class's own for its CFG, D for the
lines and, at a head, the crop sets; none where no class sample takes it. -/
def lateClass (s : Block) (a : Attr) : Option Nat :=
  if accessOf a = some .wo then
    (if a.blk = 7 ∧ a.kind = 0 ∧ a.att = 0x038 then some (lpClass s a.idx)
     else if a.blk = 7 ∧ a.kind = 2 then some a.idx else none)
  else match a.blk, a.kind with
    | 0x07, 0 => if a.att = 0x030 ∨ a.att = 0x031 then none else some (lpClass s a.idx)
    | 0x07, 2 => some a.idx
    | 0x08, _ => some 3
    | 0x13, _ => if s.role = 2 then some 3 else none
    | _, _ => none

/-- The timebase value from which a host's write of an attribute may take effect, where it waits (R146, R175, R203, R334): at a
head without a partner the cycle start assigned to the pair scope; elsewhere 2 µs on for a loop or a class, now for a line,
whose next model step takes it, and for a running ring, whose next frame does. -/
def lateDue (s : Block) (a : Attr) : Option Nat :=
  if s.loneHead ∧ pairScope a 0 then some (lateStart s)
  else if tmAtFrame a ∧ tmRuns s a.idx then some s.clk.tb
  else (lateClass s a).map (fun _ => if a.blk = 8 then s.clk.tb else s.clk.tb + 2000)

/-- A write or command whose instant has come carried out (R175, R334). -/
def lateApply (s : Block) (w : LateW) : Block :=
  if !pairScope w.a (match w.v with | .num n => n | .tab _ => 0) then s
  else match accessOf w.a, w.v with
  | some .wo, .num n => cmdAct (if w.entry < 4 then .sess w.entry else .pair) w.a n s
  | some .wo, .tab _ => s
  | _, v => if isSpecial w.a then s.setVal w.a v else written s w.a (s.setVal w.a v)

/-- The waiting writes that `p` picks, carried out in the order they were accepted; the last one to an attribute counts. -/
def lateRun (p : LateW → Bool) (s : Block) : Block :=
  (s.late.filter p).foldl lateApply { s with late := s.late.filter (fun w => !p w) }

/-- At a cycle start at timebase `t` (R334): what waits for it and no class sample takes. -/
def lateCycle (t : Nat) (s : Block) : Block := lateRun (fun w => w.due ≤ t && (lateClass s w.a).isNone && !tmAtFrame w.a) s

/-- At boundary `t` of class `k` (R175): the waiting writes of its own CFG, under the old period. -/
def lateConfig (k t : Nat) (s : Block) : Block := lateRun (fun w => w.due ≤ t && w.a == clsCfg k) s

/-- At boundary `t` of class `k` (R175, R334): the waiting writes that its samples take. -/
def lateSample (k t : Nat) (s : Block) : Block := lateRun (fun w => w.due ≤ t && lateClass s w.a == some k && w.a != clsCfg k) s

/-- The instant at which a write that may take effect from `due` does (R352): the first boundary of its class, where it has one; the
class of a loop is the one it has by then. -/
def lateAt (s : Block) (a : Attr) (due : Nat) : Nat :=
  let next := fun (k d : Nat) => ceilMultiple (max 1 (clsPeriod s k)) d
  let move := fun (k : Nat) (w : LateW) => match w.v with
    | .num v => if w.a = lpCfg a.idx ∧ next k w.due < next k due then fld v 2 1 else k
    | .tab _ => k
  match lateClass s a with
  | none => if tmAtFrame a then tmNextFrame s a.idx else due
  | some k => if a.blk = 7 ∧ a.kind = 0 then next (s.late.foldl move k) due else next k due

/-- A host's write of an attribute accepted, to wait for its instant: it counts as VOLATILE (R79). -/
def lateTake (a : Attr) (v : AVal) (due : Nat) (s : Block) : Block := lpNoBank a v (lateAdd a v 4 due (s.markVol a))

/-- One accepted item of the pair scope applied from its cycle start (R334): what a class sample reads is taken by the first
sample that starts from now. -/
def pairApply (entry : Nat) (s : Block) (it : Attr × AVal) : Block :=
  match accessOf it.1, it.2 with
  | some .wo, .num n => if (lateClass s it.1).isSome then lateAdd it.1 it.2 entry s.clk.tb s else cmdAct (if entry < 4 then .sess entry else .pair) it.1 n s
  | some .wo, .tab _ => s
  | _, v => if (lateClass s it.1).isSome then lateTake it.1 v s.clk.tb s else objAct it.1 v s

/-- The boundary of class k that comes next, not before `d` (R163): a multiple of its period above its last boundary, whose
sample has not started yet. -/
def classNext (s : Block) (k d : Nat) : Nat :=
  let p := max 1 (clsPeriod s k)
  max (nextMultiple p (s.cls k).last) (ceilMultiple p (max (s.clk.tb - (classStart s k s.clk.tb - s.clk.tb)) d))

/-- CLASS_SAMPLE (R163, R166, R175): class k starts its next sample, which takes the writes that wait for it; a write of its CFG
takes effect at a boundary of the old period. `ax` is what a class A sample takes from each axis. -/
def execClassSample (k : Nat) (ax : List AxisIn) (s : State) : Res := onBlock s fun s =>
  if 4 ≤ k then .next s
  else if s.phase ≠ .active ∨ (s.cls k).prog.isSome then .next s
  else
    let s' := lateConfig k (classNext s k 0) (pairAdopt k s)
    let t := classNext s' k (classNext s k 0)
    let sT := lateSample k t (s'.advanceTb t)
    let s0 := sT.advanceTb (classStart sT k t)
    let s1 := match k with
      | 0 => emuAxes (atTb t encSampleAll s0)
      | 1 => if s0.role = 1 then modeBoundary t 0 s0 else s0
      | 2 => lineRates t s0
      | _ => s0
    if s1.phase ≠ .active then .next (s1.setCls k { s1.cls k with last := t })
    else
      let s3 := match k with
        | 0 => { s1 with serac := { s1.serac with axIn := ax } }
        | 3 => lineLatchAll t s1
        | _ => s1
      let run := !(coresOn s3).isEmpty
      .next (s3.setCls k { s3.cls k with
        last := t, prog := if run then some t else none, tent := if run then sampleLoops s3 k t else []
        dl := clsDeadline s3 k })

end Sys2Proof.Machine
end

