-- ==== Sys2Proof/Machine/Floe.lean ====
section
/-! DEFINITION. Machine/Floe.lean: the ports, the ring cycle with its snapshots and sections, arbitration at the module's
output stage, forwarding, and the Rime ports (R301 to R319, R327 to R329). -/

namespace Sys2Proof.Machine

/-- Whether this module performs the ring cycle (R307). -/
def ringNode (s : Block) : Bool := s.phase == .active && (s.role == 2 || s.role == 3)

/-- Whether the optical bypass joins the two ring ports (R22, R297): unpowered, in a reset, parked or shut down. -/
def Block.bypass (s : Block) : Bool :=
  match s.phase with
  | .off => true
  | .held => true
  | .park => true
  | .deepPark => true
  | .halted => true
  | _ => false

/-- DUP_ID (R312). -/
def Block.dupId (s : Block) : Bool := s.bit floeRing 2

/-- The cycle number as a frame carries it (R303). -/
def cyc32 (n : Nat) : Nat := n % 2 ^ 32

/-- Whether a port is up. -/
def portUp (s : Block) (p : Nat) : Bool := s.bit (floePort p) 2

/-- Deltas in flight on a copy path that goes down are discarded (R330, R333). -/
def dropDeltas (s : Block) : Block :=
  let s1 := ({ s with pair := { s.pair with deltas := [] } }).countN pairCount 191 160 s.pair.deltas.length
  match s.pair.deltas.getLast? with
  | some d => pairBadCopy s.clk.tb d.cycle s1
  | none => s1

/-- The copy path moves (R333): XL_PATH and 0xFC. -/
def copyPath (xl : Bool) (ts : Nat) (s : Block) : Block :=
  if !s.paired ∨ s.bit pairStat 4 = xl then s
  else (s.putBit pairStat 4 xl).raiseAt ts 0xFC sevWarn 0 pairObj (b2n xl)

/-- FLOE_LINK_DOWN (R301, R311): port 0 east, 1 west, 2 cross-link. -/
def execFloeLinkDown (p : Nat) (s : State) : Res := onBlock s fun s =>
  if 3 ≤ p then .next s
  else if s.phase ≠ .active ∨ !portUp s p then .next s
  else
    let s1 := (s.putBit (floePort p) 2 false).raise 0xF0 sevWarn floeObj p
    let s2 := if p < 2 then s1.countUp floeCount 191 160 else s1
    if p = 2 ∧ s2.bit pairStat 4 then .next (copyPath false s2.clk.tb (dropDeltas s2)) else .next s2

/-- A delay measured on a port (R313): the average of the last 16. -/
def portDelay (p ns : Nat) (s : Block) : Block :=
  let l := (ns :: getL s.floe.delays p []).take 16
  ({ s with floe := { s.floe with delays := setAt s.floe.delays p l } }).fput (floePort p) 31 8
    (satU 24 (rdiv (sumN l) l.length).toNat)

/-- FLOE_LINK_UP (R301): synchronised for 10 ms and a delay of `ns` measured. The cross-link runs in the HEAD role only
(R302). -/
def execFloeLinkUp (p ns : Nat) (s : State) : Res := onBlock s fun s =>
  if 3 ≤ p then .next s
  else if s.phase ≠ .active ∨ portUp s p ∨ !s.bit (floePort p) 0 ∨ (p = 2 ∧ s.role ≠ 2) then .next s
  else
    let s1 := { s with floe := { s.floe with delays := setAt s.floe.delays p [] } }
    .next (((portDelay p ns s1).putBit (floePort p) 2 true).raise 0xF0 sevInfo floeObj p)

/-- LINK_DELAY_PROBE (R313): one exchange on a port gave `ns`. -/
def execLinkDelayProbe (p ns : Nat) (s : State) : Res := onBlock s fun s =>
  if 3 ≤ p then .next s
  else if s.phase ≠ .active ∨ !portUp s p then .next s
  else .next (portDelay p ns s)

/-- What one PUBLISH entry latches at C_N (R307): the value last delivered, a status word, or a ring's SUMMARY (R326). -/
def pubEntry (s : Block) (t oid : Nat) : SnapEnt :=
  let a := attrOf oid
  let age := fun (ts : Nat) => satU 32 (rdiv ((t - ts : Nat) : Int) 1000).toNat
  if a.blk = 6 ∧ a.att = 0x011 then
    let w := s.get (tmSummary a.idx)
    { echo := false, oid := oid, qual := fld w 130 128, flags := b2n (!(s.tch a.idx).good) * 8
      val := pack [(fld w 79 64, 0), (ofS 16 (s.tch a.idx).region, 16)], age := age (fld w 63 0) }
  else if isSource oid then
    match srcOwn s oid with
    | some v =>
      let fe := a.blk == 5
      let bad := fe && feSilent s a.idx t
      { echo := false, oid := oid, qual := if fe then s.fget (feLast a.idx) 130 128 else 0, flags := b2n bad * 8
        val := ofS 32 v.1, age := age v.2 }
    | none => { echo := false, oid := oid, qual := 0, flags := 8, val := 0, age := 2 ^ 32 - 1 }
  else { echo := false, oid := oid, qual := 0, flags := 0, val := s.get a % 2 ^ 32, age := 0 }

/-- The echo entry of a destination that the section applied (R307). -/
def echoEntry (s : Block) (oid : Nat) : SnapEnt :=
  match destOwn s oid with
  | some d => { echo := true, oid := 0, qual := 0, flags := b2n d.forced + 2 * b2n d.capped, val := oid, age := ofS 32 d.val }
  | none => { echo := true, oid := 0, qual := 0, flags := 0, val := oid, age := 0 }

/-- The SNAPSHOT latched at C_N (R307). -/
def snapLatch (s : Block) (t : Nat) : List SnapEnt :=
  ((List.range 256).map (fun i => entry (s.get floePublish) 32 i)).filter (fun e => e != 0) |>.map (pubEntry s t)
    |> (· ++ s.floe.echo.map (fun e => echoEntry s e.1))

/-- The PUBLISH index of an object (R307). -/
def pubIndex (s : Block) (oid : Nat) : Nat :=
  ((List.range 256).find? (fun i => entry (s.get floePublish) 32 i == oid)).getD 0xFF

/-- The SNAPSHOT payload (R307). -/
def snapBytes (s : Block) (l : List SnapEnt) : List Byte :=
  leBytes 2 l.length ++ zeros 2 ++ (l.map (fun e =>
    leBytes 1 (if e.echo then 0xFF else pubIndex s e.oid) ++ leBytes 1 e.qual ++ leBytes 2 e.flags ++ leBytes 4 e.val ++
    leBytes 4 e.age)).flatten

/-- The wire bytes of a frame (R303). -/
def wireBytes (payload : Nat) : Nat := payload + 48

/-- One entry of a SNAPSHOT of a node for C_N = `t` taken (R119, R150, R158, R307). -/
def snapEntry (node t : Nat) (s : Block) (e : SnapEnt) : Block :=
  if e.echo then
    let a := attrOf e.val
    let v : Int := if a.blk = 9 then toS 32 e.age else (e.age : Int)
    let x : EchoVal := ⟨node, e.val, v, bitAt e.flags 0, fld e.flags 2 1 != 0⟩
    { s with echo := x :: s.echo.filter (fun y => !(y.node == node && y.oid == e.val)) }
  else
    let ts : Int := (t : Int) - (e.age * 1000 : Nat)
    let v := toS 32 e.val
    let inv := bitAt e.flags 3
    let dlv := !(inv && e.age == 2 ^ 32 - 1)
    let old := s.remote.find? (fun r => r.node == node && r.oid == e.oid)
    let isNew := dlv && (match old with | some r => r.ts != ts | none => true)
    let s1 := { s with remote := (⟨node, e.oid, v, ts, inv, dlv⟩ : RemVal) :: s.remote.filter (fun r => !(r.node == node && r.oid == e.oid)) }
    let a := attrOf e.oid
    if !isNew ∨ (node = s.img.node ∧ !s.paired) then s1
    else if a.blk = 5 ∧ a.kind = 0 then lineTake node a.idx ts.toNat e.qual v s1
    else if a.blk = 6 ∧ a.att = 0x011 ∧ e.qual = 0 ∧ !inv then lineRing node a.idx (toS 16 (fld e.val 15 0)) (9 * toS 16 (fld e.val 31 16)) s1
    else s1

/-- A SNAPSHOT of a node taken. -/
def snapTake (node t : Nat) (l : List SnapEnt) (s : Block) : Block := emuSnap node (l.foldl (snapEntry node t) s)

/-- The threshold switches of a HEAD, once a cycle, on the values of the cycle's SNAPSHOTs (R119): off until a value is delivered;
INV_ACT where the source's own SNAPSHOT says that it would act on its invalid action, or where 4 intervals of the slowest RATE
have passed since the value (the SNAPSHOT does not carry the source's own interval, log entry 47). -/
def headSwitches (s : Block) : Block :=
  forN 32 (fun k x =>
    if !x.bit (swCfg k) 0 then x
    else match x.remote.find? (fun r => r.node == x.nodeOf (x.fget (swCfg k) 27 16) &&
        (attrOf r.oid).blk == 5 && (attrOf r.oid).kind == 0 && (attrOf r.oid).idx == x.fget (swCfg k) 13 8) with
      | none => x
      | some r =>
        if !r.dlv then x
        else if r.inv ∨ r.ts + (4 * nsPerS : Nat) ≤ x.clk.tb then swInvalid x k
        else swEval r.val x k) s

/-- A value of a section written to its destination on this module (R327). -/
def sectApply (s : Block) (e : Nat × Nat) : Block := if destKind s e.1 then destPut (toS 32 e.2) e.1 s else s

/-- The section a stage applies of those accepted (R327): the highest CLAIM, of equal claims the lower SRC. -/
def sectPick (l : List Sect) : Option Sect :=
  l.foldl (fun b x => match b with
    | none => some x
    | some y => if y.claim < x.claim ∨ (y.claim = x.claim ∧ x.src < y.src) then some x else some y) none

/-- What the applied section's MODE does at an OUTSTATION (R329). -/
def sectMode (m : Nat) (s : Block) : Block :=
  if s.role ≠ 3 ∨ s.modeNo = 5 then s
  else if m = 4 then { s with mode := { s.mode with fbSect := true, sectMode := none } }
  else
    let k := if m = 2 ∨ m = 3 then m else 1
    { s with mode := { s.mode with fbSect := false, sectMode := some k } }

/-- The accepted section applied at C_M = `t` (R327, R328). -/
def stageApply (m t : Nat) (c : Sect) (tied : Option Sect) (s : Block) : Block :=
  let first := s.floe.lastN.isNone || s.bit pairStat 24
  let s1 := c.ents.foldl sectApply s
  let lose := (s1.floe.sects.filter (fun x => x.src != c.src)).length
  let s2 := { s1 with floe := { s1.floe with lastN := some (m - 1), echo := c.ents.filter (fun e => destKind s e.1) }
                      mode := { s1.mode with fbHeads := false }, pair := { s1.pair with missEv := false } }
  let s3 := s2.put pairStage (pack [(cyc32 (m - 1), 0), (c.claim % 2 ^ 32, 32), (c.src % 4096, 64)])
  let s4 := ((s3.fput pairStat 23 16 0).putBit pairStat 24 false).countN pairCount 95 64 lose
  let s5 := match tied with
    | some y => s4.raiseAt t 0xFB sevFault 0 pairObj (pack [(c.src % 4096, 0), (y.src % 4096, 16)])
    | none => s4
  let s6 := sectMode c.mode s5
  if first then outSync s6 else s6

/-- A window that closes with no accepted section at C_M = `t` (R328). -/
def stageMiss (t : Nat) (s : Block) : Block :=
  match s.floe.lastN with
  | none => s
  | some n =>
    let run := satInc 8 (s.fget pairStat 23 16)
    let s1 := (s.fput pairStat 23 16 run).countUp pairCount 31 0
    let s2 := { s1 with floe := { s1.floe with echo := [] }, mode := { s1.mode with sectMode := none } }
    let d := pack [(run, 0), (cyc32 n, 32)]
    let s3 := if s2.pair.missEv then s2 else
      ({ s2 with pair := { s2.pair with missEv := true } }).raiseAt t 0xFA sevWarn 0 pairObj d
    if run ≠ s3.fget pairCfg 47 40 then s3
    else
      let s4 := s3.raiseAt t 0xFA sevFault 0 pairObj d
      if s4.role = 3 then { s4 with mode := { s4.mode with fbHeads := true } } else outSync (s4.putBit pairStat 24 true)

/-- The close of the window before C_M (R327, R328): a cycle at or below LAST_N has no section to apply. -/
def stageClose (m t : Nat) (s : Block) : Block :=
  let old := match s.floe.lastN with | some n => decide (m - 1 ≤ n) | none => false
  let l := if old then [] else s.floe.sects.filter (fun c => c.cycle == cyc32 (m - 1))
  match sectPick l with
  | none => stageMiss t s
  | some c => stageApply m t c (l.find? (fun y => y.claim == c.claim && y.src != c.src)) s

/-- VALUES adopted by a JOINING standby (R332): every writable attribute of the pair scope as the active head has it. -/
def valuesAdopt (v : List (Attr × AVal)) (mode : Nat) (o : Overlay) (s : Block) : Block :=
  let writable := fun (a : Attr) => pairScope a 0 && (match accessOf a with | some .rw => true | some .rwp => true | _ => false)
  let s1 := { s with regs := s.regs.filter (fun e => !writable e.1), tabs := s.tabs.filter (fun e => !writable e.1) }
  let s2 := v.foldl (fun x e => if writable e.1 then x.setVal e.1 e.2 else x) s1
  let s3 := persistShow { s2 with late := s2.late.filter (fun w => !writable w.a), mram := { s2.mram with overlay := o }, pair := { s2.pair with gotVals := true, values := none } }
  let s4 := seracSync (forN 16 cropShow s3)
  if 1 ≤ mode ∧ mode ≤ 4 ∧ mode ≠ s4.modeNo then { s4 with mode := { s4.mode with standbyMode := some (mode, 2) } } else s4

/-- Whether the partner has been heard in cycle `n` or since: one in STANDBY announces itself in every cycle (R324, R340, R342). -/
def pairHeardIn (s : Block) (n : Nat) : Bool := match s.pair.heardAt with | some h => n ≤ h | none => false

/-- The pair's business at C_M = `t` (R324, R332 to R337, R340). -/
def pairCycle (m t : Nat) (s : Block) : Block :=
  if !s.paired then s
  else
    let s1 := copyPath (portUp s 2) t s
    let silent := pairSilent s1 m
    let s2 := match s1.pair.peState with
      | some k => pairTo k t { s1 with pair := { s1.pair with peState := none } }
      | none => s1
    let s3 : Block := if silent then
        (let x := s2.putBit pairStat 6 false
         if x.pairState = 5 then pairTo 1 t x else if x.pairState = 2 then x.putBit pairStat 3 true else x)
      else s2
    -- requests and writes of cycles up to M
    let due := s3.pair.reqs.filter (fun r => r.e ≤ m)
    let keeps := s3.pairState == 2 || s3.pairState == 4
    let s4 : Block := { s3 with pair := { s3.pair with reqs := s3.pair.reqs.filter (fun r => !(r.e ≤ m && (r.done || !keeps))) } }
    let s5 : Block := if keeps then (due.filter (fun r => !r.items.isEmpty)).foldl (fun x r =>
        r.items.foldl (pairApply r.entry) { x with pair := { x.pair with reqs := x.pair.reqs.map (fun q =>
          if q.d = r.d ∧ q.seq = r.seq ∧ q.reqId = r.reqId ∧ q.handle = r.handle then { q with items := [] } else q) } }) s4 else s4
    let dueW := s5.pair.writes.filter (fun w => w.1 ≤ m)
    let s6 := dueW.foldl (fun x w => w.2.1.foldl (pairApply 4) x)
      { s5 with pair := { s5.pair with writes := s5.pair.writes.filter (fun w => !(w.1 ≤ m)) } }
    let s7 := match s6.pair.values with
      | some v => if v.1 ≤ m ∧ s6.pairState = 3 then valuesAdopt v.2.1 v.2.2.1 v.2.2.2 s6 else s6
      | none => s6
    -- the handover of a drill
    let s8 := match s7.pair.hand with
      | some (c, dur, gives) =>
        if m < c then s7
        else if gives then
          (if s7.pair.partner ≠ 4 ∨ !pairHeardIn s7 (m - 1) then
             (let x := drillEnd 3 t s7
              if pairHeardIn s7 (m - 1) then x else x.putBit pairStat 3 true)
           else if s7.pairState ≠ 2 then { s7 with pair := { s7.pair with hand := none } }
           else
             let x := pairTo 4 t ({ s7 with pair := { s7.pair with hand := none, gotVals := true } })
             if s7.pair.drilled then drillEnd (match s7.pair.drillTo with | some e => if e ≤ t then 1 else 2 | none => 2) t x
             else (x.putBit pairStat 5 true).raiseAt t 0xFF sevInfo 0 pairObj 0)
        else
          (if s7.pairState ≠ 4 then { s7 with pair := { s7.pair with hand := none } }
           else
             let x := promote t true { s7 with pair := { s7.pair with hand := none } }
             if s7.bit pairStat 5 then drillEnd (if dur = 0 then 2 else 1) t x
             else
               let y := { x with pair := { x.pair with drilled := true, drillDur := dur, drillTo := some (t + dur * 60 * nsPerS) } }
               (y.putBit pairStat 5 true).raiseAt t 0xFF sevInfo 0 pairObj 0)
      | none => s7
    let used := (List.range 4).filter (fun k => (List.range 256).any (fun n => s8.bit (lpCfg n) 0 && lpClass s8 n == k) ||
      (k == 3 && (List.range 8).any (lnOn s8)))
    let s9 := if s8.pairState = 3 ∧ s8.pair.gotVals ∧ used.all (fun k => s8.pair.gotCls.contains k) then pairTo 4 t s8 else s8
    s9.emit (.announce s9.pairState (pairOwn s9) s9.img.hash)

/-- RING_CYCLE_START (R307, R327 to R329, R68): C_N of the next cycle. -/
def execRingCycleStart (s : State) : Res := onBlock s fun s =>
  if !ringNode s then .next s
  else
    let tc := max 1 s.tCyc
    let t := match s.floe.cycle with
      | some n => max ((n + 1) * tc) (ceilMultiple tc s.clk.tb)
      | none => ceilMultiple tc s.clk.tb
    let m0 := t / tc
    let s0 := stageClose m0 t (s.advanceTb t)
    let s1 := { s0 with floe := { s0.floe with cfg := s0.get floeCfg } }
    let m := t / max 1 s1.tCyc
    let s2 := { s1 with floe := { s1.floe with
      cycle := some m, gath := false, cmdd := false, launched := false, sects := []
      seen := s1.floe.seen.filter (fun x => x.2.2.2.1 == cyc32 m || x.2.2.2.1 == cyc32 (m - 1)) } }
    let s3 := pairCycle m t (s2.put floeCycleNow (cyc32 m))
    let s4 := if s3.standby then
        (match s3.pair.modeAt with
         | some (e, k, c) => if e ≤ m then
             { s3 with mode := { s3.mode with standbyMode := some (k, c) }, pair := { s3.pair with modeAt := none } } else s3
         | none => s3)
      else s3
    let s5 := modeBoundary t m (lateCycle t s4)
    if s5.phase ≠ .active then .next s5
    else .next { s5 with floe := { s5.floe with latch := snapLatch s5 t } }

/-- SNAPSHOT_LAUNCH (R307): 10 µs after C_N, east and west. -/
def execSnapshotLaunch (s : State) : Res := onBlock s fun s =>
  match s.floe.cycle with
  | none => .next s
  | some n =>
    if !ringNode s ∨ s.floe.launched then .next s
    else
      let s0 := s.advanceTb (n * s.tCyc + 10000)
      let s1 := { s0 with floe := { s0.floe with launched := true } }
      if s1.dupId then .next s1 else .next (floeSend dualPath 3 dstHeads n (snapBytes s1 s1.floe.latch) s1)

/-- The ring state of R311: 0 INTACT, 1 BROKEN, 2 ISOLATED. -/
def ringState (s : Block) : Nat :=
  if !portUp s 0 && !portUp s 1 then 2 else if s.floe.back then 0 else 1

/-- The nodes heard on either port in this cycle. -/
def nodesHeard (s : Block) : List Nat :=
  s.floe.heard.foldl (fun l h => if l.contains h.1 ∨ h.1 = s.img.node then l else h.1 :: l) []

/-- Reach table and ring state at a gather instant (R311). -/
def ringReach (t : Nat) (s : Block) : Block :=
  let n := (nodesHeard s).length
  let st := ringState s
  let old := s.fget floeRing 1 0
  let w := setFld (setFld (setFld (s.get floeRing) 1 0 st) 27 16 n) 43 32 n
  let s1 := { s.put floeRing w with floe := { s.floe with reach := s.floe.heard, heard := [], back := false } }
  if st = old then s1 else s1.raiseAt t 0xF1 sevWarn 0 floeObj (pack [(st, 0), (n % 4096, 16)])

/-- The budget of R310 at a HEAD; `df` is the fibre delay of the longest path. -/
def ringBudget (df t : Nat) (s : Block) : Block :=
  let h := s.fget floeRing 43 32
  let ls := s.floe.snaps.foldl (fun m x => max m x.2.2) 0
  let bs := fun (p : Nat) => sumN ((s.floe.snaps.filter (fun x => x.2.1 == p)).map (fun x => x.2.2))
  let heads := if s.paired then 2 else 1
  let tg := 40000 + df + max (h * 1200) (8 * max (bs 0) (bs 1)) + 8 * ls
  let tw := 40000 + df + max (h * 1200) (8 * heads * s.floe.bc) + 8 * s.floe.lx
  let low := decide (s.tGather < tg) || decide (s.tCmdw < tw)
  let s1 := s.put floeBudget (pack [(satU 32 tg, 0), (satU 32 tw, 32)])
  let s2 := { s1 with floe := { s1.floe with snaps := [], low := low } }
  if low = s.floe.low then s2
  else s2.raiseAt t 0xF4 (if low then sevWarn else sevInfo) 0 floeObj (pack [((rdiv tg 1000).toNat, 0), ((rdiv tw 1000).toNat, 32)])

/-- The time master sends TIME (R314). -/
def timeSend (n : Nat) (s : Block) : Block :=
  let higher := match s.floe.master with | some m => decide (pairOwn s < m.1) && decide (n ≤ m.2 + 3) | none => false
  if s.role = 2 ∧ (!s.paired ∨ s.pairState = 2) ∧ !higher then
    floeSend dualPath 1 dstAll n (timeBytes s.img.node (pairOwn s) s.clk.tb 0) (masterShow s.img.node s)
  else s

/-- One EVENT frame of up to 80 records, in the open phase (R91, R93, R304): those that have left the queue first. -/
def eventSend (n : Nat) (s : Block) : Block :=
  let l := (s.evq.q.filter (fun r => s.floe.evNext ≤ r.num)).take (80 - s.floe.evOut.length)
  let recs := s.floe.evOut.take 80 ++ l.map (fun (x : QRec) => x.ev)
  if recs.isEmpty ∨ s.dupId then s
  else
    let next := match l.getLast? with | some r => r.num + 1 | none => s.floe.evNext
    floeSend dualPath 5 dstHeads n (recs.map evBytes).flatten
      { s with floe := { s.floe with evNext := next, evOut := s.floe.evOut.drop 80 } }

/-- GATHER_INSTANT (R307, R309 to R311, R314). -/
def execGatherInstant (df : Nat) (s : State) : Res := onBlock s fun s =>
  match s.floe.cycle with
  | none => .next s
  | some n =>
    if !ringNode s ∨ s.floe.gath then .next s
    else
      let t := n * s.tCyc + s.tGather
      let s0 := s.advanceTb t
      let s1 := { s0 with floe := { s0.floe with gath := true } }
      let s2 := ringReach t s1
      if s2.role ≠ 2 then .next (eventSend n s2)
      else
        let s3 := headSwitches (snapTake s2.img.node (n * s2.tCyc) s2.floe.latch s2)
        .next (eventSend n (timeSend n (ringBudget df t s3)))

/-- The destinations and values of the loops of a HEAD that run (R155, R307): node, object ID, value. -/
def headValues (s : Block) : List (Nat × Nat × Nat) :=
  let loops := (List.range 256).filter (fun n => (s.lch n).run && s.fget (lpOut n) 63 0 != 0)
  let fromLoops := (loops.map (fun n => (lpDests s n).map (fun d => (s.nodeOf d.2, d.1, s.fget (lpOut n) 95 64)))).flatten
  let sws := ((List.range 32).filter (fun k => s.bit (swCfg k) 0)).map (fun k =>
    (s.nodeOf (s.fget (swCfg k) 51 40), oidOf (dioSp (s.fget (swCfg k) 38 32)), b2n (s.bit (swStat k) 0)))
  let divs := if s.paired then ((List.range 8).filter (fun l => lnOn s l && s.bit (lnFlowCfg l) 55 && s.fget (lnFlowCfg l) 54 48 < 96)).map
      (fun l => (s.img.node, oidOf (dioSp (s.fget (lnFlowCfg l) 54 48)), b2n ((s.nch l).step == 6))) else []
  (fromLoops.filter (fun e => e.1 != s.img.node || s.role == 2)) ++ sws ++ divs

/-- Distinct numbers of a list. -/
def distinct (l : List Nat) : List Nat := l.foldl (fun a x => if a.contains x then a else a ++ [x]) []

/-- The sections a HEAD builds for cycle `n` (R307, R329): one for every stage it knows. -/
def headSections (s : Block) (n : Nat) : List Sect :=
  let vs := headValues s
  let nodes := distinct (s.img.node :: (s.floe.reach.map (fun r => r.1) ++ vs.map (fun v => v.1)))
  let mode := if 2 ≤ s.modeNo ∧ s.modeNo ≤ 4 then s.modeNo else 1
  nodes.map (fun d => { dst := d, src := s.img.node, cycle := cyc32 n, claim := pairOwn s, mode := mode
                        ents := ((vs.filter (fun v => v.1 == d)).map (fun v => (v.2.1, v.2.2))).take 255 })

/-- The fewest hops to a node the reach table gives (R311). -/
def hopsTo (s : Block) (d : Nat) : Nat :=
  match (s.floe.reach.filter (fun r => r.1 == d)).map (fun r => r.2.2) with
  | [] => 0
  | h :: l => l.foldl min h

/-- A section put before the first that is nearer (R307). -/
def insFar (s : Block) (c : Sect) : List Sect → List Sect
  | [] => [c]
  | x :: l => if hopsTo s x.dst < hopsTo s c.dst then c :: x :: l else x :: insFar s c l

/-- Sections farthest destinations first (R307). -/
def farFirst (s : Block) (l : List Sect) : List Sect := l.foldl (fun a c => insFar s c a) []

/-- The attributes VALUES carries (R330, R332, R335): as every write accepted so far leaves them, all of which have taken effect
by its own cycle. -/
def pairValues (x : Block) : List (Attr × AVal) :=
  let s := x.pair.reqs.foldl (fun y r => r.items.foldl (fun z it => if accessOf it.1 = some .wo then z else z.setVal it.1 it.2) y) x.seen
  let writable := fun (a : Attr) => pairScope a 0 && (match accessOf a with | some .rw => true | some .rwp => true | _ => false)
  (s.regs.filter (fun e => writable e.1)).map (fun e => (e.1, AVal.num e.2)) ++
  (s.tabs.filter (fun e => writable e.1)).map (fun e => (e.1, AVal.tab e.2))

/-- The active head closes its delta (R330): VALUES where they are due, then COMMIT. -/
def deltaClose (n : Nat) (s : Block) : Block :=
  let s1 := if s.pair.sendVals then
      ({ s with pair := { s.pair with sendVals := false, recs := s.pair.recs + 1 } }).emitState
        (.values n (n + 2) (pairValues s) (match s.pair.modeAt with | some m => m.2.1 | none => s.modeNo) s.mram.overlay)
    else s
  ({ s1 with pair := { s1.pair with closed := some n, recs := 0 } }).emitState (.commit n s1.pair.recs)

/-- COMMAND_INSTANT (R307): a HEAD that sends sections builds and launches them; its own stage takes its own. -/
def execCommandInstant (s : State) : Res := onBlock s fun s =>
  match s.floe.cycle with
  | none => .next s
  | some n =>
    if !ringNode s ∨ s.floe.cmdd then .next s
    else
      let s0 := s.advanceTb ((n + 1) * s.tCyc - s.tCmdw)
      let s1 := { s0 with floe := { s0.floe with cmdd := true } }
      let sends := s1.role == 2 && (!s1.paired || s1.pairState == 2 || s1.pairState == 4) && !s1.dupId
      let s2 := if !sends then s1
        else
          let l := headSections s1 n
          let own := l.filter (fun c => c.dst == s1.img.node)
          let others := l.filter (fun c => c.dst != s1.img.node)
          let bundles := bundleSects [] (farFirst s1 others)
          let s2 := { s1 with floe := { s1.floe with
            sects := own ++ s1.floe.sects, bc := sumN (bundles.map (fun b => wireBytes b.length))
            lx := (others.map sectLen).foldl max 0 } }
          let s3 := bundles.foldl (fun x b => floeSend dualPath 2 dstAll n b x) s2
          if s3.paired then (others.filter (fun c => c.dst == pairPartner s3)).foldl (fun x c =>
            floeSend [2] 2 c.dst n (sectBytes c) x) s3 else s3
      if s2.paired ∧ s2.pairState = 2 then .next (deltaClose n s2) else .next s2

/-- The key by which the second copy of a frame is known (R304). -/
def seenKey (h : FloeHdr) : Nat × Nat × Nat × Nat × Nat := (h.src, h.inst, h.cls, h.cycle, h.seq)

/-- Notes a frame heard from a node (R311): the port and the fewest HOPS. -/
def noteHeard (src port hops : Nat) (s : Block) : Block :=
  if 2 ≤ port then s
  else
    let best := match s.floe.heard.find? (fun h => h.1 == src && h.2.1 == port) with | some h => min h.2.2 hops | none => hops
    { s with floe := { s.floe with heard := (src, port, best) :: s.floe.heard.filter (fun h => !(h.1 == src && h.2.1 == port)) } }

/-- The full cycle number of a 32-bit one that is not after cycle `n`. -/
def cycBack (n c : Nat) : Nat := n - (n + 2 ^ 32 - c % 2 ^ 32) % 2 ^ 32

/-- SNAPSHOT_RECEIVE (R304, R308): `bytes` on the wire. A SNAPSHOT not fully received by the gather instant is late. -/
def execSnapshotReceive (h : FloeHdr) (port bytes : Nat) (ents : List SnapEnt) (s : State) : Res := onBlock s fun s =>
  match s.floe.cycle with
  | none => .next s
  | some n =>
    if !ringNode s ∨ 3 ≤ port then .next s
    else
      let s0 := noteHeard h.src port h.hops s
      let s1 := if s0.paired ∧ h.src = pairPartner s0 then pairSeen s0 else s0
      if s1.role ≠ 2 ∨ s1.floe.seen.contains (seenKey h) then .next s1
      else
        let s2 := { s1 with floe := { s1.floe with seen := seenKey h :: s1.floe.seen
                                                   snaps := (h.src, port, bytes) :: s1.floe.snaps } }
        let c := cycBack n h.cycle
        if s2.floe.gath ∨ c ≠ n then
          let runs := match s2.floe.lateSn with | some x => decide (n ≤ x + 1) | none => false
          let s3 := ({ s2 with floe := { s2.floe with lateSn := some n } }).countUp floeCount 95 64
          let by' := s3.clk.tb - (c * s3.tCyc + s3.tGather)
          if runs then .next s3 else .next (s3.raise 0xF2 sevWarn floeObj (pack [(h.src, 0), (satU 32 by', 32)]))
        else .next (snapTake h.src (n * s2.tCyc) ents s2)

/-- COMMAND_SECTION_RECEIVE (R308, R327): a section of a bundle; `crcOk`: its CRC passes. -/
def execCommandSectionReceive (c : Sect) (crcOk : Bool) (s : State) : Res := onBlock s fun s =>
  match s.floe.cycle with
  | none => .next s
  | some n =>
    if !ringNode s ∨ !crcOk then .next s
    else
      let s0 := { s with floe := { s.floe with heads := (c.src, n) :: s.floe.heads.filter (fun h => h.1 != c.src) } }
      let s1 := if s0.paired ∧ c.src = pairPartner s0 then pairHear none c.claim true s0 else s0
      if c.dst ≠ s1.img.node ∨ s1.dupId then .next s1
      else if c.cycle % 2 ^ 32 ≠ cyc32 n then
        let k := cycBack n c.cycle
        let runs := match s1.floe.lateSe with | some x => decide (n ≤ x + 1) | none => false
        let s2 := ({ s1 with floe := { s1.floe with lateSe := some n } }).countUp floeCount 127 96
        if runs then .next s2
        else .next (s2.raiseC 0xF2 sevWarn 1 floeObj (pack [(c.src, 0), (satU 32 (s2.clk.tb - (k + 1) * s2.tCyc), 32)]))
      else if s1.floe.sects.any (fun x => x.src == c.src && x.cycle == c.cycle) then .next (s1.countUp pairCount 63 32)
      else .next { s1 with floe := { s1.floe with sects := s1.floe.sects ++ [c] } }

/-- FLOE_FRAME_FORWARD (R22, R303 to R306, R312): under the optical bypass a frame passes from one ring fibre to the other as it
is, counted by no hop; else a frame comes in at a port; `residence` is its time in the switch, `full`
that its egress queue has no room, `acks` a BULK sequence number it acknowledges. -/
def execFloeFrameForward (port : Nat) (h : FloeHdr) (hcrcOk fcsOk : Bool) (residence : Nat) (full : Bool)
    (acks : Option Nat) (s : State) : Res := onBlock s fun s =>
  if 3 ≤ port then .next s
  else if s.bypass ∧ port < 2 then .next (s.emit (.pass (1 - port) h))
  else if s.phase ≠ .active ∨ !portUp s port then .next s
  else if !hcrcOk then .next (s.countUp floeCount 63 32)
  else
    let s1 := if fcsOk then s else s.countUp floeCount 31 0
    let own := h.src == s1.img.node && s1.img.node != 0
    let s2 := if own ∧ h.inst ≠ s1.floe.tag ∧ !s1.dupId ∧ fcsOk then
        (s1.putBit floeRing 2 true).raise 0xF3 sevFault floeObj (pack [(h.src % 65536, 0), (h.inst % 2 ^ 32, 32)])
      else s1
    let s3 := if fcsOk ∧ (h.cls = 3 ∨ h.cls = 6) ∧ !own then noteHeard h.src port h.hops s2 else s2
    let s4 := if fcsOk ∧ s3.paired ∧ h.src = pairPartner s3 then pairSeen s3 else s3
    let out := 1 - port
    if own ∧ h.inst = s4.floe.tag then .next { s4 with floe := { s4.floe with back := true } }
    else if h.dst = s4.img.node ∧ h.dst ≠ 0 then
      (match acks with
       | some q => .next { s4 with floe := { s4.floe with bulk := s4.floe.bulk.filter (fun b => !(b.dst == h.src && b.seq == q)) } }
       | none => .next s4)
    else if port = 2 ∨ 4094 < h.hops + 1 ∨ !portUp s4 out then .next s4
    else if full then
      let t := s4.clk.raw
      let old := s4.floe.drops.find? (fun d => d.1 == out && d.2.1 == h.cls)
      let quiet := match old with | some d => decide (d.2.2 + nsPerS ≤ t) | none => true
      let ds := (out, h.cls, t) :: s4.floe.drops.filter (fun d => !(d.1 == out && d.2.1 == h.cls))
      let s5 := ({ s4 with floe := { s4.floe with drops := ds } }).countUp floeCount 159 128
      if quiet then .next (s5.raise 0xF5 sevWarn floeObj (pack [(out, 0), (8 - h.cls, 4)])) else .next s5
    else
      let corr := if h.cls = 1 then residence + s4.fget (floePort port) 31 8 else 0
      .next (s4.emit (.forward out { h with hops := h.hops + 1 } corr))

/-- EVENT_FRAME_RECEIVE (R356): the records of other nodes enter a HEAD's second queue. -/
def execEventFrameReceive (h : FloeHdr) (recs : List EvRec) (s : State) : Res := onBlock s fun s =>
  if !ringNode s ∨ s.role ≠ 2 ∨ s.floe.seen.contains (seenKey h) ∨ h.src = s.img.node then .next s
  else
    let s1 := { s with floe := { s.floe with seen := seenKey h :: s.floe.seen } }
    .next ((recs.take 80).foldl (fun x r => { x with ringq := evPush x.ringq r x.clk.raw }) s1)

/-- FLOE_BULK_RESEND (R304): 10 ms without an acknowledgement. -/
def execFloeBulkResend (dst seq : Nat) (s : State) : Res := onBlock s fun s =>
  match s.floe.bulk.find? (fun b => b.dst == dst && b.seq == seq) with
  | none => .next s
  | some b =>
    if !ringNode s then .next s
    else
      let s1 := s.advanceTo (b.sentAt + 10000000)
      let bs := s1.floe.bulk.map (fun (x : BulkOut) => if x.dst = dst ∧ x.seq = seq then { x with sentAt := s1.clk.raw } else x)
      let s2 := { s1 with floe := { s1.floe with bulk := bs } }
      .next (floeLaunch [reachPort s2 b.dst] 7 b.dst s2.cycleNow b.seq b.data s2)

/-- RIME_LINK_DOWN (R319). -/
def execRimeLinkDown (p : Nat) (s : State) : Res := onBlock s fun s =>
  if 3 ≤ p then .next s
  else if s.phase ≠ .active ∨ !s.bit (rmPort p) 2 then .next s
  else
    let s1 := s.putBit (rmPort p) 2 false
    let s2 := { s1 with floe := { s1.floe with retrain := setAt s1.floe.retrain p s1.clk.raw } }
    if !s2.bit rmCfg p then .next s2
    else .next ((s2.countUp rmCount 95 64).raise 0xF6 sevWarn rmObj (pack [(p, 0), (s2.fget (rmPort p) 9 8, 8)]))

/-- RIME_LINK_UP (R144, R315, R319): the set-ups that wait for an acknowledgement are sent again; `anew`: the partner's port has become
READY anew, the module in its slot having been reset, so that every ring it acquires is set up again and FAILED no more. -/
def execRimeLinkUp (p : Nat) (anew : Bool) (s : State) : Res := onBlock s fun s =>
  if 3 ≤ p then .next s
  else if s.phase ≠ .active ∨ s.bit (rmPort p) 2 ∨ !s.bit (rmPort p) 0 then .next s
  else
    let partner := (rmSlot s + p + 1) % 4
    let s1 := (s.putBit (rmPort p) 2 true).fput (rmPort p) 9 8 partner
    let s2 := if s1.bit rmCfg p then s1.raise 0xF6 sevInfo rmObj (pack [(p, 0), (partner, 8)]) else s1
    .next (forN 12 (fun r x =>
      if tmSlot x r ≠ partner then x
      else
        let y := if anew then (x.putBit (tmStat r) 1 false).setTch r { x.tch r with setup := 0 } else x
        if (y.tch r).setup ≠ 2 then tmSendSetup r (tmSync r y) else y) s2)

/-- RIME_RETRAIN (R315): a port whose link is down retrains every 100 ms. -/
def execRimeRetrain (p : Nat) (s : State) : Res := onBlock s fun s =>
  if 3 ≤ p then .next s
  else if s.phase ≠ .active ∨ s.bit (rmPort p) 2 ∨ !s.bit (rmPort p) 0 then .next s
  else
    let s1 := s.advanceTo (getL s.floe.retrain p 0 + 100000000)
    .next { s1 with floe := { s1.floe with retrain := setAt s1.floe.retrain p s1.clk.raw } }

end Sys2Proof.Machine
end

