-- ==== Sys2Proof/Machine/Answer.lean ====
section
/-! DEFINITION. Machine/Answer.lean: the responses of a session, given in SEQ order, and those of pair-scope requests
(R334, R335, R349, R352). -/

namespace Sys2Proof.Machine

/-- Whether a request of session entry `i` with a SEQ below `seq` still waits for its response (R334, R349, R355). -/
def reqWaits (i seq : Nat) (s : Block) : Bool :=
  s.pair.reqs.any (fun r => r.yhp && !r.done && r.entry == i && r.seq < seq) ||
  s.host.relays.any (fun r => !r.got && r.entry == i && r.seq < seq)

/-- Sends a response of a session and keeps it (R349). -/
def respSend (i : Nat) (r : Resp) (s : Block) : Block :=
  match s.sessAt i with
  | none => s
  | some x => (s.setSess i { x with resps := (r :: x.resps).take 16, seqAns := max x.seqAns r.seq }).send (.resp x.handle r)

/-- Sends the response of a session that has waited longest, where nothing before it waits. -/
def respNext (i : Nat) (s : Block) : Block :=
  match s.sessAt i with
  | none => s
  | some x => match x.held with
    | [] => s
    | r :: l => if reqWaits i r.seq s then s else respSend i r (s.setSess i { x with held := l })

/-- Sends every response of a session that nothing holds back. -/
def respFlush (i : Nat) (s : Block) : Block :=
  match s.sessAt i with
  | none => s
  | some x => forN x.held.length (fun _ y => respNext i y) s

/-- A response kept in its place of SEQ order. -/
def respInsert (r : Resp) : List Resp → List Resp
  | [] => [r]
  | y :: l => if r.seq < y.seq then r :: y :: l else y :: respInsert r l

/-- Answers a request of session entry `i`, after every earlier one (R349). -/
def answer (i : Nat) (r : Resp) (s : Block) : Block :=
  match s.sessAt i with
  | none => s
  | some x => respFlush i (s.setSess i { x with held := respInsert r x.held })

/-- The payload of a WRITE response (R352). -/
def writePayload (failIdx effect : Nat) : List Byte := leBytes 2 failIdx ++ zeros 2 ++ leBytes 8 effect

/-- Whether a session entry is still the one that sent a request. -/
def sameSess (i handle : Nat) (s : Block) : Bool :=
  match s.sessAt i with | some x => x.st == .opened && x.handle == handle | none => false

/-- Success of one pair-scope request (R334): its response, with EFFECT C_E. -/
def pairAnswer (r : PairReq) (s : Block) : Block :=
  if r.yhp then
    (if sameSess r.entry r.handle s then answer r.entry ⟨0x91, r.seq, r.reqId, 0, writePayload 0xFFFF (r.e * s.tCyc)⟩ s else s)
  else s.send (.cmdResp r.entry 0)

/-- Success of every request of delta `d` that waits. -/
def pairAnswerAll (d : Nat) (s : Block) : Block :=
  let l := s.pair.reqs.filter (fun r => r.d == d && !r.done)
  let s1 := { s with pair := { s.pair with reqs := s.pair.reqs.map (fun r => if r.d = d then { r with done := true } else r) } }
  l.foldl (fun x r => pairAnswer r x) s1

end Sys2Proof.Machine
end

