-- ==== Sys2Proof/Machine/Pair.lean ====
section
/-! DEFINITION. Machine/Pair.lean: announcements and promotions, the records of the state copy, and the claim drill (15,
R321 to R343). -/

namespace Sys2Proof.Machine

/-- The number of the next ring cycle. -/
def nextCycle (s : Block) : Nat :=
  match s.floe.cycle with
  | some n => max (n + 1) (ceilMultiple (max 1 s.tCyc) s.clk.tb / max 1 s.tCyc)
  | none => ceilMultiple (max 1 s.tCyc) s.clk.tb / max 1 s.tCyc

/-- PAIR_ANNOUNCE (R324, R337): the partner's announcement: its state, its candidate claim, and whether its build hash is
this head's. -/
def execPairAnnounce (st claim : Nat) (same : Bool) (s : State) : Res := onBlock s fun s =>
  if !ringNode s ∨ !s.paired then .next s else .next (pairHear (some st) (claim % 2 ^ 32) same s)

/-- PAIR_LISTEN_TIMEOUT (R324): PROMO cycles in LISTENING, at a cycle start. -/
def execPairListenTimeout (s : State) : Res := onBlock s fun s =>
  let m := nextCycle s
  if !ringNode s ∨ !s.paired ∨ s.pairState ≠ 1 ∨ m < s.pair.from' + pairPromo s then .next s
  else
    let s1 := promote (m * s.tCyc) false (s.advanceTb (m * s.tCyc))
    .next (if s1.pairState = 2 then s1.putBit pairStat 3 (pairSilent s m) else s1)

/-- PAIR_PROMOTE (R336): the partner silent throughout PROMO cycles; a drilled head that fails is replaced with RESULT 4
(R340). -/
def execPairPromote (s : State) : Res := onBlock s fun s =>
  let m := nextCycle s
  if !ringNode s ∨ !s.standby ∨ !pairSilent s m then .next s
  else
    let t := m * s.tCyc
    let s1 := promote t false (s.advanceTb t)
    if s1.pairState ≠ 2 then .next s1
    else
      let s2 := s1.putBit pairStat 3 true
      .next (if s2.bit pairStat 5 then drillEnd 4 t s2 else s2)

/-- A delta with nothing in it. -/
def deltaNew (c : Nat) : Delta := { cycle := c, count := 0, units := [], reqs := [], modes := [], values := none, hand := none }

/-- Puts one record into the delta of cycle `c` (R330); a standby takes records. -/
def deltaAdd (c : Nat) (f : Delta → Delta) (s : Block) : Block :=
  if !ringNode s ∨ !s.standby then s
  else
    let d := (s.pair.deltas.find? (fun d => d.cycle == c)).getD (deltaNew c)
    let d1 := f { d with count := d.count + 1 }
    { s with pair := { s.pair with deltas := s.pair.deltas.filter (fun d => d.cycle != c) ++ [d1] } }

/-- STATE_UNIT (R330, R331). -/
def execStateUnit (c : Nat) (u : PairUnit) (s : State) : Res := onBlock s fun s =>
  .next (deltaAdd c (fun d => { d with units := d.units ++ [u] }) s)

/-- STATE_WRITE (R334): effect cycle `e`, the items, the session and the request ID. -/
def execStateWrite (c e : Nat) (items : List (Attr × AVal)) (session reqId : Nat) (s : State) : Res := onBlock s fun s =>
  .next (deltaAdd c (fun d => { d with reqs := d.reqs ++ [(e, items, session, reqId)] }) s)

/-- STATE_MODE (R334): effect cycle `e`, the mode and its cause. -/
def execStateMode (c e mode cause : Nat) (s : State) : Res := onBlock s fun s =>
  .next (deltaAdd c (fun d => { d with modes := d.modes ++ [(e, mode, cause)] }) s)

/-- STATE_VALUES (R332): effect cycle `e`, the attributes of the pair scope, the mode and the overlay. -/
def execStateValues (c e : Nat) (vals : List (Attr × AVal)) (mode : Nat) (o : Overlay) (s : State) : Res := onBlock s fun s =>
  .next (deltaAdd c (fun d => { d with values := some (e, vals, mode, o) }) s)

/-- STATE_HANDOVER (R340): cycle S and the duration. -/
def execStateHandover (c hs dur : Nat) (s : State) : Res := onBlock s fun s => .next (deltaAdd c (fun d => { d with hand := some (hs, dur) }) s)

/-- A delta that passed its COMMIT taken: its units wait for their class, its writes, mode change, values and handover for
their cycle (R331 to R335, R340). -/
def deltaTake (d : Delta) (s : Block) : Block :=
  let p := s.pair
  let old := d.reqs.map (fun r => (d.cycle, r.2.2.1, r.2.2.2)) ++ p.old.filter (fun x => d.cycle < x.1 + 64)
  { s with pair := { p with
      units := p.units ++ d.units
      writes := p.writes ++ d.reqs
      modeAt := (match d.modes.getLast? with | some m => some m | none => p.modeAt)
      values := (match d.values with | some v => some v | none => p.values)
      hand := (match d.hand with | some h => some (h.1, h.2, false) | none => p.hand)
      old := old } }

/-- `k` deltas discarded whole (R330): DELTAS_DISCARDED and 0xFC. -/
def deltaDrop (k c : Nat) (s : Block) : Block :=
  if k = 0 then s else pairBadCopy s.clk.tb c (s.countN pairCount 191 160 k)

/-- STATE_COMMIT (R330, R334, R335): the number of records in the delta, and whether the CRC over them passes. Earlier deltas
without their COMMIT are discarded. VALUES set a standby that had the state to JOINING. -/
def execStateCommit (c records : Nat) (crcOk : Bool) (s : State) : Res := onBlock s fun s =>
  if !ringNode s ∨ !s.standby then .next s
  else
    let d := (s.pair.deltas.find? (fun d => d.cycle == c)).getD (deltaNew c)
    let stale := (s.pair.deltas.filter (fun d => d.cycle < c)).length
    let s1 := deltaDrop stale c { s with pair := { s.pair with deltas := s.pair.deltas.filter (fun d => c < d.cycle) } }
    if d.count ≠ records ∨ !crcOk then .next (deltaDrop 1 c s1)
    else
      let s2 := if d.values.isSome ∧ s1.pairState = 4 then pairTo 3 s1.clk.tb s1 else s1
      .next ((deltaTake d s2).emitState (.ack c))

/-- STATE_ACK (R334): the standby has received delta `d` intact. -/
def execStateAck (d : Nat) (s : State) : Res := onBlock s fun s =>
  if !ringNode s ∨ !s.paired then .next s else .next (pairAnswerAll d s)

/-- WRITE_UNCONFIRMED (R335): the oldest delta without its ACK at the command instant of the cycle after it. -/
def execWriteUnconfirmed (s : State) : Res := onBlock s fun s =>
  if !ringNode s ∨ s.pairState ≠ 2 then .next s
  else match s.pair.reqs.find? (fun r => !r.done) with
    | none => .next s
    | some q =>
      let t := (q.d + 2) * s.tCyc - s.tCmdw
      let s1 := s.advanceTb t
      let items := ((s1.pair.reqs.filter (fun r => r.d == q.d && !r.done)).map (fun r => r.items)).flatten
      let s2 := items.foldl (fun (x : Block) (it : Attr × AVal) =>
        (x.countUp pairCount 223 192).raiseAt t 0xFD sevWarn 0 pairObj (oidOf it.1)) s1
      let s3 := pairAnswerAll q.d s2
      .next { s3 with pair := { s3.pair with sendVals := true, partner := if s3.pair.partner = 4 then 3 else s3.pair.partner } }

/-- The check of a PAIR.CMD (R323, R340, R341, R343). -/
def pairCmdCheck (op dur : Nat) (s : Block) : Nat :=
  match op with
  | 3 => firstErr [need s.keysw 0x0504, need (s.role == 2) 0x0302, need (s.modeNo == 5) 0x0301]
  | 1 => firstErr [need (s.modeNo != 0) 0x0301, need (s.role == 2) 0x0302, need (s.pairState == 2) 0x030A,
      need (s.pair.partner == 4) 0x0303, need (1 ≤ dur && dur ≤ 1440) 0x0201,
      need (!s.bit pairStat 5 && s.pair.hand.isNone) 0x0401, need (s.get pairEpoch < 0xFFFFF0) 0x0402]
  | 2 => firstErr [need (s.modeNo != 0) 0x0301, need (s.role == 2) 0x0302, need (s.pairState == 2) 0x030A,
      need (s.bit pairStat 5) 0x0304]
  | _ => 0x0201

/-- Places a HANDOVER in the open delta (R340). -/
def handOver (dur : Nat) (s : Block) : Block :=
  if s.pair.hand.isSome then s
  else
    let d := pairOpen s
    ({ s with pair := { s.pair with hand := some (d + 2, dur, true), recs := s.pair.recs + 1 } }).emitState (.handover d (d + 2) dur)

/-- A PAIR.CMD taken. -/
def pairCmdAct (op dur : Nat) (s : Block) : Block :=
  match op with
  | 1 => handOver dur s
  | 2 => handOver 0 s
  | _ => pairShow ({ s with pair := { s.pair with pclaim := 0 } }.put pairEpoch 0)

/-- DRILL (R340). -/
def execDrill (i dur : Nat) (s : State) : Res := onBlock s fun s => hostCommand i pairCmd false (pairCmdCheck 1 dur) (pairCmdAct 1 dur) noRefuse s
/-- DRILL_END (R340). -/
def execDrillEnd (i : Nat) (s : State) : Res := onBlock s fun s => hostCommand i pairCmd false (pairCmdCheck 2 0) (pairCmdAct 2 0) noRefuse s
/-- EPOCH_RESET (R323). -/
def execEpochReset (i : Nat) (s : State) : Res := onBlock s fun s => hostCommand i pairCmd false (pairCmdCheck 3 0) (pairCmdAct 3 0) noRefuse s

/-- DRILL_DURATION_END (R340): the drilled head hands back. -/
def execDrillDurationEnd (s : State) : Res := onBlock s fun s =>
  match s.pair.drillTo with
  | none => .next s
  | some e =>
    if !ringNode s ∨ !s.pair.drilled ∨ s.pairState ≠ 2 then .next s
    else .next (handOver s.pair.drillDur (s.advanceTb e))

end Sys2Proof.Machine
end

