-- ==== Sys2Proof/Machine/Image.lean ====
section
/-! DEFINITION. Machine/Image.lean: the records of an image applied (steps 11 and 12 of the *Boot validation order*), the
background check, staging and the key commands (02, R49 to R63). -/

namespace Sys2Proof.Machine

/-- A record error (R55): the record's object and offset, and the code. -/
abbrev RecErr := Nat × Nat × Nat

/-- An object of the object space: block, kind, index. -/
abbrev ObjKey := Nat × Nat × Nat

/-- The object of an attribute. -/
def objKey (a : Attr) : ObjKey := (a.blk, a.kind, a.idx)

/-- Whether the image defines an object (R379): it has the functions that stand without a record (thermal sensors and
FLOE, TIME and the like), and of the configured ones those it carries a value record for. -/
def objDefined (s : Block) (k : ObjKey) : Bool :=
  let configured := (k.2.1 == 0 && 5 ≤ k.1 && k.1 ≤ 0xC) || (k.2.1 == 1 && k.1 == 0xC)
  !configured || s.img.defined.any (fun a => objKey a == k)

/-- A source or destination word: object ID in [31:0] and node in [43:32], as a reference to an object of this module. -/
def refOf (s : Block) (w : Nat) : List ObjKey :=
  if fld w 31 0 = 0 ∨ !s.ownNode (fld w 43 32) then [] else [objKey (attrOf (fld w 31 0))]

/-- The objects of this module an attribute refers to (R117, R122, R146, R176, R203, R231, R287, R307, R363). -/
def refsOf (s : Block) (a : Attr) : List ObjKey :=
  let v := s.get a
  let lp := fun (n : Nat) => if n = 0xFF then ([] : List ObjKey) else [(7, 0, n)]
  let fe := fun (n : Nat) => if n = 0xFF then ([] : List ObjKey) else [(5, 0, n)]
  let dio := fun (on : Bool) (n : Nat) => if on then [((0xB, 0, n) : ObjKey)] else []
  match a.blk, a.kind, a.att with
  | 5, 0, 0x025 => fe (fld v 19 12)
  | 5, 2, 0x020 => if !bitAt v 0 then [] else
      (if s.ownNode (fld v 27 16) then fe (fld v 13 8) else []) ++ dio (s.ownNode (fld v 51 40)) (fld v 38 32)
  | 6, 0, 0x021 => if tmSlot s a.idx = 0xF then ((List.range 16).map (fun e => fe (entry v 8 e))).flatten else []
  | 6, 0, 0x027 => ((List.range 4).map (fun k => fe (entry v 8 k))).flatten
  | 6, 0, 0x028 => fe (fld v 7 0)
  | 7, 0, 0x021 => if !s.bit (lpCfg a.idx) 0 then [] else ((List.range (s.fget (lpCfg a.idx) 7 6 + 1)).map (fun i => refOf s (entry v 64 i))).flatten
  | 7, 0, 0x026 => refOf s v
  | 7, 0, 0x027 => refOf s v
  | 7, 0, 0x02A => ((List.range 4).map (fun i => if bitAt (entry v 64 i) 63 then refOf s (entry v 64 i) else [])).flatten
  | 8, 0, 0x021 => (if s.ownNode (fld v 51 40) && s.bit (lnCfg a.idx) 0 then [(0xC, 0, fld v 34 32)] else []) ++
      (if bitAt v 99 && s.ownNode (fld v 111 100) then [(0xC, 0, fld v 98 96)] else [])
  | 8, 0, 0x023 => refOf s v ++ refOf s (v / 2 ^ 64)
  | 8, 0, 0x024 => refOf s v ++ refOf s (v / 2 ^ 64) ++ dio (bitAt v 119) (fld v 118 112)
  | 8, 0, 0x025 => if bitAt v 63 then refOf s v else []
  | 8, 0, 0x026 => lp (fld v 7 0)
  | 8, 0, 0x028 => dio (bitAt v 55) (fld v 54 48)
  | 8, 0, 0x02A => ((List.range 12).map (fun i => if bitAt (entry v 64 i) 63 then refOf s (entry v 64 i) else [])).flatten
  | 8, 0, 0x030 => zone s v lp
  | 8, 0, 0x031 => zone s v lp
  | 8, 0, 0x032 => zone s v lp
  | 8, 0, 0x033 => zone s v lp
  | 9, 0, 0x021 => if bitAt v 0 && fld v 4 3 != 0 then [(0xC, 0, fld v 7 5)] else []
  | 9, 0, 0x029 => refOf s (v / 2 ^ 64)
  | 0xC, 1, 0x020 => if !bitAt v 0 then [] else match emuKind s a.idx with
      | 0 => [(0xC, 0, emuSrc s a.idx)]
      | 1 => [(9, 0, emuSrc s a.idx)]
      | _ => [(8, 0, emuSrc s a.idx)]
  | 0xE, 0, 0x021 => ((List.range 256).map (fun i => refOf s (entry v 32 i))).flatten
  | 0x12, 0, 0x020 => ((trendEntries s).map (refOf s)).flatten
  | 0x14, 0, 0x020 => if bitAt v 8 then fe (fld v 5 0) else []
  | _, _, _ => []
where
  /-- The references of a zone in use. -/
  zone (s : Block) (v : Nat) (lp : Nat → List ObjKey) : List ObjKey :=
    if fld v 27 26 = 0 then []
    else refOf s (v / 2 ^ 32) ++ refOf s (v / 2 ^ 96) ++ lp (fld v 231 224) ++ lp (fld v 247 240) ++ (if bitAt v 239 then [(0xB, 0, fld v 238 232)] else []) ++
      ((List.range 12).filter (fun k => bitAt v (144 + k))).map (fun k => (9, 0, k))

/-- A reference to an object or a crop set that the image does not define (R379): 0x0205, or 0. -/
def undefErr (s : Block) (a : Attr) : Nat :=
  let v := s.get a
  let crop := match a.blk, a.kind, a.att with
    | 6, 0, 0x020 => !bitAt v 0 || (s.tab (cropSet (fld v 15 12))).isSome
    | 8, 0, 0x020 => !bitAt v 0 || (s.tab (cropSet (fld v 23 20))).isSome
    | _, _, _ => true
  need (crop && (refsOf s a).all (objDefined s)) 0x0205

/-- The value of a WRITE or TABLE record, or the error of its kind, length or form (R49, R51). -/
def recVal (a : Attr) (r : ImgRec) : Except Nat AVal :=
  if (r.kind == 3) != (ttypeOf a != 0) then .error 0x0202 else parseVal a r.val

/-- The two ends of a NARROW record. -/
def recRange (a : Attr) (r : ImgRec) : Nat × Nat := (leNat (r.val.take (valLen a)), leNat (r.val.drop (valLen a)))

/-- Step 11 on one record (R49, R50, R52, R53): the record on its own against the object space, the mode SAFE and the role of
the header; 0, or its error. `x` is the machine with every object at its reset default. -/
def recErr1 (x : Block) (r : ImgRec) : Nat :=
  let a := canon (attrOf r.oid)
  if addrErr r.oid ≠ 0 then addrErr r.oid
  else if accessOf a ≠ some .rw ∧ accessOf a ≠ some .rwp then 0x0104
  else if r.kind = 2 then
    (if ttypeOf a ≠ 0 then 0x0202
     else if r.val.length ≠ 2 * valLen a then 0x0202
     else
       let e := recRange a r
       firstErr [need (attrLe a e.1 e.2) 0x0201, fieldErr a e.1, ownErr a e.1, fieldErr a e.2, ownErr a e.2])
  else match recVal a r with
    | .error e => firstErr [stateErr .image a x, e]
    | .ok v =>
      match v with
      | .num n => firstErr [stateErr .image a x, roleErr a (x.put a n), fieldErr a n, ownErr a n,
          if a.blk = 0xC ∧ a.kind = 1 ∧ a.att = 0x021 then ratioCheck n x else 0,
          if a.blk = 2 ∧ a.att = 0x030 then need (n ≤ 2) 0x0201 else 0]
      | .tab t => firstErr [stateErr .image a x, tableErr a t,
          if a.blk = 7 ∧ a.kind = 0 then (bankCheck (secsOf t.elems)).2 else 0,
          if a.blk = 6 ∧ a.att = 0x02C then tmSensCheck t x else 0]

/-- The first class whose fixed kernels do not fit on one core at a quarter of the clock with no loop placed (R168). -/
def kernelMisfit (y : Block) : Option Nat := (List.range 4).find? (fun k => !kernelsFit y k)

/-- The checks of step 12 on the attribute of one value record, on the state that all records have left (R379, R168): a code for each,
0 where it passes. The first is the references to objects that the image does not define, the second R168. -/
def recChecks (y : Block) (a : Attr) : List Nat :=
  let exc := match a.blk, a.kind, a.att with
    | 5, 0, 0x022 => feExcCheck a.idx (some (y.get a)) none y
    | 5, 0, 0x023 => feExcCheck a.idx none (some (y.get a)) y
    | _, _, _ => 0
  let bank := a.blk == 7 && a.kind == 0 && (a.att == 0x030 || a.att == 0x031)
  let kernels := need (!(a.blk == 7 && a.kind == 2 && a.att == 0x020 && kernelMisfit y == some a.idx)) 0x0402
  [undefErr y a, kernels, stateErr .image a y, exc] ++ (if bank then [] else crossChecks a y)

/-- The first check of a record that fails: which one, and its code. -/
def recFail (y : Block) (a : Attr) : Option (Nat × Nat) := (numbered (recChecks y a)).find? (fun e => e.2 != 0)

/-- A value loaded outside a host's write (R53, R80, R81): an image's, the overlay's or a kept one; a sensitivity matrix brings its
S_NORM2 (R135). -/
def loadVal (a : Attr) (v : AVal) (s : Block) : Block :=
  match a.blk, a.att, v with
  | 6, 0x02C, .tab t =>
    ({ s with fresh := s.fresh + 813 }.setVal a v).put (tmNorm2 a.idx) (tmNorm2Of s.fresh (rowsOf 812 120 t.elems))
  | _, _, _ => s.setVal a v

/-- An attribute returned to its reset default (R54, R379). -/
def recRevert (y : Block) (a : Attr) : Block :=
  let regs := if a.blk = 6 ∧ a.att = 0x02C then amapErase y.regs (tmNorm2 a.idx) else amapErase y.regs a
  { y with regs := regs, tabs := amapErase y.tabs a
           img := { y.img with defined := y.img.defined.filter (fun b => b != a) } }

/-- The record a failed check `i` of the record of `a` is entered against (R379, R168): the record itself for an undefined reference and
for R168, else the latest standing value record without which that check passes, the record itself where no single one is. `l`: the
standing value records in image order. -/
def recBlame (y : Block) (l : List Attr) (a : Attr) (i : Nat) : Attr :=
  if i < 2 then a
  else ((l.filter (fun b => getL (recChecks (recRevert y b) a) i 0 == 0)).getLast?).getD a

/-- Step 12 for one value record, until its check passes or it is itself given up. -/
def recSettle : Nat → List (Attr × Nat) → Attr → Block × List RecErr → Block × List RecErr
  | 0, _, _, p => p
  | k + 1, l, a, p =>
    match recFail p.1 a with
    | none => p
    | some f =>
      if !p.1.img.defined.contains a then p
      else
        let b := recBlame p.1 ((l.filter (fun e => p.1.img.defined.contains e.1)).map (fun e => e.1)) a f.1
        let off := ((l.find? (fun e => e.1 == b)).map (fun e => e.2)).getD 0
        let p1 := (recRevert p.1 b, p.2 ++ [(oidOf b, off, f.2)])
        if b = a then p1 else recSettle k l a p1

/-- Step 11 for one record: its value or its narrowed range taken, or its error noted (R54). -/
def recApply1 (x : Block) (p : Block × List RecErr) (r : ImgRec) : Block × List RecErr :=
  let a := canon (attrOf r.oid)
  let e := recErr1 x r
  if e ≠ 0 then (p.1, p.2 ++ [(r.oid, r.off, e)])
  else if r.kind = 2 then
    ({ p.1 with img := { p.1.img with narrow := p.1.img.narrow ++ [(a, recRange a r)] } }, p.2)
  else match recVal a r with
    | .ok v => ({ loadVal a v p.1 with img := { p.1.img with defined := a :: p.1.img.defined } }, p.2)
    | .error _ => p

/-- Step 12 for one record (R379, R50): a NARROW whose attribute stands outside it is dropped, and the attribute returns to its
reset default. -/
def recApply2 (l : List (Attr × Nat)) (p : Block × List RecErr) (r : ImgRec) : Block × List RecErr :=
  let a := canon (attrOf r.oid)
  if r.kind = 2 then
    (if narrowErr p.1 a (p.1.get a) = 0 then p
     else
       let y := recRevert p.1 a
       ({ y with img := { y.img with narrow := y.img.narrow.filter (fun e => e.1 != a) } }, p.2 ++ [(r.oid, r.off, 0x0201)]))
  else recSettle (l.length + 1) l a p

/-- Steps 11 and 12 over a machine whose objects are at their reset defaults: the records applied, and the record errors in
the order found. -/
def imgApply (base : Block) (h : ImgHdr) (recs : List ImgRec) : Block × List RecErr :=
  let x := { base.fput modeState 2 0 1 with img := { base.img with role := h.role, node := h.node, narrow := [], defined := [] } }
  let p1 := recs.foldl (recApply1 x) (x, [])
  let vals := (recs.filter (fun r => r.kind != 2)).map (fun r => (canon (attrOf r.oid), r.off))
  let p2 := recs.foldl (recApply2 vals) p1
  (p2.1.fput modeState 2 0 0, p2.2)

/-- The machine a dry run applies records to (R56, R60): no live object, the cores as they stand. -/
def dryBase (s : Block) : Block :=
  { Block.reset with regs := (List.range 4).foldl (fun m c => regsPut m (coreStat c) (setFld (s.get (coreStat c)) 31 16 0)) Block.reset.regs }

/-- A dry run of steps 2 to 12 on a slot: the structural error, or STRICT and the record errors. -/
def dryRun (s : Block) (k : KeyDev) (slot : Nat) : Except Nat (Bool × List RecErr) :=
  match imgStructure s k slot with
  | .error e => .error e
  | .ok r =>
    let h := hdrOf (slotHdr k slot)
    .ok (h.strict, (imgApply (dryBase s) h r).2)

/-- Whether a slot would boot, by its dry run (R56). -/
def dryGood (s : Block) (k : KeyDev) (slot : Nat) : Bool :=
  match dryRun s k slot with
  | .error _ => false
  | .ok p => !(p.1 && !p.2.isEmpty)

/-- BACKGROUND_SLOT_CHECK (R56): the eligible slot not booted. -/
def execBackgroundSlotCheck (s : State) : Res := onBlock s fun s =>
  match s.keyDev with
  | none => .next s
  | some k =>
    let slot := 1 - s.fget imgStatus 1 1
    let m := (slotMark k slot).1
    if s.phase ≠ .active ∨ !s.bit imgStatus 2 ∨ s.modeNo = 0 ∨ (m ≠ 0 ∧ m ≠ 2) then .next s
    else .next ((s.putBit (imgSlot slot) 34 true).putBit (imgSlot slot) 35 (dryGood s k slot))

/-- STAGE_STAT's fields. -/
def stageState (s : Block) : Nat := s.fget imgStage 2 0
def stageSlot (s : Block) : Nat := s.fget imgStage 3 3

/-- The modes and phases staging is accepted in (R57, R58, R75). -/
def stageWhere (s : Block) : Nat := need (s.phase == .active || s.phase == .noImage) 0x0301

/-- The check of a STAGE_CTRL OPEN (R58, R63, the *Staging sequence*); without a key there is no slot to name (log entry 47). -/
def stageOpenCheck (slot len : Nat) (s : Block) : Nat :=
  match s.keyDev with
  | none => 0x060C
  | some k => firstErr [stageWhere s,
      need (!(s.bit imgStatus 2 && slot == s.fget imgStatus 1 1)) 0x0305,
      need (slot < 2) 0x0201,
      need (s.bit imgStatus 2 || s.img.tried.length != 1 || s.img.tried.contains slot) 0x0201,
      need (!s.staging) 0x0401,
      need (max (slotMark k 0).2 (slotMark k 1).2 != 0xFFFFFFFE) 0x0402,
      need (len % 4 == 0 && 144 ≤ len && len ≤ keyMax k) 0x0603]

/-- Staging opened by session entry `i`: the erase of the mark sector begins. -/
def stageOpenAct (i slot len : Nat) (s : Block) : Block :=
  { s.put imgStage (pack [(1, 0), (slot, 3)]) with
    stage := { owner := some i, imgLen := len, lastAt := s.clk.raw, erased := false, recErrs := 0, verified := false } }

/-- Whether a staging write comes from another session than the one that opened staging (R58). -/
def stageOther (i : Nat) (s : Block) : Bool := s.staging && s.stage.owner != some i

/-- The check of a STAGE_DATA write (R59), its codes in the order of R354. -/
def stageDataCheck (i off : Nat) (d : List Byte) (s : Block) : Nat :=
  let next := s.fget imgStage 63 32
  let repeated := match s.keyDev with
    | some k => decide (off + d.length ≤ next) && flashRead k.flash (keyBase k (stageSlot s) + off) d.length == d
    | none => false
  firstErr [stageWhere s, need (stageState s == 2 || stageState s == 1) 0x0304, need (1 ≤ d.length && d.length ≤ 1024) 0x0202,
    need ((off == next && off + d.length ≤ s.stage.imgLen) || repeated) 0x0201,
    need (stageState s == 2 && !stageOther i s) 0x0401]

/-- A chunk programmed, or a repeat acknowledged without a write (R59). -/
def stageDataAct (off : Nat) (d : List Byte) (s : Block) : Block :=
  let s1 := { s with stage := { s.stage with lastAt := s.clk.raw } }
  if off ≠ s.fget imgStage 63 32 then s1
  else match s.key with
    | none => s1
    | some k =>
      let s2 := { s1 with key := some { k with flash := flashProg k.flash (keyBase k (stageSlot s) + off) d } }
      s2.fput imgStage 63 32 (off + d.length)

/-- The check of a CLOSE or an ABORT (R58, R60, R61, R63); a CLOSE while ERASING or VERIFYING finds staging busy (log entry 47). -/
def stageEndCheck (i : Nat) (close : Bool) (s : Block) : Nat :=
  firstErr [stageWhere s, need s.staging 0x0304, need (!stageOther i s) 0x0401,
    if close then firstErr [need (stageState s != 1 && stageState s != 3) 0x0401, need (s.fget imgStage 63 32 == s.stage.imgLen) 0x0603] else 0]

/-- CLOSE taken: the read-back begins. -/
def stageCloseAct (s : Block) : Block := { s.fput imgStage 2 0 3 with stage := { s.stage with lastAt := s.clk.raw, verified := false } }

/-- The check of a STAGE_CTRL write: its OP and reserved bits, and the operation's own. -/
def stageCtrlCheck (i v : Nat) (s : Block) : Nat :=
  match fld v 7 0 with
  | 1 => stageOpenCheck (fld v 31 8) (fld v 63 32) s
  | 2 => stageEndCheck i true s
  | 3 => stageEndCheck i false s
  | _ => 0x0201

/-- A STAGE_CTRL write taken. -/
def stageCtrlAct (i v : Nat) (s : Block) : Block :=
  match fld v 7 0 with
  | 1 => stageOpenAct i (fld v 8 8) (fld v 63 32) s
  | 2 => stageCloseAct s
  | _ => stageFail 0 s

/-- STAGE_OPEN (R58). -/
def execStageOpen (i slot len : Nat) (s : State) : Res := onBlock s fun s =>
  hostCommand i imgStageCtrl false (stageOpenCheck slot len) (stageOpenAct i slot len) noRefuse s

/-- STAGE_MARK_ERASED (R61, the *Staging sequence*, step 3): the open page is programmed. -/
def execStageMarkErased (s : State) : Res := onBlock s fun s =>
  match s.key with
  | none => .next s
  | some k =>
    if stageWhere s ≠ 0 ∨ stageState s ≠ 1 ∨ s.stage.erased then .next s
    else
      let m := keyMark k (stageSlot s)
      let f := flashProg (flashErase k.flash m 4096) m openPattern
      .next (slotShow { s with key := some { k with flash := f }, stage := { s.stage with erased := true } })

/-- What the erase of the image area erases (the *Staging sequence*, step 4): whole 64 KiB blocks that start below IMG_LEN,
then 4 KiB sectors of the slot's last block. -/
def stageEraseLen (k : KeyDev) (len : Nat) : Nat :=
  let last := keySlotSize k - 65536
  let blocks := min ((len + 65535) / 65536 * 65536) last
  if last < len then last + (len - last + 4095) / 4096 * 4096 else blocks

/-- STAGE_ERASE_DONE (R61, step 4). -/
def execStageEraseDone (s : State) : Res := onBlock s fun s =>
  match s.key with
  | none => .next s
  | some k =>
    if stageWhere s ≠ 0 ∨ stageState s ≠ 1 ∨ !s.stage.erased then .next s
    else
      let f := flashErase k.flash (keyBase k (stageSlot s)) (stageEraseLen k s.stage.imgLen)
      .next (slotShow { (s.fput imgStage 2 0 2).fput imgStage 63 32 0 with
        key := some { k with flash := f }, stage := { s.stage with lastAt := s.clk.raw } })

/-- STAGE_DATA (R59). -/
def execStageData (i off : Nat) (d : List Byte) (s : State) : Res := onBlock s fun s =>
  hostCommand i imgStageData false (stageDataCheck i off d) (stageDataAct off d) noRefuse s

/-- STAGE_CLOSE (R60). -/
def execStageClose (i : Nat) (s : State) : Res := onBlock s fun s => hostCommand i imgStageCtrl false (stageEndCheck i true) stageCloseAct noRefuse s

/-- STAGE_VERIFY_DONE (R60): the dry run's verdict. -/
def execStageVerifyDone (s : State) : Res := onBlock s fun s =>
  match s.key with
  | none => .next s
  | some k =>
    if stageWhere s ≠ 0 ∨ stageState s ≠ 3 ∨ s.stage.verified then .next s
    else match dryRun s k (stageSlot s) with
      | .error e => .next (stageFail e s)
      | .ok (strict, l) =>
        match strict, l with
        | true, e :: _ => .next (stageFail e.2.2 s)
        | _, _ => .next { s with stage := { s.stage with verified := true, recErrs := l.length } }

/-- STAGE_COMMIT (R58, step 8; R56): the commit record is programmed, and the slot counts as checked, with no REJECT_ERR (log
entry 47). -/
def execStageCommit (s : State) : Res := onBlock s fun s =>
  match s.key with
  | none => .next s
  | some k =>
    if stageWhere s ≠ 0 ∨ stageState s ≠ 3 ∨ !s.stage.verified then .next s
    else
      let slot := stageSlot s
      let gen := max (slotMark k 0).2 (slotMark k 1).2 + 1
      let f := flashProg k.flash (keyMark k slot + 256) (commitRec gen (slotHdr k slot))
      let s1 := (s.fput imgStage 2 0 4).raise 0x24 sevInfo img0 (pack [(gen, 0), (slot, 32), (satU 16 s.stage.recErrs, 48)])
      let s2 := ((s1.putBit (imgSlot slot) 34 true).putBit (imgSlot slot) 35 true).fput (imgSlot slot) 95 80 0
      .next (slotShow { s2 with key := some { k with flash := f }, stage := { s2.stage with owner := none, verified := false } })

/-- STAGE_ABORT (R61). -/
def execStageAbort (i : Nat) (s : State) : Res := onBlock s fun s => hostCommand i imgStageCtrl false (stageEndCheck i false) (stageFail 0) noRefuse s

/-- STAGE_LAPSE (R61): 60 s without a staging write in STATE OPEN. -/
def execStageLapse (s : State) : Res := onBlock s fun s =>
  if stageWhere s ≠ 0 ∨ stageState s ≠ 2 then .next s
  else .next (stageFail 0x0306 (s.advanceTo (s.stage.lastAt + 60 * nsPerS)))

/-- STAGE_KEY_FAIL (R61): the key is removed, or a program or erase reports failure. -/
def execStageKeyFail (removed : Bool) (s : State) : Res := onBlock s fun s =>
  let s1 := if removed then { s with key := none } else s
  if stageWhere s1 ≠ 0 ∨ !s1.staging then .next s1 else .next (stageFail 0x060C s1)

/-- Where key commands are accepted (R62). -/
def keyWhere (s : Block) : Nat :=
  firstErr [need s.keysw 0x0504,
    need ((s.phase == .active && s.modeNo == 5) || ((s.phase == .noImage || s.modeNo == 0) && (List.range 4).all (fun k => s.keyState k == 0))) 0x0301]

/-- The check of a KEY_CMD (R62); without an active image there is no SVN to raise to (log entry 47). -/
def keyCmdCheck (v : Nat) (s : Block) : Nat :=
  let k := fld v 9 8
  firstErr [keyWhere s, match fld v 7 0 with
    | 1 => need (s.keyState k != 1) 0x0506
    | 2 => firstErr [need (s.keyState k != 0) 0x0503, need (!(s.bit imgStatus 2 && k == s.img.keySlot)) 0x0506]
    | 3 => need (s.bit imgStatus 2 && s.get imgSvnFloor ≤ s.img.svn) 0x0201
    | _ => 0x0201]

/-- A KEY_CMD taken (R62): 0x26; the background check follows (R56). A REVOKED slot keeps its key bits (log entry 47). -/
def keyCmdAct (v : Nat) (s : Block) : Block :=
  let k := fld v 9 8
  let s1 := match fld v 7 0 with
    | 1 => s.put (imgKey k) (1 + fld v 319 64 * 256)
    | 2 => s.fput (imgKey k) 1 0 2
    | _ => s.put imgSvnFloor s.img.svn
  s1.raise 0x26 sevInfo img0 (pack [(fld v 7 0, 0), (k, 8)])

/-- The same for a slot number, which beyond 3 sets reserved bits: 0x0201 after the codes of class 0x03 and 0x05 (R354, R362). -/
def keyRowCheck (k v : Nat) (s : Block) : Nat := stateFirst (keyCmdCheck v s) (need (k < 4) 0x0201)

/-- KEY_INSTALL (R62). -/
def execKeyInstall (i k key : Nat) (s : State) : Res := onBlock s fun s =>
  let v := pack [(1, 0), (k, 8), (key % 2 ^ 256, 64)]
  hostCommand i imgKeyCmd false (keyRowCheck k v) (keyCmdAct v) noRefuse s

/-- KEY_REVOKE (R62). -/
def execKeyRevoke (i k : Nat) (s : State) : Res := onBlock s fun s =>
  hostCommand i imgKeyCmd false (keyRowCheck k (pack [(2, 0), (k, 8)])) (keyCmdAct (pack [(2, 0), (k, 8)])) noRefuse s

/-- SVN_RAISE (R62). -/
def execSvnRaise (i : Nat) (s : State) : Res := onBlock s fun s => hostCommand i imgKeyCmd false (keyCmdCheck 3) (keyCmdAct 3) noRefuse s

end Sys2Proof.Machine
end

