-- ==== Sys2Proof/Machine/Boot.lean ====
section
/-! DEFINITION. Machine/Boot.lean: the boot sequence (R41 to R57, R64 to R67, R72, R80, R81). -/

namespace Sys2Proof.Machine

/-- A length in ns at a rate in MB/s (R64). -/
def nsAt (len rate : Nat) : Nat := (len * 1000 + rate - 1) / rate

/-- The status objects of the configured instances of each kind of MODE.READY, FE to HOST (R65). -/
def bootKinds (s : Block) : List (List Attr) :=
  let pick := fun (n : Nat) (on : Nat → Bool) (st : Nat → Attr) => ((List.range n).filter on).map st
  [pick 3 (fun _ => true) fgStat, pick 12 (fun r => s.bit (tmCfg r) 0) tmStat, pick 4 (fun _ => true) coreStat,
   pick 8 (fun l => s.bit (lnCfg l) 0) lnStat, pick 12 (fun a => s.bit (axCfg a) 0) axStat,
   pick 6 (fun b => s.bit (bnkCfg b) 0) bnkStat, pick 6 (fun g => s.bit (dgCfg g) 0) dgStat,
   pick 8 (fun e => s.bit (encCfg e) 0) encStat ++ pick 4 (fun o => s.bit (emuCfg o) 0) emuStat,
   pick 3 (fun _ => true) floePort, pick 3 (fun _ => true) rmPort, [firnStat], [hostStat]]

/-- MODE.READY and MODE.FAILED from the status objects. -/
def readyShow (s : Block) : Block :=
  let ks := bootKinds s
  let word := fun (f : List Attr → Bool) => (numbered ks).foldl (fun w e => w + b2n (f e.2) * 2 ^ e.1) 0
  (s.put modeReady (word (fun l => l.all (fun a => s.bit a 0)))).put modeFailed (word (fun l => l.any (fun a => s.bit a 1)))

/-- READY or FAILED of one instance. -/
def bootMark (bad : Attr → Bool) (a : Attr) (s : Block) : Block := (s.putBit a 0 (!bad a)).putBit a 1 (bad a)

/-- The Serac built-in test (step 6): READY or FAILED of each core. -/
def bootCores (bad : Attr → Bool) (s : Block) : Block := forN 4 (fun c x => bootMark bad (coreStat c) x) s

/-- A rejected slot noted (R55): REJECT_ERR, LAST_REJECT, 0x20. It does not count as checked (log entry 47). -/
def slotReject (slot code : Nat) (s : Block) : Block :=
  ((s.fput (imgSlot slot) 95 80 code).fput imgStatus 31 16 code).raise 0x20 sevWarn img0 (pack [(slot, 0), (code, 16)])

/-- The time a slot's read, verification and record checks take before the outcome `e` (R64): the stream, then the records. -/
def slotTime (len e : Nat) : Nat × Nat :=
  if e = 0 ∨ e = 0x0606 ∨ e = 0x0607 ∨ e = 0x060A then (nsAt len 50 + nsAt len 420, nsAt len 145)
  else if e = 0x0502 ∨ e = 0x0503 ∨ e = 0x0505 then (nsAt len 50 + nsAt len 420, 0)
  else if e = 0x0604 then (nsAt len 50, 0)
  else (nsAt 128 50, 0)

/-- The eligible slots in the order they are tried (R45). -/
def slotOrder (k : KeyDev) : List Nat :=
  let a := slotMark k 0
  let b := slotMark k 1
  let ok := fun (m : Nat × Nat) => m.1 == 0 || m.1 == 2
  let l := if a.2 < b.2 then [(1, b), (0, a)] else [(0, a), (1, b)]
  (l.filter (fun e => ok e.2)).map (fun e => e.1)

/-- ERR_COUNT and ERR_LIST (R55). -/
def errShow (l : List RecErr) (s : Block) : Block :=
  let w := (numbered (l.take 64)).foldl (fun v e => setEntry v 96 e.1 (pack [(e.2.1, 0), (e.2.2.1 % 2 ^ 32, 32), (e.2.2.2, 64)])) 0
  (s.put imgErrCount (satU 16 l.length)).put imgErrList w

/-- The time at which a slot tried from `c` on is decided (R64): the records are not applied before the memory is up. -/
def slotEnd (c : Nat) (d : Nat × Nat) : Nat := if d.2 = 0 then c + d.1 else max 250000000 (c + d.1) + d.2

/-- The slots tried in order (R45, R53, R54) from the time `c` after the trigger on, at timebase `base`: the machine with the
first good image applied, its slot, or none, and the time of the decision. -/
def bootSlots (k : KeyDev) (base : Nat) : List Nat → Nat → Block → Block × Option Nat × Nat
  | [], c, s => (s, none, c)
  | slot :: rest, c, s =>
    let h := hdrOf (slotHdr k slot)
    let got := imgStructure s k slot
    let s1 := { s with img := { s.img with tried := s.img.tried ++ [slot] } }
    match got with
    | .error e =>
      let c1 := slotEnd c (slotTime h.len e)
      bootSlots k base rest c1 (slotReject slot e (s1.advanceTb (base + c1)))
    | .ok recs =>
      let p := imgApply s1 h recs
      let took := slotEnd c (slotTime h.len 0)
      match h.strict, p.2 with
      | true, x :: _ => bootSlots k base rest took (slotReject slot x.2.2 (s1.advanceTb (base + took)))
      | _, _ =>
        let s2 := p.1.advanceTb (base + took)
        let s3 := { s2 with img := { s2.img with
          role := h.role, node := h.node, keySlot := h.keySlot, svn := h.svn, hash := h.hash, tried := s1.img.tried
          imgRegs := s2.regs, imgTabs := s2.tabs } }
        let s4 := (((s3.put imgHash h.hash).fput imgStatus 3 1 (slot + 2 + 4 * b2n h.strict)).putBit (imgSlot slot) 34 true).putBit (imgSlot slot) 35 true
        let s5 := (errShow p.2 s4).raise 0x21 sevInfo img0 (pack [(slot, 0), ((slotMark k slot).2, 32)])
        (if p.2.isEmpty then s5 else s5.raise 0x22 sevWarn img0 (satU 16 p.2.length), some slot, took)

/-- The PERSIST overlay at step 9 (R80): entries outside a narrowed range or naming no attribute are dropped; 0x0A. -/
def overlayBoot (s : Block) : Block :=
  let o := s.mram.overlay
  if o.entries.isEmpty ∧ o.hash = 0 then persistShow s
  else if o.hash ≠ s.img.hash then (persistShow s).raise 0x0A sevWarn mode0 (2 ^ 8)
  else
    let fits := fun (e : Attr × AVal) => addrErr (oidOf e.1) == 0 && accessOf e.1 == some .rwp &&
      (match e.2 with | .num n => narrowErr s e.1 n == 0 | .tab _ => true)
    let s1 := (o.entries.filter fits).foldl (fun (x : Block) e => loadVal e.1 e.2 x) s
    let n := (o.entries.filter (fun e => !fits e)).length
    let s2 := (s1.putBit imgStatus 4 true).put modePersist (setFld (setBit (s1.get modePersist) 16 true) 31 24 (satU 8 n))
    let s3 := persistShow s2
    if n = 0 then s3 else s3.raise 0x0A sevWarn mode0 (satU 8 n)

/-- The VOLATILE values a WARM reset kept, for a boot of the same build (R79, R81). -/
def warmBoot (s : Block) : Block :=
  if s.rst.kind = .warm ∧ s.rst.keepHash = s.img.hash then
    s.rst.keepVals.foldl (fun (x : Block) (e : Attr × AVal) => loadVal e.1 e.2 x) s
  else { s with vol := [] }

/-- The loops at step 10: MAN_OUT at OUT_LO unless a record or a kept value gives it, and 0x7E for an enabled loop without a
valid bank (R156). -/
def bootLoops (s : Block) : Block :=
  forN 256 (fun n x =>
    let given := x.img.defined.contains (lpManOut n) || x.vol.contains (lpManOut n)
    let x1 := if given then x else x.put (lpManOut n) (ofS 32 (lpSpan x n 2))
    let none' := (activeSecs x1 n).isNone
    let x2 := (x1.putBit (lpStat n) 6 none').putBit (lpStat n) 7 (match activeSecs x1 n with | some cs => bankNoBc cs | none => false)
    if none' ∧ x2.bit (lpCfg n) 0 then x2.raise 0x7E sevFault (lpObj n) 0 else x2) s

/-- The rings at step 10 (R65, R125, R127): the drive peak, the calibration tables present, READY or FAILED. -/
def bootRings (bad : Attr → Bool) (s : Block) : Block :=
  forN 12 (fun r x =>
    let x1 := x.fput (tmStat r) 31 16 (satU 16 (peakMv (x.fget (tmBand r) 47 32) (x.bit (tmCfg r) 2) (x.get (tmPhases r))))
    let has := fun (a : Attr) => x.img.defined.contains a || x.vol.contains a || x.mram.overlay.entries.any (fun e => e.1 == a)
    let c := x1.tch r
    let x2 := x1.setTch r { c with hasE := has (tmCalE r), hasF := has (tmCalF r), last := x1.clk.tb, mapAt := x1.clk.tb }
    let on := x2.bit (tmCfg r) 0
    let x3 := if on && bad (tmStat r) then x2.putBit (tmStat r) 1 true else x2
    tmSync r (if on then tmFillSync x3.clk.tb r x3 else x3)) s

/-- The front end at step 10 (R108, R120): READY or FAILED of each group, with 0x49 for a self-test that fails, what its zone says,
and the start of its channels; SETTLE_LEFT of every channel at N_S of its RATE (the *FE[n].STAT* table). -/
def bootFe (bad : Attr → Bool) (s : Block) : Block :=
  forN 3 (fun g x =>
    let x1 := bootMark bad (fgStat g) x
    let x2 := if bad (fgStat g) then x1.raise 0x49 sevFault (fgObj g) (pack [(g, 0), (1, 8)]) else x1
    let x3 := (x2.putBit (fgStat g) 2 (x2.zoneStep (1 + g) != 0)).putBit (fgStat g) 3 (x2.zoneDown (1 + g))
    forN 16 (fun k y => if feTyp y (16 * g + k) ≠ 0 ∧ y.bit (fgStat g) 0 then feRestartAt y.clk.tb y (16 * g + k)
      else feSync (16 * g + k) (y.fput (feStat (16 * g + k)) 23 16 (feNs (feCode y (16 * g + k))))) x3) s

/-- The drives at step 10 (R226, R172). -/
def bootAxes (bad noBridge : Attr → Bool) (s : Block) : Block :=
  let dead := (coresOn s).isEmpty
  let s1 := forN 12 (fun a x => (axBringUp a (x.bit (axCfg a) 0 && (bad (axStat a) || dead)) (noBridge (axStat a)) x).setXch a
    { axCh0 with gateNs := getL x.mram.fanHours a 0 }) s
  s1.putBit axsStat 1 (drvenNow s1)

/-- Field I/O, valves, encoders, emulation outputs and Floe ports at step 10 (R251, R272, R285, R286, R301). -/
def bootIo (bad noVb : Attr → Bool) (s : Block) : Block :=
  let s1 := forN 6 (fun g x => if x.bit (dgCfg g) 0 then dioBringUp g (!bad (dgStat g)) x else x) s
  let s2 := forN 96 dioShow s1
  let s3 := forN 6 (fun b x => if x.bit (bnkCfg b) 0 then (bootMark bad (bnkStat b) x).putBit (bnkStat b) 12 (noVb (bnkStat b)) else x) s2
  let s4 := encBoot (fun e => bad (encStat e)) s3.mram.encSaved s3
  let s5 := forN 4 (fun o x => if x.bit (emuCfg o) 0 then emuEnable o (bootMark bad (emuStat o) x) else x) s4
  forN 3 (fun p x => bootMark bad (floePort p) x) s5

/-- What needs no image record (step 6, R66): the Rime ports with their slot, and Firn, mounted at once after a clean stop. -/
def bootSix (bad : Attr → Bool) (firnOk : Bool) (s : Block) : Block :=
  let s1 := forN 3 (fun p x => bootMark bad (rmPort p) x) s
  let slot := s1.fget devSupply 9 8
  let s2 := s1.put rmStat (pack [(slot, 0), (b2n (slot == 0), 2), (b2n (slot == 0), 3)])
  (s2.putBit firnStat 0 (firnOk && !s2.firn.replay && !bad firnStat)).putBit firnStat 1 (bad firnStat)

/-- A configured function but FIRN that is neither READY nor FAILED at the end of step 10 is set FAILED (R67). -/
def bootStrays (s : Block) : Block :=
  (((bootKinds s).flatten).filter (fun a => a != firnStat && !s.bit a 0 && !s.bit a 1)).foldl (fun (x : Block) a => x.putBit a 1 true) s

/-- 0x03 FUNC_FAILED for each FAILED instance (R67). -/
def bootFailed (s : Block) : Block :=
  (((bootKinds s).flatten).filter (fun a => s.bit a 1)).foldl (fun (x : Block) a => x.raise 0x03 sevFault a 0) s

/-- The functions of the chapters started from their records (step 10). -/
def bringFunctions (b : BootIn) (s : Block) : Block :=
  let bad := fun (a : Attr) => b.failed.contains a
  let noted := fun (a : Attr) => b.readings.any (fun r => r.1 == a && r.2 != 0)
  let s1 := seracPlace (bootLoops (thermBoot (esupWritten (forN 16 cropShow s))))
  let s2 := bootRings bad (bootIo bad noted (bootFe bad s1))
  bootSix bad b.firnOk (lineBoot b.ckptBad bad (bootAxes bad noted s2))

/-- What the ports and the classes start from (R299, R345, R359): the tag of this boot, the settings in force, the watchdog,
the class boundaries. -/
def bringPorts (b : BootIn) (s : Block) : Block :=
  let s1 := bootMark (fun a => b.failed.contains a) hostStat s
  let d := s1.draw
  let s2 := { d.2 with floe := { d.2.floe with tag := d.1 % 2 ^ 32, cfg := d.2.get floeCfg } }
  let s3 := { s2 with host := { s2.host with netCfg := s2.get hostCfg, wdFrom := s2.clk.raw } }
  let s4 := { s3 with serac := { s3.serac with cls := s3.serac.cls.map (fun c => { c with last := s3.clk.tb }) } }
  if s4.bit hostWd 16 && s4.bit hostWd 17 then s4.putBit hostWdStat 0 true else s4

/-- A REFIN that has been valid for 100 ms by the end of the boot (R85). -/
def bringRefin (b : BootIn) (s : Block) : Block :=
  if b.refin ∧ !s.bit timeState 4 then
    let x := { s.putBit timeState 5 true with time := { s.time with refHeld := true } }
    if x.get timeRefSel = 1 then x else refSwitch 1 false x
  else s

/-- Every function started from its records, READY or FAILED (step 10). -/
def bringUp (b : BootIn) (s : Block) : Block :=
  bootFailed (readyShow (bootStrays (bringRefin b (bringPorts b (bringFunctions b s)))))

/-- Whether a power-fail record steers this boot (R30). -/
def pfBefore (s : Block) : Bool :=
  pfValid s.mram.pfRec && decide (s.mram.pfUsed < leAt s.mram.pfRec 12 4) && (s.rst.kind == .por || s.rst.kind == .bor) && s.rst.fromDeep == 0

/-- The code of a reset kind (the *Reset kinds* table). -/
def ResetKind.code : ResetKind → Nat
  | .por => 0 | .bor => 1 | .ext => 2 | .wdr => 3 | .warm => 4 | .reload => 5

/-- The mode after boot (R72): the mode, its cause, FB_CAUSE. -/
def modeAfter (pf : Bool) (s : Block) : Nat × Nat × Nat :=
  if s.bit modeState 9 then (1, 1, 0)
  else if s.bit modeState 8 then (4, 7, 5)
  else if s.get modeAutoResume = 1 ∧ pf ∧ leAt s.mram.pfRec 10 1 = 2 ∧ leAt s.mram.pfRec 24 32 = s.img.hash ∧ s.role ≠ 3 then (2, 8, 0)
  else (1, 1, 0)

/-- The records a boot queues from MRAM, the supervisor and the supplies (R40, R77, R86, R89, R297). -/
def bootReports (s0 : Block) : Block :=
  let s := if s0.vrefOk then s0 else s0.raise 0x08 sevFault dev0 (s0.get devVrefMv % 65536)
  let s1 := match s.mram.clkFault with
    | some t => ({ s with mram := { s.mram with clkFault := none } }).raise 0x13 sevCrit time0 (t % 2 ^ 64)
    | none => s
  let s2 := if s1.rst.kind = .wdr then s1.raise 0x0D sevCrit dev0 s1.rst.wdCheck else s1
  match s2.mram.sdNew with
  | some (t, u) =>
    let w := s2.get tzSdModule
    ({ s2 with mram := { s2.mram with sdNew := none } }).queueEv ⟨t % 2 ^ 64, s2.img.node, 0xEB, sevCrit, u, 0,
      oidOf (tzObj (fld w 95 88)), pack [(fld w 95 88, 0), (fld w 127 112, 16)]⟩
  | none => s2

/-- Steps 9 to 11 with an image applied: `took` is the time to the end of step 8. -/
def bootFinish (b : BootIn) (pf : Bool) (took : Nat) (s : Block) : Block :=
  let s1 := warmBoot (overlayBoot s)
  let s2 := s1.advanceTb (s1.clk.tb + 210000000)
  let s3 := bootReports (bringUp b { s2 with phase := .active })
  let m := modeAfter pf s3
  let s4 := modeEnter s3.clk.tb m.1 m.2.1 m.2.2 0 s3
  let s5 := s4.putBit modeState 10 (m.1 == 2)
  let s6 := if m.1 = 4 then s5.raise 0x0E sevCrit mode0 0 else s5
  let s7 := s6.raise 0x00 sevInfo dev0 (pack [(s6.get modeRstCause % 2 ^ 32, 0), (satU 32 ((took + 210000000) / 1000), 32)])
  let s8 := if s7.rst.fromDeep ≠ 0 then s7.raise 0x0C sevInfo mode0 (pack [(2, 0), (s7.rst.fromDeep, 8)]) else s7
  pairConfig s8

/-- No image passed (R57), as the last rejection at timebase `base + c` says: BOOT, with what step 6 starts (R66), and after
steps 9 and 10 the host port open with its reset-default settings. -/
def bootNone (b : BootIn) (base c : Nat) (s : Block) : Block :=
  let code := fun (k : Nat) => s.fget (imgSlot k) 95 80
  let bad := fun (a : Attr) => b.failed.contains a
  let s1 := (s.raise 0x23 sevCrit img0 (pack [(code 0, 0), (code 1, 16)])).advanceTb (base + max 250000000 c + 210000000)
  let s2 := bootFailed (readyShow (bootMark bad hostStat (bootSix bad b.firnOk s1)))
  bootReports { s2 with phase := .noImage, host := { s2.host with netCfg := s2.get hostCfg, wdFrom := s2.clk.raw } }

/-- Step 3 (R30, R77, R78): the reset cause and its count, PF_BEFORE and the SEQ consumed. -/
def bootCause (pf deep : Bool) (s : Block) : Block :=
  let k := s.rst.kind.code
  let s1 := s.put modeRstCause (pack [(k, 0), (b2n deep, 3), (b2n pf, 4)])
  let s2 := s1.countUp modeRstCount (32 * k + 31) (32 * k)
  if pf then { s2 with mram := { s2.mram with pfUsed := leAt s2.mram.pfRec 12 4 } } else s2

/-- The terminals as the boot finds them: the key, VREF_AO, WAKE, the readings of the supplies. -/
def bootInputs (b : BootIn) (s : Block) : Block :=
  let s1 := match b.key with
    | .same => s
    | .absent => { s with key := none }
    | .dev k => { s with key := some (keyNorm k) }
  let s2 := (s1.putBit devSupply 4 b.vrefOk).putBit devSupply 6 b.wake
  b.readings.foldl (fun (x : Block) r =>
    if r.1 = devUsMv ∨ r.1 = devHoldMv ∨ r.1 = devVrefMv ∨ r.1 = devVboostMv then x.put r.1 r.2 else x) s2

/-- No key (R42): both slots invalid with 0x060C, and 0x27. MARK of both stays 0 (log entry 47). -/
def bootNoKey (s : Block) : Block := slotReject 1 0x060C (slotReject 0 0x060C (s.raise 0x27 sevFault img0 0))

/-- The timebase a boot starts from (R64, R90): the RTC where it holds a time. -/
def bootBase (s : Block) : Nat := if s.get timeRtc = 0 then 0 else s.get timeRtc * nsPerS

/-- The clocks and inputs as a boot takes them before it looks for the key (steps 1 and 3, the core test of step 6): a TCXO that
has failed switches the module to REFIN with 0x12. -/
def bootStart (b : BootIn) (s : Block) : Block :=
  let s0 := { s with clk := { s.clk with tb := bootBase s }, rst := { s.rst with pllFault := false } }
  let s1 := s0.putBit timeState 6 b.tcxoOk
  let s2 := if b.tcxoOk then s1 else
    (refSwitch 1 true { s1.putBit timeState 5 true with time := { s1.time with tcxoForced := true } }).raise 0x12 sevFault time0 0
  bootCores (fun a => b.failed.contains a) (bootCause (pfBefore s2) (s2.rst.fromDeep != 0) (bootInputs b s2))

/-- The slots of an accepted key tried (steps 2, 4, 7 and 8): the machine, the slot whose image was applied, or none, and the
time of the decision. -/
def bootTry (k : KeyDev) (base : Nat) (s : Block) : Block × Option Nat × Nat :=
  let disc := keyTime k
  let s1 := slotShow ((s.put imgKeyInfo (keyInfo k)).putBit imgStatus 0 true)
  let marked := (List.range 2).foldl (fun (x : Block) i =>
    if (slotMark k i).1 = 1 ∨ (slotMark k i).1 = 3 then slotReject i 0x060B x else x) (s1.advanceTb (base + disc))
  bootSlots k base (slotOrder k) disc marked

/-- BOOT_SEQUENCE (R64 to R67). -/
def execBootSequence (b : BootIn) (s : State) : Res := onBlock s fun s =>
  if s.phase ≠ .pending ∨ s.rst.sdWait ≠ 0 then .next s
  else if s.mram.sdNew.isSome ∧ !b.sdCool then .next { s with rst := { s.rst with sdWait := max 1 s.clk.raw } }
  else if !b.tcxoOk ∧ !b.refin then
    .next (pllFault ({ s with clk := { s.clk with tb := bootBase s }, rst := { s.rst with pllFault := false } }.putBit timeState 6 false))
  else
    let base := bootBase s
    let s1 := bootStart b s
    match s1.key with
    | none => .next (bootNone b base 14600000 (bootNoKey (s1.advanceTb (base + 14600000))))
    | some k =>
      if !keyOk k then
        .next (bootNone b base (keyTime k) (bootNoKey ((s1.put imgKeyInfo (keyInfo k)).advanceTb (base + keyTime k))))
      else match bootTry k base s1 with
        | (x, some _, took) => .next (bootFinish b (pfBefore s) took (slotShow x))
        | (x, none, c) => .next (bootNone b base c x)

end Sys2Proof.Machine
end

