-- ==== Sys2Proof/Machine/Yhp.lean ====
section
/-! DEFINITION. Machine/Yhp.lean: datagrams, sessions, keep-alives and the host watchdog (R344 to R350, R359, R360). -/

namespace Sys2Proof.Machine

/-- HOST_LINK (R344). -/
def execHostLink (up : Bool) (s : State) : Res := onBlock s fun s =>
  if !s.hostUp ∨ s.bit hostStat 2 = up then .next s
  else .next ((s.putBit hostStat 2 up).raise 0x2B (if up then sevInfo else sevWarn) host0 0)

/-- The YHP types' codes. -/
abbrev yOpen : Nat := 0x01
abbrev yConfirm : Nat := 0x02
abbrev yClose : Nat := 0x03
abbrev yKeepalive : Nat := 0x04
abbrev yRead : Nat := 0x10
abbrev yWrite : Nat := 0x11
abbrev yBulkQuery : Nat := 0x20
abbrev yBulkAck : Nat := 0x22
abbrev yEvtSub : Nat := 0x30
abbrev yEvtAck : Nat := 0x32

/-- The 24 bytes of a datagram's header (the *YHP header* table). -/
def yhpHdr (typ : Nat) (d : Dgram) : List Byte :=
  yhpBytes d.magic d.ver typ d.session d.node d.seq d.reqId d.status d.len

/-- MAGIC, VER and LEN (R346). -/
def yhpForm (d : Dgram) : Bool := d.magic == 0x5948 && d.ver == 1 && d.len == d.payload.length && d.len ≤ 1408

/-- A datagram discarded (R346, R349). -/
def yhpDiscard (s : Block) : Block := s.countUp hostCount 95 64

/-- The entry that holds a handle in a state of its own. -/
def sessFind (st : SessSt) (handle : Nat) (s : Block) : Option (Nat × Sess) :=
  (numbered s.host.sess).find? (fun e => e.2.st == st && e.2.handle == handle && handle != 0)

/-- A response outside any session's order. -/
def yhpReply (typ : Nat) (d : Dgram) (status : Nat) (payload : List Byte) (s : Block) : Block :=
  let s1 := s.countUp hostCount 31 0
  (if status = 0 then s1 else s1.countUp hostCount 63 32).send (.resp d.session ⟨typ + 0x80, d.seq, d.reqId, status, payload⟩)

/-- A tag that fails on a handle (R346, R349): counted, and at 16 in a row the session closes with 0x2A. -/
def tagFail (i : Nat) (x : Sess) (d : Dgram) (s : Block) : Block :=
  let s1 := (yhpDiscard s).countUp hostCount 127 96
  let s2 := s1.setSess i { x with tagFails := x.tagFails + 1 }
  if 16 ≤ x.tagFails + 1 then sessClose i 3 (s2.raise 0x2A sevWarn host0 (d.ip % 2 ^ 32)) else s2

/-- What a datagram of an open session comes to before its own request: nothing more, or the entry to serve. -/
inductive Got where
  | done (s : Block)
  | req (i : Nat) (s : Block)
deriving DecidableEq, Repr

/-- The session and the tag of a datagram (R346). -/
def yhpEnter (typ : Nat) (d : Dgram) (s : Block) : Got :=
  if !s.hostUp then .done s
  else if !yhpForm d then .done (yhpDiscard s)
  else match sessFind .opened d.session s with
    | none => .done (if d.tag.all (fun b => b == 0) then yhpDiscard s else yhpReply typ d 0x0507 [] s)
    | some (i, x) =>
      if !x.prov ∧ d.tag ≠ hmac256 x.key (yhpHdr typ d ++ d.payload) then .done (tagFail i x d s)
      else .req i (s.setSess i { x with tagFails := 0, lastAt := s.clk.raw })

/-- The SEQ rules of a request (R349): a repeat is answered from the record, a SEQ not above the last accepted is discarded,
and one too far ahead is refused. -/
def yhpTake (typ : Nat) (d : Dgram) (s : Block) : Got :=
  match yhpEnter typ d s with
  | .done s1 => .done s1
  | .req i s1 =>
    match s1.sessAt i with
    | none => .done s1
    | some x =>
      match x.resps.find? (fun r => r.seq == d.seq && r.reqId == d.reqId) with
      | some r => .done ((s1.countUp hostCount 159 128).send (.resp x.handle r))
      | none =>
        if d.seq ≤ x.seqAcc then .done (yhpDiscard s1)
        else if x.seqAns + 8 < d.seq then .done (yhpReply typ d 0x0403 [] s1)
        else .req i ((s1.setSess i { x with seqAcc := d.seq }).countUp hostCount 31 0)

/-- The response to a request of session entry `i`, in SEQ order. -/
def reply (i typ : Nat) (d : Dgram) (status : Nat) (payload : List Byte) (s : Block) : Block :=
  answer i ⟨typ + 0x80, d.seq, d.reqId, status, payload⟩ (if status = 0 then s else s.countUp hostCount 63 32)

/-- DEV.IDENT SERIAL. -/
def Block.serial (s : Block) : Nat := s.fget devIdent 95 32

/-- The handle a new session takes (R347): from 1 to 0xFFFE, drawn at random and unique. -/
def newHandle (n : Nat) (s : Block) : Nat :=
  let h := fun (k : Nat) => (n + k) % 0xFFFE + 1
  ((List.range 5).map h).find? (fun x => !s.host.sess.any (fun e => e.st != .free && e.handle == x)) |>.getD (h 0)

/-- The lowest free entry. -/
def freeEntry (s : Block) : Option Nat :=
  ((numbered s.host.sess).find? (fun e => e.2.st == .free)).map (fun e => e.1)

/-- The check of an OPEN (R347, R348, R355). -/
def openCheck (d : Dgram) (s : Block) : Nat :=
  let slot := leAt d.payload 16 1
  if slot = 0xFF then
    firstErr [need s.keysw 0x0504, need (d.node == 0 && d.payload.length == 20) 0x0202,
      need (!s.host.sess.any (fun x => x.st != .free && x.prov)) 0x0401, need (freeEntry s).isSome 0x0404]
  else
    firstErr [need (slot ≤ 3 && s.bit (hostAuth slot) 0) 0x0501, need (d.node == 0 && d.payload.length == 20) 0x0202,
      need (freeEntry s).isSome 0x0404]

/-- An OPEN accepted (R347, R348): the nonce and the handle; a provisioning session opens at once. -/
def openAct (d : Dgram) (s : Block) : Block :=
  match freeEntry s with
  | none => s
  | some i =>
    let slot := leAt d.payload 16 1
    let prov := slot == 0xFF
    let nonce := if prov then zeros 16 else freeBytes 16 s.fresh
    let h := newHandle (Config.freeNat (s.fresh + 16)) s
    let key := if prov then [] else
      hmac256 (getL s.mram.auth slot []) ([0x59, 0x48, 0x50, 0x53] ++ d.payload.take 16 ++ nonce ++ beBytes 2 h)
    let x := { sessFree with st := if prov then .opened else .challenge, handle := h, prov := prov, slot := slot, ip := d.ip, port := d.port
                             level := if prov then 0 else s.fget (hostAuth slot) 2 1, lastAt := s.clk.raw, openedAt := s.clk.raw, key := key }
    let s0 := { s with fresh := s.fresh + 17, host := { s.host with lapsed := s.host.lapsed.filter (fun e => e != h)
                                                                    tx := s.host.tx.filter (fun t => t.handle != h) } }
    let s1 := hostSync (s0.setSess i x)
    let s2 := if prov then s1.raise 0x29 sevInfo host0 (pack [(h, 0), (0, 16), (0xFF, 24)]) else s1
    yhpReply yOpen d 0 (nonce ++ leBytes 2 h ++ zeros 2 ++ leBytes 8 s.serial) s2

/-- One OPEN datagram. -/
def openReq (d : Dgram) (s : Block) : Block :=
  if !s.hostUp then s
  else if !yhpForm d ∨ d.tag.any (fun b => b != 0) then yhpDiscard s
  else if openCheck d s ≠ 0 then yhpReply yOpen d (openCheck d s) [] s
  else openAct d s

/-- OPEN (R347): a host slot named. -/
def execOpen (d : Dgram) (s : State) : Res := onBlock s fun s => .next (openReq d s)

/-- PROVISIONING_OPEN (R348): KEY_SLOT 0xFF, whatever the datagram's payload names. -/
def execProvisioningOpen (d : Dgram) (s : State) : Res := onBlock s fun s =>
  .next (openReq { d with payload := d.payload.take 16 ++ [0xFF] ++ d.payload.drop 17 } s)

/-- A CONFIRM refused (R347, R349): wrong or late, 0x0501 and 0x2A. -/
def confirmFail (d : Dgram) (s : Block) : Block :=
  (yhpReply yConfirm d 0x0501 [] s).raise 0x2A sevWarn host0 (d.ip % 2 ^ 32)

/-- CONFIRM (R347): the tag under the session key within 5 s opens the session at its slot's level. -/
def execConfirm (d : Dgram) (s : State) : Res := onBlock s fun s =>
  if !s.hostUp then .next s
  else if !yhpForm d then .next (yhpDiscard s)
  else match sessFind .challenge d.session s with
    | none =>
      if s.host.lapsed.contains d.session then .next (confirmFail d s)
      else (match yhpTake yConfirm d s with
       | .done s1 => .next s1
       | .req _ s1 => .next (yhpDiscard s1))
    | some (i, x) =>
      if d.node ≠ 0 ∨ !d.payload.isEmpty then .next (yhpReply yConfirm d 0x0202 [] s)
      else if d.tag = hmac256 x.key (yhpHdr yConfirm d ++ d.payload) ∧ s.clk.raw ≤ x.openedAt + 5 * nsPerS then
        let x1 := { x with st := .opened, lastAt := s.clk.raw, openedAt := s.clk.raw, ip := d.ip, port := d.port, seqAcc := d.seq, seqAns := d.seq }
        let s1 := (s.setSess i x1).countUp hostCount 31 0
        let s2 := s1.raise 0x29 sevInfo host0 (pack [(x.handle, 0), (x.level, 16), (x.slot, 24)])
        .next (reply i yConfirm d 0 (leBytes 1 x.level ++ zeros 3) s2)
      else
        .next (sessRelease i (confirmFail d s))

/-- CONFIRM_TIMEOUT (R347): 5 s after the challenge of entry `i`; a CONFIRM of that handle is late from here on. -/
def execConfirmTimeout (i : Nat) (s : State) : Res := onBlock s fun s =>
  if 4 ≤ i then .next s
  else match s.sessAt i with
    | none => .next s
    | some x =>
      if x.st ≠ .challenge then .next s
      else
        let s1 := sessRelease i (s.advanceTo (x.openedAt + 5 * nsPerS))
        .next { s1 with host := { s1.host with lapsed := x.handle :: s1.host.lapsed } }

/-- CLOSE (R349). -/
def execClose (d : Dgram) (s : State) : Res := onBlock s fun s =>
  match yhpTake yClose d s with
  | .done s1 => .next s1
  | .req i s1 =>
    if d.node ≠ 0 ∨ !d.payload.isEmpty then .next (reply i yClose d 0x0202 [] s1)
    else .next (sessClose i 1 (reply i yClose d 0 [] s1))

/-- SESSION_IDLE_TIMEOUT (R349): 60 s without a valid datagram on entry `i`. -/
def execSessionIdleTimeout (i : Nat) (s : State) : Res := onBlock s fun s =>
  if 4 ≤ i then .next s
  else match s.sessAt i with
    | none => .next s
    | some x => if x.st ≠ .opened then .next s else .next (sessClose i 2 (s.advanceTo (x.lastAt + 60 * nsPerS)))

/-- A keep-alive serves the host watchdog (R359): it arms it, restarts its timing and ends its cause. -/
def wdServe (s : Block) : Block :=
  if !s.bit hostWd 16 ∨ s.phase ≠ .active ∨ s.modeNo = 0 then s
  else
    let s1 := ((s.putBit hostWdStat 0 true).fput hostWdStat 95 32 s.clk.tb)
    wdClear { s1 with host := { s1.host with wdFrom := s1.clk.raw } }

/-- KEEPALIVE (R346, R348, R359). -/
def execKeepalive (d : Dgram) (s : State) : Res := onBlock s fun s =>
  match yhpTake yKeepalive d s with
  | .done s1 => .next s1
  | .req i s1 =>
    match s1.sessAt i with
    | none => .next s1
    | some x =>
      if x.prov then .next (reply i yKeepalive d 0x0508 [] s1)
      else if d.node ≠ 0 ∨ !d.payload.isEmpty then .next (reply i yKeepalive d 0x0202 [] s1)
      else
        let s2 := if 1 ≤ x.level then wdServe s1 else s1
        .next (reply i yKeepalive d 0 (leBytes 4 (s2.get modeState) ++ zeros 4 ++ leBytes 8 s2.clk.tb) s2)

/-- HOST_WATCHDOG_LAPSE (R359, R360). -/
def execHostWatchdogLapse (s : State) : Res := onBlock s fun s =>
  if !s.bit hostWd 16 ∨ !s.bit hostWdStat 0 ∨ s.phase ≠ .active ∨ s.modeNo = 0 ∨
      (s.bit hostWdStat 1 ∧ (s.mode.fbWd ∨ s.standby)) then .next s
  else
    let s1 := s.advanceTo (s.host.wdFrom + s.fget hostWd 15 0 * nsPerS)
    let s2 := { s1.putBit hostWdStat 1 true with host := { s1.host with wdFrom := s1.clk.raw } }
    let s3 := if s2.standby then s2 else { s2 with mode := { s2.mode with fbWd := true } }
    .next (s3.raise 0x28 (if s3.standby then sevWarn else sevCrit) host0 (s3.fget hostWd 15 0))

/-- WD_WRITE (R359): session entry `i` writes HOST.WD. -/
def execWdWrite (i v : Nat) (s : State) : Res := onBlock s fun s =>
  hostCommand i hostWd false (objErr (.sess i) hostWd (.num v)) (objAct hostWd (.num v)) noRefuse s

/-- HOST_CFG_APPLY (R345): 1 s after the response the settings apply, every session closes and every Modbus connection is
dropped. -/
def execHostCfgApply (s : State) : Res := onBlock s fun s =>
  match s.host.cfgAt with
  | none => .next s
  | some t =>
    let s1 := s.advanceTo t
    let s2 := sessCloseAll 4 { s1 with host := { s1.host with cfgAt := none } }
    .next (hostSync { s2 with host := { s2.host with netCfg := s2.get hostCfg, mb := [], relays := [] } })

/-- The check of a HOST.AUTH_CMD (R350, R363). -/
def authCheck (o : Origin) (v : Nat) (s : Block) : Nat :=
  let k := fld v 9 8
  let held := s.bit (hostAuth k) 0
  let own := match o with
    | .sess i => (match s.sessAt i with | some x => !x.prov && x.slot == k | none => false)
    | _ => false
  let may := s.isProv o || (s.keysw && s.modeNo == 5 && s.phase == .active)
  if !may then (if s.keysw then 0x0301 else 0x0504)
  else match fld v 7 0 with
    | 1 => firstErr [need (!held) 0x0506, need (fld v 11 10 ≤ 2) 0x0201]
    | 2 => firstErr [need (!own) 0x0506, need held 0x0304]
    | _ => 0x0201

/-- A HOST.AUTH_CMD taken (R350): 0x2C. -/
def authAct (v : Nat) (s : Block) : Block :=
  let k := fld v 9 8
  let op := fld v 7 0
  let set := fun (b : List Byte) (w : Nat) => { s.put (hostAuth k) w with mram := { s.mram with auth := setAt s.mram.auth k b } }
  let s1 := if op = 1 then set (leBytes 32 (fld v 319 64)) (1 + 2 * fld v 11 10) else set [] 0
  let s2 := s1.raise 0x2C sevInfo host0 (pack [(op, 0), (k, 8), (fld v 11 10, 16)])
  if op = 1 then s2
  else forN 4 (fun i x => match x.sessAt i with
    | some e => if e.st ≠ .free ∧ !e.prov ∧ e.slot = k then sessClose i 5 x else x
    | none => x) s2

/-- The same for a slot number, which beyond 3 sets other bits than SLOT's: 0x0201 (R354, R362). -/
def authRowCheck (i k v : Nat) (s : Block) : Nat := stateFirst (authCheck (.sess i) v s) (need (k < 4) 0x0201)

/-- AUTH_INSTALL (R350). -/
def execAuthInstall (i k level key : Nat) (s : State) : Res := onBlock s fun s =>
  let v := pack [(1, 0), (k, 8), (level % 4, 10), (key % 2 ^ 256, 64)]
  hostCommand i hostAuthCmd false (authRowCheck i k v) (authAct v) noRefuse s

/-- AUTH_ERASE (R350). -/
def execAuthErase (i k : Nat) (s : State) : Res := onBlock s fun s =>
  hostCommand i hostAuthCmd false (authRowCheck i k (pack [(2, 0), (k, 8)])) (authAct (pack [(2, 0), (k, 8)])) noRefuse s

end Sys2Proof.Machine
end

