-- ==== Sys2Proof/Machine/Read.lean ====
section
/-! DEFINITION. Machine/Read.lean: reading the object space: the values that follow from the rest of the state, and the
request READ (R351, R354, R362). -/

namespace Sys2Proof.Machine

/-- One entry of HOST.SESSIONS (the *HOST attributes* table). -/
def sessWord (raw : Nat) (x : Sess) : Nat :=
  if x.st = .free then 0
  else pack [(x.handle % 2 ^ 16, 0), (x.level % 4, 16), (b2n x.prov, 18), (x.slot % 256, 24), (x.ip % 2 ^ 32, 32),
    (x.port % 2 ^ 16, 64), ((raw - x.lastAt) / nsPerS % 2 ^ 32, 96)]

/-- EVT.STAT: DEPTH, SESSIONS and FIRN_BEHIND (R93, R97). -/
def evtStatWord (s : Block) : Nat :=
  pack [(s.evq.q.length, 0), ((s.host.sess.filter (fun x => x.stream.isSome)).length, 16),
    (b2n (s.evq.q.any (fun r => !r.firn && r.qAt + 100000000 < s.clk.raw)), 19)]

/-- LINE[l].PARCELS: the parcel records by position (the *Parcel record* table). -/
def parcelsWord (l : Nat) (s : Block) : Nat := leNat (((s.nch l).pos.take 512).map parcelBytes).flatten

/-- TOMO[r].SUMMARY with AGE, the ms since TS. -/
def summaryNow (r : Nat) (s : Block) : Nat :=
  let w := s.get (tmSummary r)
  setFld w 223 192 (if fld w 63 0 = 0 then 0 else satU 32 ((s.clk.tb - fld w 63 0) / 1000000))

/-- The value of a number attribute as a read gives it. -/
def liveNum (a : Attr) (s : Block) : Nat :=
  if a = timeNow then s.clk.tb
  else if a = evtStat then evtStatWord s
  else if a = evtOldest then (match s.evq.q with | [] => 0 | r :: _ => r.ev.ts)
  else if a = hostSessions then packL 128 (s.host.sess.map (sessWord s.clk.raw))
  else if a.blk = 8 ∧ a.kind = 0 ∧ a.att = 0x012 then parcelsWord a.idx s
  else if a.blk = 6 ∧ a.kind = 0 ∧ a.att = 0x011 then summaryNow a.idx s
  else if a.blk = 6 ∧ a.kind = 0 ∧ a.att = 0x010 ∧ s.bit (tmCfg a.idx) 0 then setFld (s.get a) 6 5 (tmFillNow s a.idx)
  else s.seen.get a

/-- The bytes of the value an attribute holds; none for a table that is absent (R351). -/
def valueBytes (a : Attr) (s : Block) : Option (List Byte) :=
  if ttypeOf a ≠ 0 then (s.seen.tab (canon a)).map (fun t => avalBytes a (.tab t))
  else some (avalBytes a (.num (liveNum a s)))

/-- What the power state and a provisioning session allow of reads (R57, R75, R348): 0x0508, 0x0301, or 0. -/
def readGate (o : Origin) (a : Attr) (s : Block) : Nat :=
  let provBlk := a.blk == 1 || a.blk == 3 || a.blk == 4 || a.blk == 0x10
  firstErr [need (!s.isProv o || provBlk) 0x0508,
    match s.phase with
    | .park => need (a == modeState) 0x0301
    | .noImage => need (a.blk == 1 || a.blk == 3 || (s.isProv o && provBlk)) 0x0301
    | _ => 0]

/-- The checks of a read before its offset (R354): addressing, access, level, state. -/
def readErr (o : Origin) (oid : Nat) (s : Block) : Nat :=
  let a := attrOf oid
  firstErr [addrErr oid, need (accessOf a != some .wo) 0x0105, readGate o a s, need (valueBytes a s).isSome 0x0303]

/-- One item of a READ response: object ID, STATUS, TOTAL and the bytes read. -/
structure ReadOut where
  oid   : Nat
  st    : Nat
  total : Nat
  data  : List Byte
deriving DecidableEq, Repr

/-- One item read (R351). -/
def readItem (o : Origin) (oid off maxLen : Nat) (s : Block) : ReadOut :=
  let e := readErr o oid s
  if e ≠ 0 then ⟨oid, e, 0, []⟩
  else
    let v := (valueBytes (attrOf oid) s).getD []
    if v.length < off then ⟨oid, 0x0201, v.length, []⟩
    else ⟨oid, 0, v.length, slice v off (min maxLen (v.length - off))⟩

/-- A response item in bytes. -/
def readOutBytes (r : ReadOut) : List Byte :=
  leBytes 4 r.oid ++ leBytes 2 r.st ++ leBytes 2 r.data.length ++ leBytes 4 r.total ++ r.data ++ zeros (padTo4 r.data.length)

/-- The items that fit a response of at most 1408 bytes, of which `n` are used. -/
def readFit : Nat → List ReadOut → List ReadOut
  | _, [] => []
  | n, r :: l =>
    let m := n + (readOutBytes r).length
    if 1408 < m then [] else r :: readFit m l

/-- What one answered item does: a read-clear value clears (R362), a failure leaves its audit record (R354). -/
def readEffect (o : Origin) (s : Block) (r : ReadOut) : Block :=
  if r.st ≠ 0 then s.auditRefused r.oid r.st (s.handleOf o)
  else if accessOf (attrOf r.oid) = some .rc then s.put (attrOf r.oid) 0
  else s

/-- A READ carried out for an origin (R351): STATUS, payload, and the machine after it. -/
def readAct (o : Origin) (p : List Byte) (s : Block) : Nat × List Byte × Block :=
  let n := leAt p 0 2
  if n = 0 ∨ 32 < n ∨ p.length ≠ 4 + 12 * n then (0x0202, [], s)
  else
    let items := (List.range n).map (fun k => readItem o (leAt p (4 + 12 * k) 4) (leAt p (8 + 12 * k) 4) (leAt p (12 + 12 * k) 2) s)
    let kept := readFit 4 items
    (0, leBytes 2 kept.length ++ zeros 2 ++ (kept.map readOutBytes).flatten, kept.foldl (readEffect o) s)

end Sys2Proof.Machine
end

