-- ==== Sys2Proof/Machine/Write.lean ====
section
/-! DEFINITION. Machine/Write.lean: the request WRITE (R334, R335, R348, R350, R352 to R354). -/

namespace Sys2Proof.Machine

/-- One item of a WRITE; `ok` is false where the item's layout runs past the payload or its FLAGS are not defined. -/
structure WItem where
  oid  : Nat
  seg  : Bool
  data : List Byte
  ok   : Bool
deriving DecidableEq, Repr

/-- The items of a WRITE payload, and what is left of it; nothing is read past an item whose layout fails. -/
def writeItems : Nat → List Byte → List WItem × List Byte
  | 0, b => ([], b)
  | n + 1, b =>
    let len := leAt b 4 2
    let fl := leAt b 6 2
    if b.length < 8 ∨ b.length < 8 + len + padTo4 len ∨ 1 < fl then ([⟨leAt b 0 4, false, [], false⟩], [])
    else
      let r := writeItems n (b.drop (8 + len + padTo4 len))
      (⟨leAt b 0 4, fl == 1, slice b 8 len, true⟩ :: r.1, r.2)

/-- The segment buffer of an origin (R353). -/
def segOf (o : Origin) (s : Block) : Option SegBuf :=
  match o with
  | .sess i => (match s.sessAt i with | some x => x.seg | none => none)
  | _ => s.host.rseg

/-- The machine with the segment buffer of an origin replaced. -/
def setSeg (o : Origin) (b : Option SegBuf) (s : Block) : Block :=
  match o with
  | .sess i => (match s.sessAt i with | some x => s.setSess i { x with seg := b } | none => s)
  | _ => { s with host := { s.host with rseg := b } }

/-- One segment taken into a buffer (R353), or its refusal: the layout, the sequence, then TOTAL. -/
def segTake (old : Option SegBuf) (oid : Nat) (b : List Byte) (raw : Nat) : Except Nat SegBuf :=
  let off := leAt b 0 4
  let tot := leAt b 4 4
  let d := b.drop 8
  let cur := match old with | some x => x | none => ⟨oid, tot, [], raw⟩
  if b.length < 8 then .error 0x0202
  else if cur.oid ≠ oid ∨ cur.total ≠ tot ∨ off ≠ cur.data.length ∨ tot < off + d.length then .error 0x0201
  else if 262144 < tot then .error 0x0402
  else .ok { cur with data := cur.data ++ d, lastAt := raw }

/-- The check of a write of a command attribute (R354): the codes of class 0x05 and 0x03 come before the length and the
fields. -/
def woErr (o : Origin) (a : Attr) (b : List Byte) (present : Bool) (s : Block) : Nat :=
  let n := leNat b
  let c :=
    if a = imgStageData then stageDataCheck (entryOf o) (leAt b 0 4) (b.drop 4) s
    else if a = imgStageCtrl then stageCtrlCheck (entryOf o) n s
    else if a = imgKeyCmd then keyCmdCheck n s
    else if a = hostAuthCmd then authCheck o n s
    else if a = pairCmd then pairCmdCheck (fld n 7 0) (fld n 31 16) s
    else cmdErr o a n present s
  let lenOk := if a = imgStageData then decide (4 ≤ b.length) else decide (b.length = valLen a)
  stateFirst c (firstErr [need lenOk 0x0202, if a = imgStageData then 0 else fieldErr a n])

/-- A command attribute written: its act. -/
def woAct (o : Origin) (a : Attr) (b : List Byte) (s : Block) : Block :=
  let n := leNat b
  if a = imgStageData then stageDataAct (leAt b 0 4) (b.drop 4) s
  else if a = imgStageCtrl then stageCtrlAct (entryOf o) n s
  else if a = imgKeyCmd then keyCmdAct n s
  else if a = hostAuthCmd then authAct n s
  else if a = pairCmd then pairCmdAct (fld n 7 0) (fld n 31 16) s
  else cmdAct o a n s

/-- The instant at which a write of an attribute taken now takes effect, or none where a later happening decides it (R352;
R68, R97, R107, R157, R175, R180, R231, R320, R345). -/
def effectAt (a : Attr) (old new : Block) : Option Nat :=
  let tb := old.clk.tb
  match a.blk, a.kind, a.att with
  | 0x02, 0, 0x020 => some new.clk.tb
  | 0x04, 0, 0x020 => if new.mode.cmd = old.mode.cmd then some tb else none
  | 0x04, 0, 0x040 => none
  | 0x05, 0, 0x022 => (new.fch a.idx).pend.map (fun p => p.due)
  | 0x05, 0, 0x023 => (new.fch a.idx).pend.map (fun p => p.due)
  | 0x05, 0, t => if 0x026 ≤ t ∧ t ≤ 0x02A ∧ feTyp old a.idx ≠ 0 then none else some tb
  | 0x07, 0, 0x032 => none
  | 0x08, _, _ => some (ceilMultiple (max 1 (clsPeriod old 3)) tb)
  | 0x13, _, _ => some (ceilMultiple (max 1 (clsPeriod old 3)) tb)
  | 0x09, 0, t => if t = 0x020 ∨ t = 0x030 ∨ t = 0x031 then some (ceilMultiple (max 1 (clsPeriod old 0)) tb) else
      if t = 0x021 ∧ old.get (axStat a.idx) ≠ new.get (axStat a.idx) then none else some tb
  | 0x0A, 0, t => if t = 0x030 ∨ t = 0x031 then some (ceilMultiple 1000 tb) else some tb
  | 0x0B, _, _ => none
  | 0x0E, 0, 0x020 => some (nextCycle old * old.tCyc)
  | 0x0F, 0, 0x038 => none
  | 0x10, 0, 0x020 => some (tb + nsPerS)
  | _, _, _ => some tb

/-- The instant at which a command of the pair scope placed at cycle start `due` takes effect, or none where a later happening
decides it (R334, R352): a LINE command at the class D boundary that follows. -/
def lateEffect (a : Attr) (due : Nat) (s : Block) : Option Nat :=
  match a.blk, a.kind, a.att with
  | 0x04, _, _ => none
  | 0x07, 0, 0x032 => none
  | 0x08, _, _ => some (ceilMultiple (max 1 (clsPeriod s 3)) due)
  | _, _, _ => some (lateAt s a due)

/-- A WRITE under way: the state its items so far would leave, the values they wrote, and when each takes effect. -/
structure WCand where
  s   : Block
  its : List (Attr × AVal)
  eff : List (Option Nat)

/-- The checks of one item before its value (R354): addressing, access, level, the pair, the power state and the mode. -/
def itemGate (o : Origin) (w : WItem) (s : Block) : Nat :=
  let a := attrOf w.oid
  let own : Bool := match o with | .sess _ => true | _ => false
  let unpark := a == modeCmd && leNat w.data == 8 && !w.seg
  firstErr [addrErr w.oid, writeErr a, s.levelCheck o a,
    need (!(own && s.paired && pairScope a (leNat w.data) && s.pairState != 2)) 0x030A,
    s.powerCheck a unpark,
    if accessOf a = some .wo then 0 else stateErr o (canon a) s.seen]

/-- A whole value of a writable attribute (R352): checked and taken. -/
def itemValue (o : Origin) (a : Attr) (b : List Byte) (c : WCand) : Except Nat WCand :=
  match parseVal a b with
  | .error e => .error e
  | .ok v =>
    let e := objErr o a v c.s.seen
    if e ≠ 0 then .error e
    else match lateDue c.s a with
      | some d => .ok ⟨lateTake a v d c.s, c.its ++ [(a, v)], c.eff ++ [some (lateAt c.s a d)]⟩
      | none =>
        let s1 := objAct a v c.s
        .ok ⟨s1, c.its ++ [(a, v)], c.eff ++ [effectAt a c.s s1]⟩

/-- One item of a WRITE (R352, R353), on the state that the earlier items leave. -/
def itemTake (o : Origin) (present : Bool) (w : WItem) (c : WCand) : Except Nat WCand :=
  let a := canon (attrOf w.oid)
  let g := itemGate o w c.s
  let wo : Bool := accessOf (attrOf w.oid) == some .wo
  let e := if !wo then 0 else if w.seg then 0x0202 else woErr o a w.data present c.s
  if !w.ok then .error 0x0202
  else if gated g e ≠ 0 then .error (gated g e)
  else if wo then
    if c.s.loneHead ∧ pairScope a (leNat w.data) then
      let n := leNat w.data
      .ok ⟨lateAdd a (.num n) (entryOf o) (lateStart c.s) c.s, c.its ++ [(a, .num n)], c.eff ++ [lateEffect a (lateStart c.s) c.s]⟩
    else if (lateClass c.s a).isSome then
      let n := leNat w.data
      let due := c.s.clk.tb + 2000
      .ok ⟨lateAdd a (.num n) (entryOf o) due c.s, c.its ++ [(a, .num n)], c.eff ++ [some (lateAt c.s a due)]⟩
    else
      let s1 := woAct o a w.data c.s
      .ok ⟨s1, c.its ++ [(a, .num (leNat w.data))], c.eff ++ [effectAt a c.s s1]⟩
  else if w.seg then
    match segTake (segOf o c.s) w.oid w.data c.s.clk.raw with
    | .error e => .error e
    | .ok b =>
      if b.data.length < b.total then .ok { c with s := setSeg o (some b) c.s, eff := c.eff ++ [some c.s.clk.tb] }
      else itemValue o a b.data { c with s := setSeg o none c.s }
  else itemValue o a w.data c

/-- Every item in order: the request's state, or the first failure: its code and index. -/
def itemsTake (o : Origin) (present : Bool) : List WItem → Nat → WCand → Except (Nat × Nat) WCand
  | [], _, c => .ok c
  | w :: l, k, c => match itemTake o present w c with
    | .error e => .error (e, k)
    | .ok c1 => itemsTake o present l (k + 1) c1

/-- The index of the first item that differs from the first in being of the pair scope (R352). -/
def mixedAt (l : List WItem) : Option Nat :=
  let sc := fun (w : WItem) => pairScope (attrOf w.oid) (leNat w.data)
  match l with
  | [] => none
  | w :: _ => ((numbered l).find? (fun e => sc e.2 != sc w)).map (fun e => e.1)

/-- What a WRITE comes to: its STATUS, its response's payload, the machine after it, and the values that wait for the pair's
delta. -/
structure WRes where
  st   : Nat
  pay  : List Byte
  s    : Block
  pair : Option (List (Attr × AVal))

/-- A WRITE refused (R352, R353, R354): no item is applied, a segment that fails empties the buffer, each item leaves its
audit record; neither EFFECT of a refusal nor FAIL_IDX of one that no item
causes is stated (log entry 4). -/
def writeRefused (o : Origin) (code idx : Nat) (l : List WItem) (s : Block) : WRes :=
  let d := s.draw
  let s1 := match l[idx]? with
    | some w =>
      let s2 := if w.seg then setSeg o none d.2 else d.2
      cmdRefused (attrOf w.oid) (leNat w.data) code s2
    | none => d.2
  ⟨code, leBytes 2 (if l.isEmpty then d.1 / 2 ^ 64 else idx) ++ zeros 2 ++ leBytes 8 d.1, l.foldl (fun x w => x.auditRefused w.oid code (s.handleOf o)) s1, none⟩

/-- EFFECT (R352): the latest of the items' instants, 0 where one is not known. -/
def effectOf (l : List (Option Nat)) : Nat :=
  if l.any (fun e => e.isNone) then 0 else (l.map (fun e => e.getD 0)).foldl max 0

/-- A WRITE carried out for an origin (R352). -/
def writeAct (o : Origin) (present : Bool) (p : List Byte) (s : Block) : WRes :=
  let n := leAt p 0 2
  let l := writeItems n (p.drop 4)
  let own : Bool := match o with | .sess _ => true | _ => false
  if n = 0 ∨ 32 < n ∨ p.length < 4 then writeRefused o 0x0202 0 [] s
  else if !l.2.isEmpty then writeRefused o 0x0202 0 [] s
  else
    let mix := if own ∧ s.paired then mixedAt l.1 else none
    match itemsTake o present l.1 0 ⟨s, [], []⟩, mix with
    | .error (e, k), none => writeRefused o e k l.1 s
    | .error (e, k), some m => if e / 256 = 2 ∨ e / 256 = 4 then writeRefused o 0x0202 m l.1 s else writeRefused o e k l.1 s
    | .ok _, some m => writeRefused o 0x0202 m l.1 s
    | .ok c, none =>
      let scope := own && s.paired && (match l.1 with | w :: _ => pairScope (attrOf w.oid) (leNat w.data) | [] => false)
      if scope then
        let s1 := setSeg o (segOf o c.s) s
        if c.its.isEmpty then ⟨0, writePayload 0xFFFF s.clk.tb, l.1.foldl (fun x w => x.auditWrite w.oid (s.handleOf o)) s1, none⟩
        else ⟨0, [], s1, some c.its⟩
      else
        ⟨0, writePayload 0xFFFF (effectOf c.eff), l.1.foldl (fun x w => x.auditWrite w.oid (s.handleOf o)) c.s, none⟩

/-- The delta of a write that this head has adopted or sent, by its session and request ID (R335). -/
def pairRepeat (handle reqId : Nat) (s : Block) : Option Nat :=
  if !s.paired then none
  else (s.pair.old.find? (fun e => e.2.1 == handle && e.2.2 == reqId)).map (fun e => e.1)

/-- A WRITE of session entry `i` to this module. -/
def writeHere (i : Nat) (present : Bool) (d : Dgram) (s : Block) : Block :=
  match pairRepeat d.session d.reqId s with
  | some k => reply i yWrite d 0 (writePayload 0xFFFF ((k + 2) * s.tCyc)) s
  | none =>
    let r := writeAct (.sess i) present d.payload s
    match r.pair with
    | some its => pairEnqueue its i d.session d.seq d.reqId true r.s
    | none => modeLate (reply i yWrite d r.st r.pay r.s)

/-- SEGMENT_BUFFER_TIMEOUT (R353): 10 s without a segment for the buffer of session entry `i`, or, 4, of relayed writes. -/
def execSegmentBufferTimeout (i : Nat) (s : State) : Res := onBlock s fun s =>
  if 5 ≤ i then .next s
  else
    let o := if i = 4 then Origin.relay 0 else .sess i
    match segOf o s with
    | none => .next s
    | some b => .next (setSeg o none (s.advanceTo (b.lastAt + 10 * nsPerS)))

end Sys2Proof.Machine
end

