-- ==== Sys2Proof/Machine/Serve.lean ====
section
/-! DEFINITION. Machine/Serve.lean: READ and WRITE as datagrams, the relay through a head, bulk queries, the event stream and
the Modbus server (R349, R351, R352, R355 to R357, R361). -/

namespace Sys2Proof.Machine

/-- Whether a request names another node (R355). -/
def elsewhere (d : Dgram) (s : Block) : Bool := d.node != 0 && d.node != s.img.node

/-- Whether session entry `i` is the provisioning session. -/
def provEntry (i : Nat) (s : Block) : Bool := s.isProv (.sess i)

/-- 0x0301 in PARK and without an image (R57, R75). -/
def powerNeed (s : Block) : Nat := need (s.phase == .active) 0x0301

/-- Sends a BULK frame, to be acknowledged (R304). -/
def bulkSend (dst : Nat) (data : List Byte) (s : Block) : Block :=
  let q := getL s.floe.seqs 7 0
  let s1 := { s with floe := { s.floe with bulk := s.floe.bulk ++ [(⟨dst, q, s.clk.raw, data⟩ : BulkOut)] } }
  floeSend [reachPort s dst] 7 dst s.cycleNow data s1

/-- The check of a relay at a head (R348, R355). -/
def relayCheck (i : Nat) (d : Dgram) (s : Block) : Nat :=
  firstErr [need (!provEntry i s) 0x0508, powerNeed s, need (s.role == 2) 0x0302,
    need (s.floe.reach.any (fun e => e.1 == d.node)) 0x0405]

/-- A request relayed to its target (R355): READ and WRITE as unicast MGMT, BULK_QUERY as BULK. -/
def relayAsk (i typ : Nat) (d : Dgram) (s : Block) : Block :=
  let c := relayCheck i d s
  if c ≠ 0 then reply i typ d c [] s
  else
    let lv := s.levelOf (.sess i)
    let r : Relay := ⟨i, d.session, d.seq, d.reqId, typ, d.node, s.clk.raw, false⟩
    let s1 := ({ s with host := { s.host with relays := s.host.relays ++ [r] } }).countUp hostCount 191 160
    if typ = yBulkQuery then bulkSend d.node (leBytes 1 lv ++ leBytes 4 d.reqId ++ d.payload) s1
    else s1.emit (.relay d.node lv typ d.reqId d.payload)

/-- READ (R351). -/
def execRead (d : Dgram) (s : State) : Res := onBlock s fun s =>
  match yhpTake yRead d s with
  | .done s1 => .next s1
  | .req i s1 =>
    if elsewhere d s1 then .next (relayAsk i yRead d s1)
    else
      let r := readAct (.sess i) d.payload s1
      .next (reply i yRead d r.1 r.2.1 r.2.2)

/-- WRITE (R352); `present`: the condition that a CLEAR among its items would clear persists. -/
def execWrite (d : Dgram) (present : Bool) (s : State) : Res := onBlock s fun s =>
  match yhpTake yWrite d s with
  | .done s1 => .next s1
  | .req i s1 => .next (if elsewhere d s1 then relayAsk i yWrite d s1 else writeHere i present d s1)

/-- Records in ascending timestamp order. -/
def insByTs (r : FirnRec) : List FirnRec → List FirnRec
  | [] => [r]
  | x :: l => if x.ts ≤ r.ts then x :: insByTs r l else r :: x :: l

/-- The records a BULK_QUERY selects (R357): KIND, FILTER, FROM, TO and MAX. -/
def querySelect (p : List Byte) (s : Block) : List FirnRec :=
  let kind := leAt p 4 1
  let filt := leAt p 6 2
  let hit := fun (r : FirnRec) => (filt == 0xFFFF || kind == 1 || r.filt == filt) && leAt p 8 8 ≤ r.ts && r.ts ≤ leAt p 16 8
  let l := ((firnList s.firn kind).filter hit).foldl (fun x r => insByTs r x) []
  if leAt p 24 4 = 0 then l else l.take (leAt p 24 4)

/-- The check of a BULK_QUERY (R348, R354, R357). -/
def queryCheck (o : Origin) (p : List Byte) (s : Block) : Nat :=
  let mine := match o with
    | .sess i => (match s.sessAt i with | some x => x.query.isSome | none => false)
    | _ => false
  firstErr [need (!s.isProv o) 0x0508, powerNeed s, need s.firnReady 0x0303, need (p.length == 28) 0x0202,
    need (1 ≤ leAt p 4 1 && leAt p 4 1 ≤ 4) 0x0201,
    need (!mine && (s.host.sess.filter (fun x => x.query.isSome)).length < 4) 0x0401]

/-- The query a BULK_QUERY starts. -/
def queryNew (seq : Nat) (p : List Byte) (s : Block) : Query :=
  { seq := seq, qid := leAt p 0 4, kind := leAt p 4 1, recs := querySelect p s, rest := [], next := 0, win := [], count := 0,
    last := false, lastAck := s.clk.raw, sentAt := s.clk.raw, skipped := false }

/-- Records pulled into the bytes to send until a chunk is full; an overwritten record is skipped (R357). -/
def bulkPull (live : FirnRec → Bool) : List FirnRec → List Byte → Nat → Bool → List FirnRec × List Byte × Nat × Bool
  | [], b, n, k => ([], b, n, k)
  | r :: l, b, n, k =>
    if 1396 ≤ b.length then (r :: l, b, n, k)
    else if live r then bulkPull live l (b ++ r.data) (n + 1) k
    else bulkPull live l b n true

/-- The next chunk of a query cut (R357). -/
def bulkCut (q : Query) (s : Block) : Query × Chunk :=
  let r := bulkPull (fun x => (firnList s.firn q.kind).contains x) q.recs q.rest q.count q.skipped
  let b := r.2.1
  let isEnd := r.1.isEmpty && decide (b.length ≤ 1392)
  let c : Chunk := if isEnd then ⟨q.next, 1 + 2 * b2n r.2.2.2, b ++ leBytes 4 r.2.2.1⟩ else ⟨q.next, 0, b.take 1396⟩
  ({ q with recs := r.1, rest := if isEnd then [] else b.drop 1396, next := q.next + 1, win := q.win ++ [c], count := r.2.2.1
            last := isEnd, skipped := r.2.2.2, sentAt := s.clk.raw }, c)

/-- One BULK_DATA of session entry `i`, where its window and SEQ order allow (R349, R357). -/
def bulkSend1 (i : Nat) (s : Block) : Block :=
  match s.sessAt i with
  | none => s
  | some x => match x.query with
    | none => s
    | some q =>
      if q.last ∨ 16 ≤ q.win.length ∨ reqWaits i q.seq s then s
      else
        let r := bulkCut q s
        (s.setSess i { x with query := some r.1, seqAns := max x.seqAns q.seq }).send (.bulk x.handle q.qid r.2.no r.2.flags r.2.data)

/-- Every BULK_DATA the window of session entry `i` allows. -/
def bulkPump (i : Nat) (s : Block) : Block := forN 16 (fun _ x => bulkSend1 i x) s

/-- A query of a session ended. -/
def queryEnd (i : Nat) (s : Block) : Block :=
  match s.sessAt i with
  | none => s
  | some x => firnQueries (s.setSess i { x with query := none })

/-- BULK_QUERY (R357). -/
def execBulkQuery (d : Dgram) (s : State) : Res := onBlock s fun s =>
  match yhpTake yBulkQuery d s with
  | .done s1 => .next s1
  | .req i s1 =>
    if elsewhere d s1 then .next (relayAsk i yBulkQuery d s1)
    else
      let c := queryCheck (.sess i) d.payload s1
      if c ≠ 0 then .next (reply i yBulkQuery d c [] s1)
      else match s1.sessAt i with
        | none => .next s1
        | some x => .next (bulkPump i (firnQueries (s1.setSess i { x with query := some (queryNew d.seq d.payload s1) })))

/-- BULK_ACK (R357): chunks up to the number named leave the window; the query ends with its last. -/
def execBulkAck (d : Dgram) (s : State) : Res := onBlock s fun s =>
  match yhpEnter yBulkAck d s with
  | .done s1 => .next s1
  | .req i s1 => match s1.sessAt i with
    | none => .next s1
    | some x => match x.query with
      | none => .next s1
      | some q =>
        if d.payload.length ≠ 8 then .next (yhpDiscard s1)
        else if leAt d.payload 0 4 ≠ q.qid then .next s1
        else
          let q1 := { q with win := q.win.filter (fun c => leAt d.payload 4 4 < c.no), lastAck := s1.clk.raw }
          if q1.last ∧ q1.win.isEmpty then .next (queryEnd i s1)
          else .next (bulkPump i (s1.setSess i { x with query := some q1 }))

/-- BULK_RESEND (R357): 50 ms without an acknowledgement of session entry `i`'s chunks. -/
def execBulkResend (i : Nat) (s : State) : Res := onBlock s fun s =>
  if 4 ≤ i then .next s
  else match s.sessAt i with
    | none => .next s
    | some x => match x.query with
      | none => .next s
      | some q =>
        let s1 := s.advanceTo (q.sentAt + 50000000)
        let s2 := s1.setSess i { x with query := some { q with sentAt := s1.clk.raw } }
        .next (bulkPump i (q.win.foldl (fun (y : Block) c => y.send (.bulk x.handle q.qid c.no c.flags c.data)) s2))

/-- BULK_QUERY_TIMEOUT (R357): 5 s without an acknowledgement. -/
def execBulkQueryTimeout (i : Nat) (s : State) : Res := onBlock s fun s =>
  if 4 ≤ i then .next s
  else match s.sessAt i with
    | none => .next s
    | some x => match x.query with
      | none => .next s
      | some q => .next (queryEnd i (s.advanceTo (q.lastAck + 5 * nsPerS)))

/-- The check of an EVT_SUB (R348, R355, R356). -/
def evtSubCheck (i : Nat) (d : Dgram) (s : Block) : Nat :=
  let p := d.payload
  firstErr [need (!provEntry i s) 0x0508, powerNeed s, need (d.node == 0 && p.length == 4) 0x0202,
    need (leAt p 0 1 ≤ 1 && leAt p 1 1 ≤ 3 && leAt p 2 1 ≤ 1) 0x0201]

/-- The first queue number a stream opened now looks at. -/
def firstNum (q : EvQueue) : Nat := match q.q with | [] => q.nextNum | r :: _ => r.num

/-- EVT_SUB (R356): the stream opens at the oldest record still queued, or closes. -/
def execEvtSub (d : Dgram) (s : State) : Res := onBlock s fun s =>
  match yhpTake yEvtSub d s with
  | .done s1 => .next s1
  | .req i s1 => match s1.sessAt i with
    | none => .next s1
    | some x =>
      let c := evtSubCheck i d s1
      if c ≠ 0 then .next (reply i yEvtSub d c [] s1)
      else
        let p := d.payload
        let t : Stream := { minSev := leAt p 1 1, ring := leAt p 2 1 == 1 && s1.role == 2, next := firstNum s1.evq
                            rnext := firstNum s1.ringq, sseq := 0, win := [], sentAt := s1.clk.raw }
        let s2 := s1.setSess i { x with stream := if leAt p 0 1 = 1 then some t else none }
        .next (evTrim (evtPump (reply i yEvtSub d 0 [] s2)))

/-- A packet of the stream without the records up to a STREAM_SEQ. -/
def evtAcked (a : Nat) (p : EvtPk) : Option EvtPk :=
  if p.sseq + p.recs.length ≤ a + 1 then none
  else if a < p.sseq then some p
  else some ⟨a + 1, p.recs.drop (a + 1 - p.sseq)⟩

/-- EVT_ACK (R94, R356). -/
def execEvtAck (d : Dgram) (s : State) : Res := onBlock s fun s =>
  match yhpEnter yEvtAck d s with
  | .done s1 => .next s1
  | .req i s1 => match s1.sessAt i with
    | none => .next s1
    | some x => match x.stream with
      | none => .next s1
      | some t =>
        if d.payload.length ≠ 4 then .next (yhpDiscard s1)
        else
          let t1 := { t with win := t.win.filterMap (evtAcked (leAt d.payload 0 4)) }
          .next (evTrim (evtPump (s1.setSess i { x with stream := some t1 })))

/-- EVT_RESEND (R356): 100 ms without an acknowledgement, from the first unacknowledged record. -/
def execEvtResend (i : Nat) (s : State) : Res := onBlock s fun s =>
  if 4 ≤ i then .next s
  else match s.sessAt i with
    | none => .next s
    | some x => match x.stream with
      | none => .next s
      | some t =>
        if t.win.isEmpty then .next s
        else
          let s1 := s.advanceTo (t.sentAt + 100000000)
          let s2 := s1.setSess i { x with stream := some { t with sentAt := s1.clk.raw } }
          .next (t.win.foldl (fun (y : Block) p => y.send (.evt x.handle (evtBytes p.sseq (p.recs.map (fun e => e.2.2))))) s2)

/-- Whether a node has been heard sending sections or TIME with a claim within the last 3 cycles (R355). -/
def headHeard (node : Nat) (s : Block) : Bool := s.floe.heads.any (fun h => h.1 == node && s.cycleNow ≤ h.2 + 3)

/-- Every chunk of a query cut, for a relayed one. -/
def bulkAll : Nat → Query → Block → List Chunk
  | 0, _, _ => []
  | n + 1, q, s => if q.last then [] else
    let r := bulkCut q s
    r.2 :: bulkAll n r.1 s

/-- A relayed request executed at its target, for the head that sent it (R355). -/
def relayServe (node level typ reqId : Nat) (p : List Byte) (present : Bool) (s : Block) : Block :=
  let o := Origin.relay level
  if typ = yRead then
    let r := readAct o p s
    r.2.2.emit (.relayResp node reqId r.1 r.2.1)
  else if typ = yWrite then
    let r := writeAct o present p s
    modeLate (r.s.emit (.relayResp node reqId r.st r.pay))
  else
    let c := queryCheck o p s
    if c ≠ 0 then s.emit (.relayResp node reqId c [])
    else
      let q := queryNew 0 p s
      let n := (q.recs.map (fun r => r.data.length)).sum / 1396 + 2
      (bulkAll n q s).foldl (fun (x : Block) k =>
        bulkSend node (leBytes 4 reqId ++ leBytes 4 q.qid ++ leBytes 4 k.no ++ leBytes 2 k.flags ++ zeros 2 ++ k.data) x) s

/-- A target's response to the relay it answers (R355), given to the host. -/
def relayTaken (r : Relay) (status : Nat) (p : List Byte) (s : Block) : Block :=
  let drop := { s with host := { s.host with relays := s.host.relays.erase r } }
  if !sameSess r.entry r.handle s then drop
  else if r.typ = yBulkQuery ∧ status = 0 then
    let last := bitAt (leAt p 8 2) 0
    let s1 := if last then drop else
      { s with host := { s.host with relays := s.host.relays.map (fun (x : Relay) => if x = r then { x with got := true } else x) } }
    bulkPump r.entry (respFlush r.entry (s1.send (.bulk r.handle (leAt p 0 4) (leAt p 4 4) (leAt p 8 2) (p.drop 12))))
  else
    bulkPump r.entry (answer r.entry ⟨r.typ + 0x80, r.seq, r.reqId, status, p⟩ (if status = 0 then drop else drop.countUp hostCount 63 32))

/-- RELAY_REQUEST (R355): a relay between this module and `node`. With `resp` false, a READ, WRITE or BULK_QUERY a head
relays to this module at level `x`; with `resp` true, a target's response, with STATUS `x`, to a request this head relayed. -/
def execRelayRequest (resp : Bool) (node x typ reqId : Nat) (p : List Byte) (present : Bool) (s : State) : Res := onBlock s fun s =>
  if !ringNode s then .next s
  else if resp then
    match s.host.relays.find? (fun r => r.node == node && r.reqId == reqId && r.typ == typ) with
    | none => .next s
    | some r => .next (relayTaken r x p s)
  else if !headHeard node s ∨ (typ ≠ yRead ∧ typ ≠ yWrite ∧ typ ≠ yBulkQuery) then .next s
  else .next (relayServe node (min x 2) typ reqId p present s)

/-- RELAY_TIMEOUT (R355): the oldest relay without a response, 50 ms after it was sent. -/
def execRelayTimeout (s : State) : Res := onBlock s fun s =>
  match s.host.relays.find? (fun r => !r.got) with
  | none => .next s
  | some r => .next (relayTaken r 0x0405 [] (s.advanceTo (r.sentAt + 50000000)))

/-- MODBUS_CONNECT (R361). -/
def execModbusConnect (id : Nat) (s : State) : Res := onBlock s fun s =>
  if s.phase ≠ .active ∨ !bitAt s.host.netCfg 112 ∨ 4 ≤ s.host.mb.length ∨ s.host.mb.any (fun c => c.id == id) then .next s
  else .next (hostSync { s with host := { s.host with mb := s.host.mb ++ [⟨id, s.clk.raw⟩] } })

/-- The 32 bits of an entry of HOST.MB_MAP, 0 where it names no readable object (R361). -/
def mbWord (i : Nat) (s : Block) : Nat :=
  let oid := entry (s.get hostMbMap) 32 i
  if oid = 0 ∨ readErr (.relay 0) oid s ≠ 0 then 0 else leNat (((valueBytes (attrOf oid) s).getD []).take 4)

/-- One Modbus register. -/
def mbReg (k : Nat) (s : Block) : Nat := if k % 2 = 0 then mbWord (k / 2) s / 65536 else mbWord (k / 2) s % 65536

/-- A read-clear object read by Modbus clears (R362). -/
def mbClear (s : Block) (i : Nat) : Block :=
  let oid := entry (s.get hostMbMap) 32 i
  if oid ≠ 0 ∧ readErr (.relay 0) oid s = 0 ∧ accessOf (attrOf oid) = some .rc then s.put (attrOf oid) 0 else s

/-- The exception a Modbus request gets, 0 for none (R361). -/
def mbExc (fc addr qty : Nat) : Nat :=
  if fc ≠ 3 ∧ fc ≠ 4 then 1 else if qty = 0 ∨ 125 < qty then 3 else if 256 < addr + qty then 2 else 0

/-- MODBUS_REQUEST (R361): function code, first register and quantity, on a connection. -/
def execModbusRequest (id fc addr qty : Nat) (s : State) : Res := onBlock s fun s =>
  if s.phase ≠ .active ∨ !s.host.mb.any (fun c => c.id == id) then .next s
  else
    let t := s.clk.raw
    let mb := s.host.mb.map (fun (c : MbConn) => if c.id = id then { c with lastAt := t } else c)
    let s1 := ({ s with host := { s.host with mb := mb } }).countUp hostCount 223 192
    let e := mbExc fc addr qty
    if e ≠ 0 then .next ((s1.countUp hostCount 255 224).send (.modbus id (beBytes 1 (fc + 0x80) ++ beBytes 1 e)))
    else
      let v := ((List.range qty).map (fun k => beBytes 2 (mbReg (addr + k) s1))).flatten
      let s2 := (List.range 128).foldl (fun x i => if 2 * i < addr + qty ∧ addr ≤ 2 * i + 1 then mbClear x i else x) s1
      .next (s2.send (.modbus id (beBytes 1 fc ++ beBytes 1 (2 * qty) ++ v)))

/-- MODBUS_IDLE_TIMEOUT (R361): 60 s without a request. -/
def execModbusIdleTimeout (id : Nat) (s : State) : Res := onBlock s fun s =>
  match s.host.mb.find? (fun c => c.id == id) with
  | none => .next s
  | some c =>
    let s1 := s.advanceTo (c.lastAt + 60 * nsPerS)
    .next (hostSync { s1 with host := { s1.host with mb := s1.host.mb.filter (fun x => x.id != id) } })

end Sys2Proof.Machine
end

