-- ==== Sys2Proof/Machine/Dispatch.lean ====
section
/-! DEFINITION. Machine/Dispatch.lean: each command's meaning. -/

namespace Sys2Proof.Machine

open Sys2Proof

def exec (i : Instr) (s : State) : Host.Outcome State Fault Refusal :=
  match i with
  | .por bpos mv => Sys2Proof.Machine.execPor bpos mv s
  | .bootSequence b => Sys2Proof.Machine.execBootSequence b s
  | .backgroundSlotCheck => Sys2Proof.Machine.execBackgroundSlotCheck s
  | .firnReady => Sys2Proof.Machine.execFirnReady s
  | .powerFailDetect mv => Sys2Proof.Machine.execPowerFailDetect mv s
  | .powerFailClear mv => Sys2Proof.Machine.execPowerFailClear mv s
  | .usReturn mv => Sys2Proof.Machine.execUsReturn mv s
  | .bor => Sys2Proof.Machine.execBor s
  | .converterFloor => Sys2Proof.Machine.execConverterFloor s
  | .extReset low => Sys2Proof.Machine.execExtReset low s
  | .wdr fwCheck => Sys2Proof.Machine.execWdr fwCheck s
  | .wake level => Sys2Proof.Machine.execWake level s
  | .keyswChange on => Sys2Proof.Machine.execKeyswChange on s
  | .vboostReady mv => Sys2Proof.Machine.execVboostReady mv s
  | .vboostFault mv => Sys2Proof.Machine.execVboostFault mv s
  | .vboostRestart => Sys2Proof.Machine.execVboostRestart s
  | .esupOvercurrent e => Sys2Proof.Machine.execEsupOvercurrent e s
  | .vrefAoFault mv => Sys2Proof.Machine.execVrefAoFault mv s
  | .stageOpen j slot len => Sys2Proof.Machine.execStageOpen j slot len s
  | .stageMarkErased => Sys2Proof.Machine.execStageMarkErased s
  | .stageEraseDone => Sys2Proof.Machine.execStageEraseDone s
  | .stageData j off d => Sys2Proof.Machine.execStageData j off d s
  | .stageClose j => Sys2Proof.Machine.execStageClose j s
  | .stageVerifyDone => Sys2Proof.Machine.execStageVerifyDone s
  | .stageCommit => Sys2Proof.Machine.execStageCommit s
  | .stageAbort j => Sys2Proof.Machine.execStageAbort j s
  | .stageLapse => Sys2Proof.Machine.execStageLapse s
  | .stageKeyFail removed => Sys2Proof.Machine.execStageKeyFail removed s
  | .keyInstall j k key => Sys2Proof.Machine.execKeyInstall j k key s
  | .keyRevoke j k => Sys2Proof.Machine.execKeyRevoke j k s
  | .svnRaise j => Sys2Proof.Machine.execSvnRaise j s
  | .modeCmdSafe j => Sys2Proof.Machine.execModeCmdSafe j s
  | .modeCmdRun j => Sys2Proof.Machine.execModeCmdRun j s
  | .modeCmdHold j => Sys2Proof.Machine.execModeCmdHold j s
  | .modeCmdFallback j => Sys2Proof.Machine.execModeCmdFallback j s
  | .modeCmdService j => Sys2Proof.Machine.execModeCmdService j s
  | .modeCmdPark j => Sys2Proof.Machine.execModeCmdPark j s
  | .modeCmdDeepPark j => Sys2Proof.Machine.execModeCmdDeepPark j s
  | .modeCmdUnpark j => Sys2Proof.Machine.execModeCmdUnpark j s
  | .rtcWake => Sys2Proof.Machine.execRtcWake s
  | .modeCmdWarm j => Sys2Proof.Machine.execModeCmdWarm j s
  | .modeCmdReload j => Sys2Proof.Machine.execModeCmdReload j s
  | .modeCmdAckShutdown j => Sys2Proof.Machine.execModeCmdAckShutdown j s
  | .persistCommit j => Sys2Proof.Machine.execPersistCommit j s
  | .persistClear j => Sys2Proof.Machine.execPersistClear j s
  | .persistDrop j oid => Sys2Proof.Machine.execPersistDrop j oid s
  | .refinLost => Sys2Proof.Machine.execRefinLost s
  | .refSwitchDone => Sys2Proof.Machine.execRefSwitchDone s
  | .refinValid held => Sys2Proof.Machine.execRefinValid held s
  | .refinInvalid => Sys2Proof.Machine.execRefinInvalid s
  | .tcxoFault => Sys2Proof.Machine.execTcxoFault s
  | .pllFault => Sys2Proof.Machine.execPllFault s
  | .timeSet j v => Sys2Proof.Machine.execTimeSet j v s
  | .refSelWrite j v => Sys2Proof.Machine.execRefSelWrite j v s
  | .timeFrame f port => Sys2Proof.Machine.execTimeFrame f port s
  | .timeHoldover => Sys2Proof.Machine.execTimeHoldover s
  | .holdLimitExpiry => Sys2Proof.Machine.execHoldLimitExpiry s
  | .rtcUpdate => Sys2Proof.Machine.execRtcUpdate s
  | .evtLost => Sys2Proof.Machine.execEvtLost s
  | .eventFirnCommit => Sys2Proof.Machine.execEventFirnCommit s
  | .feValue n iq d j ovl => Sys2Proof.Machine.execFeValue n iq d j ovl s
  | .feValueRelease n => Sys2Proof.Machine.execFeValueRelease n s
  | .aoInvalidTimeout n => Sys2Proof.Machine.execAoInvalidTimeout n s
  | .feTonesWrite j n v => Sys2Proof.Machine.execFeTonesWrite j n v s
  | .feRateWrite j n v => Sys2Proof.Machine.execFeRateWrite j n v s
  | .feExcitationApply n => Sys2Proof.Machine.execFeExcitationApply n s
  | .feGroupRestart j g => Sys2Proof.Machine.execFeGroupRestart j g s
  | .excitationFault n qty win resp volt curr => Sys2Proof.Machine.execExcitationFault n qty win resp volt curr s
  | .excitationFaultClear n => Sys2Proof.Machine.execExcitationFaultClear n s
  | .shortTest n => Sys2Proof.Machine.execShortTest n s
  | .feGroupLinkFault g pass => Sys2Proof.Machine.execFeGroupLinkFault g pass s
  | .tomoFrame r slot period thr => Sys2Proof.Machine.execTomoFrame r slot period thr s
  | .tomoKernelDone r => Sys2Proof.Machine.execTomoKernelDone r s
  | .calEmpty j r n => Sys2Proof.Machine.execCalEmpty j r n s
  | .calFull j r n => Sys2Proof.Machine.execCalFull j r n s
  | .tomoCalDone r => Sys2Proof.Machine.execTomoCalDone r s
  | .tomoRestart j r => Sys2Proof.Machine.execTomoRestart j r s
  | .tomoSensWrite j r t => Sys2Proof.Machine.execTomoSensWrite j r t s
  | .tomoMapRecord r => Sys2Proof.Machine.execTomoMapRecord r s
  | .tomoRimeSetup r => Sys2Proof.Machine.execTomoRimeSetup r s
  | .rimeSetup p => Sys2Proof.Machine.execRimeSetup p s
  | .rimeSetupAck r result elec => Sys2Proof.Machine.execRimeSetupAck r result elec s
  | .rimeAdmit slot r ts payload => Sys2Proof.Machine.execRimeAdmit slot r ts payload s
  | .rimeSync f => Sys2Proof.Machine.execRimeSync f s
  | .rimeLinkDown p => Sys2Proof.Machine.execRimeLinkDown p s
  | .rimeLinkUp p anew => Sys2Proof.Machine.execRimeLinkUp p anew s
  | .rimeRetrain p => Sys2Proof.Machine.execRimeRetrain p s
  | .classSample k ax => Sys2Proof.Machine.execClassSample k ax s
  | .classPublish k ns => Sys2Proof.Machine.execClassPublish k ns s
  | .classOverrun k c => Sys2Proof.Machine.execClassOverrun k c s
  | .swap j n => Sys2Proof.Machine.execSwap j n s
  | .bankWrite j n b t => Sys2Proof.Machine.execBankWrite j n b t s
  | .clearPlaus j n => Sys2Proof.Machine.execClearPlaus j n s
  | .restore j k => Sys2Proof.Machine.execRestore j k s
  | .coreSelfTest c pass => Sys2Proof.Machine.execCoreSelfTest c pass s
  | .coreMemoryError c => Sys2Proof.Machine.execCoreMemoryError c s
  | .staticObservation l => Sys2Proof.Machine.execStaticObservation l s
  | .programTimerExpiry l => Sys2Proof.Machine.execProgramTimerExpiry l s
  | .aerationWindow l w => Sys2Proof.Machine.execAerationWindow l w s
  | .checkpoint => Sys2Proof.Machine.execCheckpoint s
  | .checkpointCommit => Sys2Proof.Machine.execCheckpointCommit s
  | .lineStart j l => Sys2Proof.Machine.execLineStart j l s
  | .lineStop j l => Sys2Proof.Machine.execLineStop j l s
  | .nextStep j l => Sys2Proof.Machine.execNextStep j l s
  | .observe j l pos m => Sys2Proof.Machine.execObserve j l pos m s
  | .clearCorr j l => Sys2Proof.Machine.execClearCorr j l s
  | .clearHold j l => Sys2Proof.Machine.execClearHold j l s
  | .coolRun j l => Sys2Proof.Machine.execCoolRun j l s
  | .axisStart a => Sys2Proof.Machine.execAxisStart a s
  | .axisCatchDone a found speed => Sys2Proof.Machine.execAxisCatchDone a found speed s
  | .axisAlignDone a flux => Sys2Proof.Machine.execAxisAlignDone a flux s
  | .axisStartCheck a bemf reached => Sys2Proof.Machine.execAxisStartCheck a bemf reached s
  | .axisRetryWaitEnd a => Sys2Proof.Machine.execAxisRetryWaitEnd a s
  | .axisAttemptsReset a => Sys2Proof.Machine.execAxisAttemptsReset a s
  | .axisStop a => Sys2Proof.Machine.execAxisStop a s
  | .axisRampStopDone a => Sys2Proof.Machine.execAxisRampStopDone a s
  | .axisTrip a stream v stuck => Sys2Proof.Machine.execAxisTrip a stream v stuck s
  | .bfltFault a => Sys2Proof.Machine.execBfltFault a s
  | .axisDcUndervoltage a v => Sys2Proof.Machine.execAxisDcUndervoltage a v s
  | .axisUvRecovery a v => Sys2Proof.Machine.execAxisUvRecovery a v s
  | .axisOpenPhase a iu iv iw => Sys2Proof.Machine.execAxisOpenPhase a iu iv iw s
  | .axisTripAutoClear a => Sys2Proof.Machine.execAxisTripAutoClear a s
  | .axisClear j a present => Sys2Proof.Machine.execAxisClear j a present s
  | .tachLoss a cond since => Sys2Proof.Machine.execTachLoss a cond since s
  | .axisCurLim a => Sys2Proof.Machine.execAxisCurLim a s
  | .baroSample p ok => Sys2Proof.Machine.execBaroSample p ok s
  | .pullinStart => Sys2Proof.Machine.execPullinStart s
  | .pullinEnd n => Sys2Proof.Machine.execPullinEnd n s
  | .pullinDeadline n => Sys2Proof.Machine.execPullinDeadline n s
  | .valveChannelFault n m => Sys2Proof.Machine.execValveChannelFault n m s
  | .valveBankFault b iHs vCom vSrc rev => Sys2Proof.Machine.execValveBankFault b iHs vCom vSrc rev s
  | .vbLow b mv => Sys2Proof.Machine.execVbLow b mv s
  | .vbAbsent b mv => Sys2Proof.Machine.execVbAbsent b mv s
  | .vbReturn b mv => Sys2Proof.Machine.execVbReturn b mv s
  | .valveClear j n present => Sys2Proof.Machine.execValveClear j n present s
  | .valveRetry j n nodl => Sys2Proof.Machine.execValveRetry j n nodl s
  | .bankClear j b present => Sys2Proof.Machine.execBankClear j b present s
  | .barrierFrame g frameOk ansOk => Sys2Proof.Machine.execBarrierFrame g frameOk ansOk s
  | .dioInputTransition n on => Sys2Proof.Machine.execDioInputTransition n on s
  | .wireBreak n => Sys2Proof.Machine.execWireBreak n s
  | .wireBreakClear n => Sys2Proof.Machine.execWireBreakClear n s
  | .dioOverload n => Sys2Proof.Machine.execDioOverload n s
  | .dioOverloadRetry n => Sys2Proof.Machine.execDioOverloadRetry n s
  | .readbackMismatch n on => Sys2Proof.Machine.execReadbackMismatch n on s
  | .parallelMismatch n on => Sys2Proof.Machine.execParallelMismatch n on s
  | .linkTimeoutPattern g => Sys2Proof.Machine.execLinkTimeoutPattern g s
  | .dioLinkLost g => Sys2Proof.Machine.execDioLinkLost g s
  | .dioLinkRetrain g ok => Sys2Proof.Machine.execDioLinkRetrain g ok s
  | .lPlusUndervoltage g => Sys2Proof.Machine.execLPlusUndervoltage g s
  | .lPlusLow g => Sys2Proof.Machine.execLPlusLow g s
  | .lPlusRecovery g => Sys2Proof.Machine.execLPlusRecovery g s
  | .fieldOvertemperature g => Sys2Proof.Machine.execFieldOvertemperature g s
  | .fieldOvertemperatureClear g => Sys2Proof.Machine.execFieldOvertemperatureClear g s
  | .dioClear j g => Sys2Proof.Machine.execDioClear j g s
  | .probeWrite j g v => Sys2Proof.Machine.execProbeWrite j g v s
  | .encoderEdge e line lvl => Sys2Proof.Machine.execEncoderEdge e line lvl s
  | .standstill e => Sys2Proof.Machine.execStandstill e s
  | .encIndex e => Sys2Proof.Machine.execIndex e s
  | .encoderLineFault e pair => Sys2Proof.Machine.execEncoderLineFault e pair s
  | .encPreset j e v => Sys2Proof.Machine.execEncPreset j e v s
  | .encClear j e present => Sys2Proof.Machine.execEncClear j e present s
  | .rebase j o => Sys2Proof.Machine.execRebase j o s
  | .ratioWrite j o v => Sys2Proof.Machine.execRatioWrite j o v s
  | .emulationEdge o => Sys2Proof.Machine.execEmulationEdge o s
  | .thermSample k x => Sys2Proof.Machine.execThermSample k x s
  | .thermStepDown z => Sys2Proof.Machine.execThermStepDown z s
  | .thermStepRelease z => Sys2Proof.Machine.execThermStepRelease z s
  | .zoneShutdownClear z => Sys2Proof.Machine.execZoneShutdownClear z s
  | .sensorBroken k cause => Sys2Proof.Machine.execSensorBroken k cause s
  | .sensorRestored k x => Sys2Proof.Machine.execSensorRestored k x s
  | .thermClear j z => Sys2Proof.Machine.execThermClear j z s
  | .shutdownBootRetry cool => Sys2Proof.Machine.execShutdownBootRetry cool s
  | .floeLinkDown p => Sys2Proof.Machine.execFloeLinkDown p s
  | .floeLinkUp p ns => Sys2Proof.Machine.execFloeLinkUp p ns s
  | .ringCycleStart => Sys2Proof.Machine.execRingCycleStart s
  | .snapshotLaunch => Sys2Proof.Machine.execSnapshotLaunch s
  | .gatherInstant df => Sys2Proof.Machine.execGatherInstant df s
  | .commandInstant => Sys2Proof.Machine.execCommandInstant s
  | .snapshotReceive h port bytes ents => Sys2Proof.Machine.execSnapshotReceive h port bytes ents s
  | .commandSectionReceive c crcOk => Sys2Proof.Machine.execCommandSectionReceive c crcOk s
  | .floeFrameForward port h hcrcOk fcsOk residence full acks => Sys2Proof.Machine.execFloeFrameForward port h hcrcOk fcsOk residence full acks s
  | .eventFrameReceive h recs => Sys2Proof.Machine.execEventFrameReceive h recs s
  | .floeBulkResend dst seq => Sys2Proof.Machine.execFloeBulkResend dst seq s
  | .linkDelayProbe p ns => Sys2Proof.Machine.execLinkDelayProbe p ns s
  | .pairAnnounce st claim same => Sys2Proof.Machine.execPairAnnounce st claim same s
  | .pairListenTimeout => Sys2Proof.Machine.execPairListenTimeout s
  | .pairPromote => Sys2Proof.Machine.execPairPromote s
  | .stateUnit c u => Sys2Proof.Machine.execStateUnit c u s
  | .stateWrite c e items session reqId => Sys2Proof.Machine.execStateWrite c e items session reqId s
  | .stateMode c e mode cause => Sys2Proof.Machine.execStateMode c e mode cause s
  | .stateValues c e vals mode o => Sys2Proof.Machine.execStateValues c e vals mode o s
  | .stateCommit c records crcOk => Sys2Proof.Machine.execStateCommit c records crcOk s
  | .stateAck d => Sys2Proof.Machine.execStateAck d s
  | .stateHandover c hs dur => Sys2Proof.Machine.execStateHandover c hs dur s
  | .writeUnconfirmed => Sys2Proof.Machine.execWriteUnconfirmed s
  | .drill j dur => Sys2Proof.Machine.execDrill j dur s
  | .drillEnd j => Sys2Proof.Machine.execDrillEnd j s
  | .drillDurationEnd => Sys2Proof.Machine.execDrillDurationEnd s
  | .epochReset j => Sys2Proof.Machine.execEpochReset j s
  | .hostLink up => Sys2Proof.Machine.execHostLink up s
  | .hostOpen d => Sys2Proof.Machine.execOpen d s
  | .provisioningOpen d => Sys2Proof.Machine.execProvisioningOpen d s
  | .hostConfirm d => Sys2Proof.Machine.execConfirm d s
  | .confirmTimeout j => Sys2Proof.Machine.execConfirmTimeout j s
  | .hostClose d => Sys2Proof.Machine.execClose d s
  | .sessionIdleTimeout j => Sys2Proof.Machine.execSessionIdleTimeout j s
  | .keepalive d => Sys2Proof.Machine.execKeepalive d s
  | .hostRead d => Sys2Proof.Machine.execRead d s
  | .hostWrite d present => Sys2Proof.Machine.execWrite d present s
  | .segmentBufferTimeout j => Sys2Proof.Machine.execSegmentBufferTimeout j s
  | .relayRequest resp node x typ reqId p present => Sys2Proof.Machine.execRelayRequest resp node x typ reqId p present s
  | .relayTimeout => Sys2Proof.Machine.execRelayTimeout s
  | .bulkQuery d => Sys2Proof.Machine.execBulkQuery d s
  | .bulkAck d => Sys2Proof.Machine.execBulkAck d s
  | .bulkResend j => Sys2Proof.Machine.execBulkResend j s
  | .bulkQueryTimeout j => Sys2Proof.Machine.execBulkQueryTimeout j s
  | .evtSub d => Sys2Proof.Machine.execEvtSub d s
  | .evtAck d => Sys2Proof.Machine.execEvtAck d s
  | .evtResend j => Sys2Proof.Machine.execEvtResend j s
  | .authInstall j k level key => Sys2Proof.Machine.execAuthInstall j k level key s
  | .authErase j k => Sys2Proof.Machine.execAuthErase j k s
  | .hostCfgApply => Sys2Proof.Machine.execHostCfgApply s
  | .wdWrite j v => Sys2Proof.Machine.execWdWrite j v s
  | .hostWatchdogLapse => Sys2Proof.Machine.execHostWatchdogLapse s
  | .modbusRequest id fc addr qty => Sys2Proof.Machine.execModbusRequest id fc addr qty s
  | .modbusIdleTimeout id => Sys2Proof.Machine.execModbusIdleTimeout id s
  | .trendSample e => Sys2Proof.Machine.execTrendSample e s
  | .vrefAoRestored mv => Sys2Proof.Machine.execVrefAoRestored mv s
  | .persistComplete => Sys2Proof.Machine.execPersistComplete s
  | .bridgeNrdyClear a => Sys2Proof.Machine.execBridgeNrdyClear a s
  | .chopPeriod n iMeas vLs full => Sys2Proof.Machine.execChopPeriod n iMeas vLs full s
  | .openOffClear n => Sys2Proof.Machine.execOpenOffClear n s
  | .modbusConnect id => Sys2Proof.Machine.execModbusConnect id s

end Sys2Proof.Machine
end

