-- ==== Sys2Proof/Machine/Step.lean ====
section
/-! DEFINITION. Machine/Step.lean: one step of the block: the command at the front of the queue, or one tick. -/

namespace Sys2Proof.Machine

open Sys2Proof

/-- One step: the command that has waited longest, carried out with the rest of the queue left waiting; with none waiting,
one tick passes (log entry 1). -/
def step (s : State) : Host.Outcome State Fault Refusal :=
  match s.pending with
  | [] => .next { s with toBlock := s.toBlock.tick }
  | c :: r => exec c { s with pending := r }

/-- The machine with the command that a word spells put at the front of its queue, as it is where the word spells none
(log entry 7). -/
def State.withFetchWord (s : State) (nbits w : Nat) : State :=
  match decodeTableWord nbits w with
  | some c => { s with pending := c :: s.pending }
  | none => s

end Sys2Proof.Machine
end

