-- ==== Sys2Proof/Safety.lean ====
section
/-! DEFINITION. Safety.lean: the terms the statements use: a well-formed queue, the canonical form of memory and registers, the
newest event record, and a command left to its own effect. -/

namespace Sys2Proof

open Sys2Proof.Machine

/-- Every bank of channels, axes, loops, lines, zones, rings and sessions has as many entries as the hardware has instances. -/
def Machine.Block.sized (s : Block) : Bool :=
  s.mram.auth.length == 4 && s.host.sess.length == 4 && s.serac.loops.length == 256 && s.serac.cls.length == 4 &&
  s.fe.ch.length == 48 && s.fe.linkAt.length == 3 && s.enc.ch.length == 8 && s.enc.emu.length == 4 && s.axis.ch.length == 12 &&
  s.tomo.ch.length == 12 && s.line.ch.length == 8 && s.therm.zn.length == 23 && s.dio.ch.length == 96 && s.dio.grp.length == 6 &&
  s.valve.ch.length == 24

/-- Every waiting command is well-formed: it names what the object space has. -/
def Machine.State.queueWf (s : State) : Prop := ∀ c ∈ s.pending, c.wf = true

/-- The key's flash, the one addressed memory of the block, is in its canonical form. -/
def Machine.Memory.wf (s : Block) : Bool := match s.key with | some k => flashWf k.flash | none => true

/-- The newest record of the event queue. -/
def Machine.Block.newest (s : Block) : Option EvRec := (s.evq.q.getLast?).map (fun r => r.ev)

/-- The newest record of the event queue has this source, severity, CODE, object and data (R91, R92). -/
def Machine.Block.reports (s : Block) (src sev code : Nat) (obj : Attr) (data : Nat) : Prop :=
  ∃ r, s.newest = some r ∧ r.src = src ∧ r.sev = sev ∧ r.code = code ∧ r.obj = oidOf obj ∧ r.data = data % 2 ^ 64

/-- A host's request as HOST.COUNT counts it before anything else looks at it. -/
def Machine.Block.counted (s : Block) : Block := s.countUp hostCount 31 0

/-- Session entry `i` may write a command attribute now (R350, R354): the host port is open, the entry's session is open, its level
suffices and the power state allows it. -/
def Machine.Block.mayWrite (s : Block) (i : Nat) (a : Attr) : Prop := s.hostUp = true ∧ s.counted.cmdGate i a false = 0

/-- The commands of the pair scope (R334): each with the attribute it writes, what it writes there, and its own check. -/
def Machine.pairScopeRows (i l k n pos m oid : Nat) (b : Bool) (tb : Table) : List (Instr × Attr × AVal × (Block → Nat)) :=
  [(.lineStart i l, lnCmd l, .num 1, lnCmdCheck 1 l 0), (.lineStop i l, lnCmd l, .num 2, lnCmdCheck 2 l 0),
   (.nextStep i l, lnCmd l, .num 3, lnCmdCheck 3 l 0),
   (.observe i l pos m, lnCmd l, .num (pack [(4, 0), (pos, 16), (m, 32)]), lnCmdCheck 4 l pos),
   (.clearCorr i l, lnCmd l, .num 5, lnCmdCheck 5 l 0), (.clearHold i l, lnCmd l, .num 6, lnCmdCheck 6 l 0),
   (.coolRun i l, lnCmd l, .num 7, lnCmdCheck 7 l 0), (.swap i n, lpBankCmd n, .num 1, fun x => (swapCheck n x).1),
   (.bankWrite i n b tb, lpBank n b, .tab tb, bankWriteCheck n b tb), (.clearPlaus i n, lpCmd n, .num 1, clearPlausCheck n),
   (.restore i k, clsCmd k, .num 1, restoreCheck k),
   (.persistCommit i, modePersistCmd, .num (persistWord 1 0), persistCheck 1 0),
   (.persistClear i, modePersistCmd, .num (persistWord 2 0), persistCheck 2 0),
   (.persistDrop i oid, modePersistCmd, .num (persistWord 3 oid), persistCheck 3 oid),
   (.modeCmdSafe i, modeCmd, .num 1, modeCheck (.sess i) 1), (.modeCmdRun i, modeCmd, .num 2, modeCheck (.sess i) 2),
   (.modeCmdHold i, modeCmd, .num 3, modeCheck (.sess i) 3), (.modeCmdFallback i, modeCmd, .num 4, modeCheck (.sess i) 4),
   (.modeCmdService i, modeCmd, .num 5, modeCheck (.sess i) 5)]

/-- The newest answer on the host port is STATUS `code` to session entry `i`. -/
def Machine.Block.answers (s : Block) (i code : Nat) : Prop := s.host.out.head? = some (.cmdResp i code)

/-- A datagram reaches the open session at entry `i` (R346): its form, its handle and its tag. -/
def Machine.Block.enters (s : Block) (typ i : Nat) (x : Sess) (d : Dgram) : Prop :=
  s.hostUp = true ∧ yhpForm d = true ∧ sessFind .opened d.session s = some (i, x) ∧
  (x.prov = true ∨ d.tag = hmac256 x.key (yhpHdr typ d ++ d.payload))

/-- A request of the open session at entry `i` is new and not too far ahead (R346, R349). -/
def Machine.Block.accepts (s : Block) (typ i : Nat) (x : Sess) (d : Dgram) : Prop :=
  s.enters typ i x d ∧ (∀ r ∈ x.resps, ¬(r.seq = d.seq ∧ r.reqId = d.reqId)) ∧ x.seqAcc < d.seq ∧ d.seq ≤ x.seqAns + 8

/-- The machine that has taken a request and not yet served it (R349). -/
def Machine.Block.taken (s : Block) (i : Nat) (x : Sess) (d : Dgram) : Block :=
  (s.setSess i { x with tagFails := 0, lastAt := s.clk.raw, seqAcc := d.seq }).countUp hostCount 31 0

/-- Nothing holds the response to a request of entry `i` back (R349). -/
def Machine.Block.prompt (s : Block) (i : Nat) (x : Sess) (d : Dgram) : Prop := x.held = [] ∧ reqWaits i d.seq s = false

/-- The newest datagram on the host port is this response to `d` in session `x`. -/
def Machine.Block.responds (s : Block) (x : Sess) (d : Dgram) (typ st : Nat) (p : List Byte) : Prop :=
  s.host.out.head? = some (.resp x.handle ⟨typ + 0x80, d.seq, d.reqId, st, p⟩)

/-- The raw time at the first tick at or after `t`, or now where that has passed. -/
def Machine.Block.rawAt (s : Block) (t : Nat) : Nat := s.clk.raw + 4 * ((t - s.clk.raw + 3) / 4)

/-- The timebase at the first tick at which it reaches or passes `t`, or now where it has (R376). -/
def Machine.Block.tbAt (s : Block) (t : Nat) : Nat := (s.advanceTb t).clk.tb

/-- The field side of group `g` notes the present tick where its fault bit is another in `t` than in `s` (R269). -/
def Machine.Block.faultBitNoted (s t : Block) (g : Nat) : Prop :=
  (t.dgrp g).chgTs = if dioFaultBit s g (s.dgrp g).mask = dioFaultBit t g (t.dgrp g).mask then (s.dgrp g).chgTs else t.clk.tb

/-- The Floe state of `s` but for the records that have left the event queue and not yet gone to the HEADs, which are `t`'s (R93). -/
def Machine.Block.eventsGone (s t : Block) : FloeDyn := { s.floe with evOut := t.floe.evOut, evNext := t.floe.evNext }

/-- What the module has sent when a record of the STATE class joins it: nothing more with DUP_ID (R312). -/
def Machine.Block.stateSent (s : Block) (m : NetMsg) : List NetMsg := if s.dupId then s.net else m :: s.net

/-- Outside the listed attributes every register reads in `t` as in `s`. -/
def Machine.Block.keepsRegs (s t : Block) (l : List Attr) : Prop := ∀ a, a ∉ l → t.get a = s.get a

end Sys2Proof
end

