-- ==== Sys2Proof/Certificates/Slice0/Obligations.lean ====
section
/-! DEFINITION. Certificates/Slice0/Obligations.lean: the statements for the provers. A command that is carried out is said to answer a
next state `t`, with what `t` holds and what it leaves as it was; the log entries named are the model's own choices, not the spec's. -/

open Sys2Proof Sys2Proof.Machine

/-- A step takes the command at the front of the queue and carries it out with the queue's rest left waiting. -/
def Obligations.StepTakesFrontCommand : Prop :=
  ∀ (c : Instr) (r : List Instr) (s : State), s.pending = c :: r → step s = exec c { s with pending := r }

/-- The idle tick, the model's own choice (log entry 1): with no command waiting, one period of CLK_SYS passes in the phases where
the clock runs, and elsewhere the RTC alone goes on; a Rime master sends a SYNC on each port that is up once in 10 ms (R318). -/
def Obligations.IdleTick : Prop :=
  ∀ s : State, s.pending = [] →
    ∃ t, step s = .next t ∧ s.keepsRegs t.toBlock [timeRtc] ∧
      (s.phase ∈ [.noImage, .active, .park, .halted] → t.clk.raw = s.clk.raw + 4 ∧ (s.clk.slew = 0 → t.clk.tb = s.clk.tb + 4)) ∧
      (s.phase ∈ [.off, .held, .pending, .deepPark] → t.clk.raw = s.clk.raw ∧ t.clk.tb = s.clk.tb) ∧
      (s.get timeRtc ≠ 0 → t.get timeRtc = (s.get timeRtc + (s.clk.rtcSub + 4) / nsPerS) % 2 ^ 64 ∧
        t.clk.rtcSub = (s.clk.rtcSub + 4) % nsPerS) ∧
      t = { s with regs := t.regs, clk := t.clk, floe := t.floe, net := t.net } ∧
      (s.phase ≠ .active ∨ s.bit rmStat 2 = false ∨ t.clk.tb / syncPeriod = s.floe.syncAt → t.floe = s.floe ∧ t.net = s.net) ∧
      (s.phase = .active → s.bit rmStat 2 = true → t.clk.tb / syncPeriod ≠ s.floe.syncAt →
        t.floe = { s.floe with syncAt := t.clk.tb / syncPeriod } ∧
        ∀ p < 3, s.bit (rmPort p) 2 = true → s.bit rmCfg p = true →
          .rime ((rmSlot s.toBlock + p + 1) % 4) (rimeBytes 4 (rmSlot s.toBlock) ((rmSlot s.toBlock + p + 1) % 4) 0 t.clk.tb
            (timeBytes s.img.node (pairOwn s.toBlock) t.clk.tb 0)) ∈ t.net)

/-- Progress and preservation: from every state a step answers a next state, whose waiting commands are the old ones but the first;
where they named what the object space has, they do so again. -/
def Obligations.StepAnswersAndKeepsQueue : Prop :=
  ∀ s : State, ∃ t, step s = .next t ∧ t.pending = s.pending.drop 1 ∧ (s.queueWf → t.queueWf)

/-- Every command completes in every state: it answers a next state, and no command touches the queue of those that wait. -/
def Obligations.ExecLeavesQueue : Prop :=
  ∀ (c : Instr) (s : State), ∃ t, exec c s = .next t ∧ t.pending = s.pending

/-- The machine as shipped: no supply, no key, every object at its value after reset, no table, no event, no session, and the
registers, the key's flash and the queue in their canonical form. What the spec leaves open here is the model's choice (log
entries 2, 3 and 8). -/
def Obligations.ResetState : Prop :=
  State.reset.phase = .off ∧ State.reset.key = none ∧ (∀ a, State.reset.get a = dfltOf a) ∧ (∀ a, State.reset.tab a = none) ∧
  State.reset.evq.q = [] ∧ (∀ x ∈ State.reset.host.sess, x.st = .free) ∧ State.reset.host.sess.length = 4 ∧
  regsWf State.reset.regs = true ∧ Memory.wf State.reset.toBlock = true ∧ State.reset.queueWf

/-- An object ID names its attribute and the attribute its object ID (R10): block in bits 31 to 24, instance in bits 23 to 12,
attribute in bits 11 to 0. -/
def Obligations.ObjectIdsRoundTrip : Prop :=
  (∀ oid, oid < 2 ^ 32 → oidOf (attrOf oid) = oid ∧ (attrOf oid).blk = oid / 2 ^ 24 ∧
    (attrOf oid).kind * 256 + (attrOf oid).idx = oid / 2 ^ 12 % 2 ^ 12 ∧ (attrOf oid).att = oid % 2 ^ 12) ∧
  (∀ a : Attr, a.blk < 256 → a.kind < 16 → a.idx < 256 → a.att < 4096 → attrOf (oidOf a) = a)

/-- POR, POWER_FAIL_DETECT, POWER_FAIL_CLEAR and US_RETURN (R26, R29, R30, R380): when the supply has risen the reset is
released; a falling US sets PF_ACTIVE, counts, and writes the power-fail record; its return feeds the held node; and when it has
stood again the power fail is cleared and the record voided. VBOOST_READY, VBOOST_FAULT, VBOOST_RESTART, ESUP_OVERCURRENT, VREF_AO_FAULT and VREF_AO_RESTORED (R26, R28, R40, R118). -/
def Obligations.SupplyEvents : Prop :=
  ((∀ (s : State) (bpos mv : Nat), s.phase = .off → 9000 < mv → mv < 65536 → bpos < 4 →
    ∃ t, exec (.por bpos mv) s = .next t ∧ t.phase = (if s.supply.rstLow then .held else .pending) ∧ t.fget devSupply 3 0 = 1 ∧
      t.fget devSupply 9 8 = (if s.rst.kind = .por then bpos else s.fget devSupply 9 8) ∧
      t.get devUsMv = mv ∧ t.get devHoldMv = mv ∧
      t = { s with regs := t.regs, phase := t.phase, supply := t.supply } ∧
      s.keepsRegs t.toBlock [devSupply, devUsMv, devHoldMv]) ∧
  (∀ (s : State) (mv : Nat), s.phase ∈ [.active, .pending, .park, .noImage, .halted] → s.bit devSupply 1 = false → mv < 8500 →
    ∃ t, exec (.powerFailDetect mv) s = .next t ∧ t.bit devSupply 1 = true ∧ t.bit devSupply 0 = false ∧
      t.get devPfLast = s.clk.tb % 2 ^ 64 ∧ t.get devPfCount = satInc 32 (s.get devPfCount % 2 ^ 32) ∧
      pfValid t.mram.pfRec = true ∧ leAt t.mram.pfRec 0 8 = s.clk.tb % 2 ^ 64 ∧ leAt t.mram.pfRec 8 2 = s.img.node % 2 ^ 16 ∧
      leAt t.mram.pfRec 10 1 = s.modeNo ∧ leAt t.mram.pfRec 11 1 = s.role % 2 ^ 8 ∧
      leAt t.mram.pfRec 12 4 = (s.mram.pfSeq + 1) % 2 ^ 32 ∧ leAt t.mram.pfRec 24 32 = s.img.hash % 2 ^ 256 ∧ t.reports 0x04 sevWarn 0 dev0 (t.get devPfCount) ∧
      t = { s with regs := t.regs, mram := t.mram, supply := t.supply, evq := t.evq, firn := t.firn } ∧
      s.keepsRegs t.toBlock [devSupply, devUsMv, devPfLast, devPfCount, firnPart, evtLost]) ∧
  (∀ (s : State) (mv : Nat), s.phase ∈ [.active, .pending, .park, .noImage, .halted] → s.bit devSupply 1 = true → 9000 < mv →
    mv < 65536 →
    ∃ t, exec (.powerFailClear mv) s = .next t ∧ t.bit devSupply 1 = false ∧ t.bit devSupply 0 = true ∧
      t.get devUsMv = mv ∧ t.supply.usFed = true ∧ t.mram.pfRec = pfVoided s.mram.pfRec ∧ pfValid t.mram.pfRec = false ∧ t.valve.acc = boostCap ∧
      t.reports 0x05 sevInfo 0 dev0 0 ∧
      t = { s with regs := t.regs, mram := t.mram, supply := t.supply, evq := t.evq, valve := t.valve } ∧
      s.keepsRegs t.toBlock [devSupply, devUsMv, devHoldMv, evtLost]) ∧
  (∀ (s : State) (mv : Nat), s.phase ∈ [.active, .pending, .park, .noImage, .halted] → s.bit devSupply 1 = true → 5500 < mv →
    (s.supply.usFed = false ∨ s.get devHoldMv < mv) → mv < 65536 →
    ∃ t, exec (.usReturn mv) s = .next t ∧ t.supply.usFed = true ∧ t.bit devSupply 0 = decide (8500 ≤ mv) ∧
      t.bit devSupply 1 = true ∧ t.get devUsMv = mv ∧ t.get devHoldMv = mv ∧
      t = { s with regs := t.regs, supply := t.supply } ∧ s.keepsRegs t.toBlock [devSupply, devUsMv, devHoldMv])) ∧
  ((∀ (s : State) (mv : Nat), s.phase ≠ .off → s.phase ≠ .deepPark → s.bit devSupply 1 = false → s.bit devSupply 3 = false →
    s.supply.vbLatched = false → 42000 ≤ mv → mv ≤ 54000 →
    ∃ t, exec (.vboostReady mv) s = .next t ∧ t.bit devSupply 2 = true ∧ t.get devVboostMv = mv ∧
      t.valve = { s.valve with boostW := false } ∧ (s.valve.boostW = true → t.reports 0xC8 sevInfo 0 (bnkObj 0) 0) ∧
      (s.valve.boostW = false → t.evq = s.evq) ∧ t = { s with regs := t.regs, valve := t.valve, evq := t.evq } ∧
      s.keepsRegs t.toBlock [devSupply, devVboostMv, evtLost]) ∧
  (∀ (s : State) (mv : Nat), s.phase ∈ [.active, .pending, .park, .noImage, .halted] → s.bit devSupply 1 = false → s.bit devSupply 3 = false →
    (mv < 42000 ∨ 54000 < mv) → mv < 65536 →
    ∃ t, exec (.vboostFault mv) s = .next t ∧ t.bit devSupply 2 = false ∧ t.bit devSupply 3 = true ∧ t.get devVboostMv = mv ∧
      t.supply.vbFailAt = some s.clk.raw ∧
      (t.supply.vbLatched = true ↔ ∃ f, s.supply.vbFailAt = some f ∧ s.clk.raw < f + 60 * nsPerS) ∧
      (t.supply.vbLatched = false → t.supply.vbRestartAt = some (s.clk.raw + nsPerS)) ∧
      t.reports 0x06 sevFault 0 dev0 (mv + (if t.supply.vbLatched then 65536 else 0)) ∧
      t = { s with regs := t.regs, supply := t.supply, evq := t.evq } ∧ s.keepsRegs t.toBlock [devSupply, devVboostMv, evtLost]) ∧
  (∀ (s : State) (at' : Nat), s.supply.vbRestartAt = some at' →
    ∃ t, exec .vboostRestart s = .next t ∧ t.bit devSupply 3 = false ∧ t.supply.vbRestartAt = none ∧
      t.clk.raw = s.rawAt at' ∧ t = { s with regs := t.regs, supply := t.supply, clk := t.clk } ∧
      s.keepsRegs t.toBlock [devSupply, timeRtc]) ∧
  (∀ (s : State) (e : Nat), e < 8 → s.phase ∈ [.active, .pending, .park, .noImage, .halted] → s.bit devSupply (24 + e) = true →
    ∃ t, exec (.esupOvercurrent e) s = .next t ∧ t.bit devSupply (16 + e) = true ∧ t.bit devSupply (24 + e) = false ∧
      t.reports 0x07 sevFault 0 dev0 e ∧ t = { s with regs := t.regs, evq := t.evq } ∧
      s.keepsRegs t.toBlock [devSupply, evtLost]) ∧
  (∀ (s : State) (mv : Nat), s.phase ∈ [.active, .pending, .park, .noImage, .halted] → s.bit devSupply 4 = true → (mv < 900 ∨ 11000 < mv) →
    mv < 65536 →
    ∃ t, exec (.vrefAoFault mv) s = .next t ∧ t.bit devSupply 4 = false ∧ t.get devVrefMv = mv ∧
      (∀ k, k < 8 → s.bit (aoCfg k) 8 = true → t.bit (aoStat k) 16 = true ∧ t.bit (aoStat k) 17 = true) ∧
      t.reports 0x08 sevFault 0 dev0 mv ∧ t = { s with regs := t.regs, evq := t.evq } ∧
      s.keepsRegs t.toBlock ([devSupply, devVrefMv, evtLost] ++ (List.range 8).map aoStat)) ∧
  (∀ (s : State) (mv : Nat), s.phase ∈ [.active, .pending, .park, .noImage, .halted] → s.bit devSupply 4 = false → 900 ≤ mv → mv ≤ 11000 →
    ∃ t, exec (.vrefAoRestored mv) s = .next t ∧ t.bit devSupply 4 = true ∧ t.get devVrefMv = mv ∧
      (∀ k, k < 8 → k ∈ s.fe.aoOn → t.bit (aoStat k) 16 = s.fe.aoInv.contains k ∧ t.bit (aoStat k) 17 = false) ∧
      (∀ k, k < 8 → k ∉ s.fe.aoOn → t.bit (aoStat k) 17 = true) ∧
      t = { s with regs := t.regs } ∧ s.keepsRegs t.toBlock ([devSupply, devVrefMv] ++ (List.range 8).map aoStat))) ∧
  (∀ (s : State) (mv : Nat), s.phase ∈ [.active, .pending, .park, .noImage, .halted] → s.bit devSupply 1 = true → mv < 8500 →
    ∃ t, exec (.powerFailDetect mv) s = .next t ∧ t.supply.usFed = false ∧ t.bit devSupply 0 = false ∧ t.bit devSupply 1 = true ∧
      t.get devUsMv = mv ∧ t = { s with regs := t.regs, supply := t.supply } ∧ s.keepsRegs t.toBlock [devSupply, devUsMv])

/-- BOR, CONVERTER_FLOOR, EXT_RESET and WDR (R29, R33, R71, R76, R77, R81, R90): the phase and the kind of the reset, the
FALLBACK latch, the power-fail record and the MRAM registers kept, every object that is not kept at its value after reset, and
the RTC's time lost only at the converter's floor. -/
def Obligations.ResetsKeepWhatTheyKeep : Prop :=
  (∀ s : State, s.phase ≠ .off →
    ∃ t, exec .bor s = .next t ∧ t.phase = .off ∧ t.rst.kind = .bor ∧ t.get timeRtc = s.get timeRtc % 2 ^ 64 ∧
      t.supply = { supplyInit with rstLow := s.supply.rstLow } ∧ t.mram.pfRec = s.mram.pfRec ∧ t.bit modeState 8 = s.bit modeState 8 ∧
      t.modeNo = 0 ∧ (∀ a ∈ keptRegs, t.get a = s.get a % 2 ^ widthOf a) ∧
      Block.reset.keepsRegs t.toBlock (keptRegs ++ [modeState, devSupply, timeRtc])) ∧
  (∀ s : State,
    ∃ t, exec .converterFloor s = .next t ∧ t.phase = .off ∧ t.rst.kind = .por ∧ t.get timeRtc = 0 ∧
      t.supply = { supplyInit with rstLow := s.supply.rstLow } ∧ t.mram.pfRec = s.mram.pfRec ∧ t.bit modeState 8 = s.bit modeState 8 ∧ t.modeNo = 0 ∧
      (∀ a ∈ keptRegs, t.get a = s.get a % 2 ^ widthOf a) ∧
      Block.reset.keepsRegs t.toBlock (keptRegs ++ [modeState, devSupply, timeRtc])) ∧
  (∀ s : State, s.phase ≠ .off → s.phase ≠ .held →
    ∃ t, exec (.extReset true) s = .next t ∧ t.phase = .held ∧ t.rst.kind = .ext ∧ t.supply.rstLow = true ∧ t.mram.pfRec = s.mram.pfRec ∧
      t.bit modeState 8 = s.bit modeState 8 ∧ t.modeNo = 0 ∧ (∀ a ∈ keptRegs, t.get a = s.get a % 2 ^ widthOf a) ∧
      Block.reset.keepsRegs t.toBlock (keptRegs ++ [modeState, devSupply, timeRtc])) ∧
  (∀ s : State, s.phase = .held →
    exec (.extReset false) s = .next { s with phase := .pending, supply := { s.supply with rstLow := false } }) ∧
  (∀ (s : State) (fw : Nat), s.phase ∈ [.pending, .noImage, .active, .park] →
    ∃ t, exec (.wdr fw) s = .next t ∧ t.phase = .pending ∧ t.rst.kind = .wdr ∧ t.rst.wdCheck = fw % 2 ^ 32 ∧
      t.mram.pfRec = s.mram.pfRec ∧ t.bit modeState 8 = s.bit modeState 8 ∧ t.modeNo = 0 ∧
      (∀ a ∈ keptRegs, t.get a = s.get a % 2 ^ widthOf a) ∧
      Block.reset.keepsRegs t.toBlock (keptRegs ++ [modeState, devSupply, timeRtc])) ∧
  (∀ s : State, s.phase = .off →
    exec (.extReset true) s = .next { s with supply := { s.supply with rstLow := true } })

/-- WAKE, KEYSW_CHANGE and HOST_LINK (R32, R34, R75, R76, R344, R348): the levels shown; a rising WAKE ends a park state; a
released KEYSW closes the provisioning sessions. -/
def Obligations.ControlInputs : Prop :=
  (∀ (s : State) (l : Bool), (s.phase ≠ .park ∧ s.phase ≠ .deepPark) ∨ l = false ∨ s.bit devSupply 6 = true →
    exec (.wake l) s = .next { s with toBlock := s.putBit devSupply 6 l }) ∧
  (∀ s : State, s.phase = .park → s.bit devSupply 6 = false →
    exec (.wake true) s = .next { s with toBlock := unpark 2 (s.putBit devSupply 6 true) }) ∧
  (∀ s : State, s.phase = .deepPark → s.bit devSupply 6 = false →
    ∃ t, exec (.wake true) s = .next t ∧ t.phase = .pending ∧ t.rst.kind = .por ∧ t.rst.fromDeep = 2 ∧ t.firn.replay = false) ∧
  (∀ s : State, exec (.keyswChange true) s = .next { s with toBlock := s.putBit devSupply 5 true }) ∧
  (∀ s : State, s.host.sess.length ≤ 4 →
    ∃ t, exec (.keyswChange false) s = .next t ∧ t.bit devSupply 5 = false ∧ (∀ x ∈ t.host.sess, x.prov = false)) ∧
  (∀ (s : State) (up : Bool), s.hostUp = true → s.bit hostStat 2 ≠ up →
    ∃ t, exec (.hostLink up) s = .next t ∧ t.bit hostStat 2 = up ∧
      t.reports 0x2B (if up then sevInfo else sevWarn) 0 host0 0 ∧ t = { s with regs := t.regs, evq := t.evq } ∧
      s.keepsRegs t.toBlock [hostStat, evtLost])

/-- BOOT_SEQUENCE and SHUTDOWN_BOOT_RETRY (R42, R53, R57, R64, R72, R297): a boot that applies an image ends active, in SAFE, RUN or
FALLBACK; one that finds no key rejects both slots with 0x060C and stays in BOOT with the host port open; and while a module
shutdown's record is unreported the boot waits for cool sensors. -/
def Obligations.BootEnds : Prop :=
  (∀ (s : State) (b : BootIn) (k : KeyDev) (x : Block) (slot took : Nat), s.phase = .pending → s.rst.sdWait = 0 →
    (s.mram.sdNew = none ∨ b.sdCool = true) → (b.tcxoOk = true ∨ b.refin = true) → (bootStart b s.toBlock).key = some k →
    keyOk k = true → bootTry k (bootBase s.toBlock) (bootStart b s.toBlock) = (x, some slot, took) →
    ∃ t, exec (.bootSequence b) s = .next t ∧ t.phase = .active ∧ t.modeNo ∈ [1, 2, 4]) ∧
  (∀ (s : State) (b : BootIn), s.phase = .pending → s.rst.sdWait = 0 → (s.mram.sdNew = none ∨ b.sdCool = true) →
    (b.tcxoOk = true ∨ b.refin = true) → b.key = .absent →
    ∃ t, exec (.bootSequence b) s = .next t ∧ t.phase = .noImage ∧ t.hostUp = true ∧ t.key = none ∧
      t.fget (imgSlot 0) 95 80 = 0x060C ∧ t.fget (imgSlot 1) 95 80 = 0x060C) ∧
  (∀ (s : State) (b : BootIn) (at' : Nat × Bool), s.phase = .pending → s.rst.sdWait = 0 → s.mram.sdNew = some at' → b.sdCool = false →
    ∃ t, exec (.bootSequence b) s = .next t ∧ t = { s with rst := t.rst } ∧ t.rst.sdWait ≠ 0 ∧ t.rst.kind = s.rst.kind) ∧
  (∀ (s : State) (cool : Bool), s.phase = .pending → s.rst.sdWait ≠ 0 →
    ∃ t, exec (.shutdownBootRetry cool) s = .next t ∧ t.clk.raw = s.rawAt (s.rst.sdWait + 10 * nsPerS) ∧
      (t.rst.sdWait = 0 ↔ cool = true) ∧ t = { s with regs := t.regs, clk := t.clk, rst := t.rst } ∧
      s.keepsRegs t.toBlock [timeRtc])

/-- FIRN_READY, BACKGROUND_SLOT_CHECK, EVENT_FIRN_COMMIT, EVT_LOST and TREND_SAMPLE (R56, R67, R93, R94, R358). -/
def Obligations.FirnAndEventQueue : Prop :=
  (∀ s : State, s.phase = .active → s.bit firnStat 0 = false → s.bit firnStat 1 = false →
    ∃ t, exec .firnReady s = .next t ∧ t.bit firnStat 0 = true ∧ t.bit firnStat 2 = s.firn.replay ∧ t.bit modeReady 10 = true ∧
      t = { s with regs := t.regs } ∧ s.keepsRegs t.toBlock [firnStat, modeReady]) ∧
  (∀ (s : State) (k : KeyDev), s.keyDev = some k → s.phase = .active → s.bit imgStatus 2 = true → s.modeNo ≠ 0 →
    (slotMark k (1 - s.fget imgStatus 1 1)).1 ∈ [0, 2] →
    ∃ t, exec .backgroundSlotCheck s = .next t ∧ t.bit (imgSlot (1 - s.fget imgStatus 1 1)) 34 = true ∧
      t.bit (imgSlot (1 - s.fget imgStatus 1 1)) 35 = dryGood s.toBlock k (1 - s.fget imgStatus 1 1) ∧
      t = { s with regs := t.regs } ∧ s.keepsRegs t.toBlock [imgSlot (1 - s.fget imgStatus 1 1)]) ∧
  (∀ (s : State) (r : QRec), s.bit firnStat 0 = true → s.evq.q.find? (fun r => !r.firn) = some r →
    (∀ x ∈ s.host.sess, x.stream = none) →
    ∃ t, exec .eventFirnCommit s = .next t ∧
      t.firn.events.getLast? = some ⟨r.ev.ts, 0xFFFF, evBytes r.ev⟩ ∧ (∀ x ∈ t.evq.q, x.num = r.num → x.firn = true) ∧
      t = { s with regs := t.regs, evq := t.evq, ringq := t.ringq, firn := t.firn, floe := s.eventsGone t.toBlock } ∧
      s.keepsRegs t.toBlock [firnPart, evtLost]) ∧
  (∀ s : State, s.evq.lostCnt ≠ 0 → s.evq.q.length < 3072 →
    ∃ t, exec .evtLost s = .next t ∧ t.evq.lostCnt = 0 ∧ t.evq.lostTs = 0 ∧
      t.reports 0x0F sevWarn 0 evt0 (pack [(s.evq.lostCnt % 2 ^ 32, 0), (s.evq.lostTs % 2 ^ 32, 32)]) ∧
      t = { s with evq := t.evq }) ∧
  (∀ (s : State) (e : Nat), e < 512 → s.phase = .active → bitAt (trendEntry s.toBlock e) 63 = true →
    fld (trendEntry s.toBlock e) 53 48 ≠ 0 → (∀ x ∈ s.firn.accs, x.entry ≠ e) →
    ∃ t a, exec (.trendSample e) s = .next t ∧
      t.clk.tb = s.tbAt (nextMultiple (fld (trendEntry s.toBlock e) 53 48 * nsPerS) s.clk.tb) ∧
      t.firn.accs = s.firn.accs ++ [a] ∧ a.entry = e ∧
      a.ts = nextMultiple (fld (trendEntry s.toBlock e) 53 48 * nsPerS) s.clk.tb ∧ a.vals.length = 1 ∧
      t = { s with regs := t.regs, clk := t.clk, firn := t.firn } ∧ s.keepsRegs t.toBlock [timeRtc])

/-- STAGE_OPEN, STAGE_DATA, STAGE_CLOSE and STAGE_ABORT (R58 to R61), from the session that opened staging, under the conditions
of the *Staging sequence*: the slot and length taken, the chunk programmed at its offset, the read-back begun, the staging ended FAILED with 0x25; a repeated
chunk is acknowledged without a write. STAGE_MARK_ERASED, STAGE_ERASE_DONE, STAGE_VERIFY_DONE, STAGE_COMMIT, STAGE_LAPSE and STAGE_KEY_FAIL (R43, R56, R58 to R61). -/
def Obligations.Staging : Prop :=
  ((∀ (s : State) (i slot len : Nat) (k : KeyDev), s.mayWrite i imgStageCtrl → s.phase ∈ [.active, .noImage] → s.keyDev = some k →
    slot < 2 → (s.bit imgStatus 2 = false ∨ slot ≠ s.fget imgStatus 1 1) →
    (s.bit imgStatus 2 = true ∨ s.img.tried.length ≠ 1 ∨ slot ∈ s.img.tried) → s.staging = false →
    max (slotMark k 0).2 (slotMark k 1).2 ≠ 0xFFFFFFFE → len % 4 = 0 → 144 ≤ len → len ≤ keyMax k →
    ∃ t, exec (.stageOpen i slot len) s = .next t ∧ t.answers i 0 ∧ t.fget imgStage 2 0 = 1 ∧ t.fget imgStage 3 3 = slot ∧
      t.stage.owner = some i ∧ t.stage.imgLen = len ∧ t.stage.erased = false ∧ t.key = s.key ∧
      t = { s with regs := t.regs, stage := t.stage, host := t.host, evq := t.evq } ∧
      s.keepsRegs t.toBlock [imgStage, hostCount, evtLost]) ∧
  (∀ (s : State) (i off : Nat) (d : List Byte) (k : KeyDev), s.mayWrite i imgStageData → s.phase ∈ [.active, .noImage] →
    s.key = some k → stageState s.toBlock = 2 → s.stage.owner = some i → 1 ≤ d.length → d.length ≤ 1024 →
    off = s.fget imgStage 63 32 → off + d.length ≤ s.stage.imgLen → s.stage.imgLen < 2 ^ 32 →
    ∃ t, exec (.stageData i off d) s = .next t ∧ t.answers i 0 ∧ t.fget imgStage 63 32 = off + d.length ∧
      t.key = some { k with flash := flashProg k.flash (keyBase k (stageSlot s.toBlock) + off) d } ∧ t.stage.lastAt = s.clk.raw ∧
      t = { s with regs := t.regs, stage := t.stage, host := t.host, evq := t.evq, key := t.key } ∧
      s.keepsRegs t.toBlock [imgStage, hostCount, evtLost]) ∧
  (∀ (s : State) (i off : Nat) (d : List Byte) (k : KeyDev), s.mayWrite i imgStageData → s.phase ∈ [.active, .noImage] →
    s.keyDev = some k → stageState s.toBlock = 2 → s.stage.owner = some i → 1 ≤ d.length → d.length ≤ 1024 →
    off + d.length ≤ s.fget imgStage 63 32 → flashRead k.flash (keyBase k (stageSlot s.toBlock) + off) d.length = d →
    ∃ t, exec (.stageData i off d) s = .next t ∧ t.answers i 0 ∧ t.key = s.key ∧ t.stage.lastAt = s.clk.raw ∧
      s.keepsRegs t.toBlock [hostCount, evtLost]) ∧
  (∀ (s : State) (i : Nat), s.mayWrite i imgStageCtrl → s.phase ∈ [.active, .noImage] → stageState s.toBlock = 2 →
    s.stage.owner = some i → s.fget imgStage 63 32 = s.stage.imgLen →
    ∃ t, exec (.stageClose i) s = .next t ∧ t.answers i 0 ∧ t.fget imgStage 2 0 = 3 ∧ t.stage.verified = false ∧ t.key = s.key ∧
      t = { s with regs := t.regs, stage := t.stage, host := t.host, evq := t.evq } ∧
      s.keepsRegs t.toBlock [imgStage, hostCount, evtLost]) ∧
  (∀ (s : State) (i : Nat), s.mayWrite i imgStageCtrl → s.phase ∈ [.active, .noImage] → stageState s.toBlock ∈ [1, 2, 3] →
    s.stage.owner = some i →
    ∃ t, exec (.stageAbort i) s = .next t ∧ t.answers i 0 ∧ t.fget imgStage 2 0 = 5 ∧ t.fget imgStage 31 16 = 0 ∧
      t.stage.owner = none ∧ t.key = s.key ∧
      t = { s with regs := t.regs, stage := t.stage, host := t.host, evq := t.evq } ∧
      s.keepsRegs t.toBlock [imgStage, imgSlot 0, imgSlot 1, imgStatus, hostCount, evtLost])) ∧
  ((∀ (s : State) (k : KeyDev), s.key = some k → s.phase ∈ [.active, .noImage] → stageState s.toBlock = 1 → s.stage.erased = false →
    ∃ t, exec .stageMarkErased s = .next t ∧ t.stage.erased = true ∧
      t.key = some { k with
        flash := flashProg (flashErase k.flash (keyMark k (stageSlot s.toBlock)) 4096) (keyMark k (stageSlot s.toBlock))
          openPattern } ∧
      t = { s with regs := t.regs, stage := t.stage, key := t.key } ∧
      s.keepsRegs t.toBlock [imgSlot 0, imgSlot 1, imgStatus]) ∧
  (∀ (s : State) (k : KeyDev), s.key = some k → s.phase ∈ [.active, .noImage] → stageState s.toBlock = 1 → s.stage.erased = true →
    ∃ t, exec .stageEraseDone s = .next t ∧ stageState t.toBlock = 2 ∧ t.fget imgStage 63 32 = 0 ∧
      t.key = some { k with flash := flashErase k.flash (keyBase k (stageSlot s.toBlock)) (stageEraseLen k s.stage.imgLen) } ∧
      t = { s with regs := t.regs, stage := t.stage, key := t.key } ∧
      s.keepsRegs t.toBlock [imgStage, imgSlot 0, imgSlot 1, imgStatus]) ∧
  (∀ (s : State) (k : KeyDev) (strict : Bool) (l : List RecErr), s.key = some k → s.phase ∈ [.active, .noImage] → stageState s.toBlock = 3 →
    s.stage.verified = false → dryRun s.toBlock k (stageSlot s.toBlock) = .ok (strict, l) → (strict = false ∨ l = []) →
    ∃ t, exec .stageVerifyDone s = .next t ∧ t.stage.verified = true ∧ t.stage.recErrs = l.length ∧
      t = { s with stage := t.stage }) ∧
  (∀ (s : State) (k : KeyDev) (e : Nat), s.key = some k → s.phase ∈ [.active, .noImage] → stageState s.toBlock = 3 → s.stage.verified = false →
    dryRun s.toBlock k (stageSlot s.toBlock) = .error e → e < 2 ^ 16 →
    ∃ t, exec .stageVerifyDone s = .next t ∧ stageState t.toBlock = 5 ∧ t.fget imgStage 31 16 = e ∧ t.stage.owner = none ∧
      t.key = s.key) ∧
  (∀ (s : State) (k : KeyDev), s.key = some k → s.phase ∈ [.active, .noImage] → stageState s.toBlock = 3 → s.stage.verified = true →
    ∃ t, exec .stageCommit s = .next t ∧ stageState t.toBlock = 4 ∧ t.stage.owner = none ∧ t.stage.verified = false ∧
      t.reports 0x24 sevInfo 0 img0 (pack [(max (slotMark k 0).2 (slotMark k 1).2 + 1, 0), (stageSlot s.toBlock, 32),
        (satU 16 s.stage.recErrs, 48)]) ∧
      t.key = some { k with
        flash := flashProg k.flash (keyMark k (stageSlot s.toBlock) + 256)
          (commitRec (max (slotMark k 0).2 (slotMark k 1).2 + 1) (slotHdr k (stageSlot s.toBlock))) } ∧
      t = { s with regs := t.regs, stage := t.stage, key := t.key, evq := t.evq } ∧
      s.keepsRegs t.toBlock [imgStage, imgSlot 0, imgSlot 1, imgStatus, evtLost]) ∧
  (∀ s : State, s.phase ∈ [.active, .noImage] → stageState s.toBlock = 2 →
    ∃ t, exec .stageLapse s = .next t ∧ stageState t.toBlock = 5 ∧ t.fget imgStage 31 16 = 0x0306 ∧ t.stage.owner = none ∧
      t.clk.raw = s.rawAt (s.stage.lastAt + 60 * nsPerS) ∧
      t.reports 0x25 sevWarn 0 img0 (pack [(0x0306, 0), (stageSlot s.toBlock, 16)]) ∧ t.key = s.key) ∧
  (∀ (s : State) (removed : Bool), s.phase ∈ [.active, .noImage] → stageState s.toBlock ∈ [1, 2, 3] →
    ∃ t, exec (.stageKeyFail removed) s = .next t ∧ stageState t.toBlock = 5 ∧ t.fget imgStage 31 16 = 0x060C ∧
      t.stage.owner = none ∧ t.key = (if removed then none else s.key) ∧
      t.reports 0x25 sevWarn 0 img0 (pack [(0x060C, 0), (stageSlot s.toBlock, 16)]))) ∧
  (∀ (s : State) (c : Instr), s.phase ∉ [.active, .noImage] →
    c ∈ [.stageMarkErased, .stageEraseDone, .stageVerifyDone, .stageCommit, .stageLapse] → exec c s = .next s)

/-- KEY_INSTALL, KEY_REVOKE, SVN_RAISE, AUTH_INSTALL and AUTH_ERASE (R62, R350). -/
def Obligations.KeyCommands : Prop :=
  (∀ (s : State) (i k key : Nat), k < 4 → key < 2 ^ 256 → s.mayWrite i imgKeyCmd →
    keyCmdCheck (pack [(1, 0), (k, 8), (key, 64)]) s.counted = 0 →
    ∃ t, exec (.keyInstall i k key) s = .next t ∧ t.answers i 0 ∧ t.fget (imgKey k) 1 0 = 1 ∧
      t.fget (imgKey k) 263 8 = key ∧ t = { s with regs := t.regs, host := t.host, evq := t.evq } ∧
      s.keepsRegs t.toBlock [imgKey k, hostCount, evtLost]) ∧
  (∀ (s : State) (i k : Nat), k < 4 → s.mayWrite i imgKeyCmd → keyCmdCheck (pack [(2, 0), (k, 8)]) s.counted = 0 →
    ∃ t, exec (.keyRevoke i k) s = .next t ∧ t.answers i 0 ∧ t.fget (imgKey k) 1 0 = 2 ∧
      t.fget (imgKey k) 263 8 = s.fget (imgKey k) 263 8 ∧ t = { s with regs := t.regs, host := t.host, evq := t.evq } ∧
      s.keepsRegs t.toBlock [imgKey k, hostCount, evtLost]) ∧
  (∀ (s : State) (i : Nat), s.mayWrite i imgKeyCmd → keyCmdCheck 3 s.counted = 0 →
    ∃ t, exec (.svnRaise i) s = .next t ∧ t.answers i 0 ∧ t.get imgSvnFloor = s.img.svn % 2 ^ 16 ∧
      t = { s with regs := t.regs, host := t.host, evq := t.evq } ∧ s.keepsRegs t.toBlock [imgSvnFloor, hostCount, evtLost]) ∧
  (∀ (s : State) (i k level key : Nat), k < 4 → level ≤ 2 → key < 2 ^ 256 → s.mayWrite i hostAuthCmd → s.mram.auth.length = 4 →
    authCheck (.sess i) (pack [(1, 0), (k, 8), (level, 10), (key, 64)]) s.counted = 0 →
    ∃ t, exec (.authInstall i k level key) s = .next t ∧ t.answers i 0 ∧ t.bit (hostAuth k) 0 = true ∧
      t.fget (hostAuth k) 2 1 = level ∧ t.mram.auth[k]? = some (leBytes 32 key) ∧
      t = { s with regs := t.regs, host := t.host, evq := t.evq, mram := t.mram } ∧
      s.keepsRegs t.toBlock [hostAuth k, hostCount, evtLost]) ∧
  (∀ (s : State) (i k : Nat), k < 4 → s.mayWrite i hostAuthCmd → s.mram.auth.length = 4 →
    authCheck (.sess i) (pack [(2, 0), (k, 8)]) s.counted = 0 → s.host.sess.length = 4 →
    ∃ t, exec (.authErase i k) s = .next t ∧ t.answers i 0 ∧ t.get (hostAuth k) = 0 ∧ t.mram.auth[k]? = some [] ∧
      (∀ x ∈ t.host.sess, x.st = .free ∨ x.prov = true ∨ x.slot ≠ k))

/-- MODE_CMD_SAFE, MODE_CMD_RUN, MODE_CMD_HOLD, MODE_CMD_FALLBACK, MODE_CMD_SERVICE, MODE_CMD_PARK and MODE_CMD_DEEP_PARK (R69,
R73, R74): an accepted command is answered with STATUS 0 and waits for its boundary; nothing else changes. At a head the first five are of
the pair scope (`PairScopeCommandWaits`). -/
def Obligations.ModeCommandsWait : Prop :=
  ∀ (s : State) (i op : Nat) (c : Instr),
    (c, op) ∈ [(Instr.modeCmdSafe i, 1), (.modeCmdRun i, 2), (.modeCmdHold i, 3), (.modeCmdFallback i, 4), (.modeCmdService i, 5),
      (.modeCmdPark i, 6), (.modeCmdDeepPark i, 7)] →
    (s.role ≠ 2 ∨ 6 ≤ op) → s.mayWrite i modeCmd → modeCheck (.sess i) op s.counted = 0 →
    ∃ t, exec c s = .next t ∧ t.answers i 0 ∧ t.mode.cmd = some (op, i) ∧ (t.mode.fbCmd = true ↔ op = 4 ∨ s.mode.fbCmd = true) ∧
      t = { s with regs := t.regs, mode := t.mode, host := t.host, evq := t.evq } ∧ s.keepsRegs t.toBlock [hostCount, evtLost] ∧
      t.mode = { s.mode with cmd := t.mode.cmd, fbCmd := t.mode.fbCmd }

/-- MODE_CMD_UNPARK, MODE_CMD_WARM, MODE_CMD_RELOAD, MODE_CMD_ACK_SHUTDOWN and RTC_WAKE (R72, R74 to R77, R81): the park state
ends in SAFE with MODE.LAST; a reset follows the response and keeps the MRAM registers; the acknowledgement clears SD_ACK; the
alarm ends a park state. -/
def Obligations.ModeCommandsAtOnce : Prop :=
  (∀ (s : State) (i : Nat), s.phase = .park → s.counted.cmdGate i modeCmd true = 0 → modeCheck (.sess i) 8 s.counted = 0 →
    ∃ t, exec (.modeCmdUnpark i) s = .next t ∧ t.answers i 0 ∧ t.phase = .active ∧ t.fget modeState 5 4 = 0 ∧
      t.get modeLast = pack [(1, 0), (1, 8), (0x0A, 16), (s.clk.tb % 2 ^ 64, 64)] ∧ t.img = s.img ∧ t.mram = s.mram ∧
      t.key = s.key ∧ t.clk = s.clk ∧ (s.audit ≠ 2 → t.reports 0x0C sevInfo 0 mode0 (pack [(1, 0), (1, 8)]))) ∧
  (∀ (s : State) (i : Nat), s.mayWrite i modeCmd → modeCheck (.sess i) 0x10 s.counted = 0 →
    ∃ t, exec (.modeCmdWarm i) s = .next t ∧ t.answers i 0 ∧ t.phase = .pending ∧ t.rst.kind = .warm ∧
      t.rst.keepHash = s.img.hash ∧ t.vol = t.rst.keepVals.map (fun e => e.1) ∧ t.modeNo = 0 ∧ t.mram.overlay = s.mram.overlay ∧
      t.bit modeState 8 = s.bit modeState 8 ∧ (∀ a ∈ keptRegs, t.get a = s.get a % 2 ^ widthOf a) ∧
      Block.reset.keepsRegs t.toBlock (keptRegs ++ [modeState, devSupply, timeRtc])) ∧
  (∀ (s : State) (i : Nat), s.mayWrite i modeCmd → modeCheck (.sess i) 0x11 s.counted = 0 →
    ∃ t, exec (.modeCmdReload i) s = .next t ∧ t.answers i 0 ∧ t.phase = .pending ∧ t.rst.kind = .reload ∧ t.rst.keepVals = [] ∧
      t.vol = [] ∧ t.modeNo = 0 ∧ t.mram.overlay = s.mram.overlay ∧ t.bit modeState 8 = s.bit modeState 8 ∧
      (∀ a ∈ keptRegs, t.get a = s.get a % 2 ^ widthOf a) ∧
      Block.reset.keepsRegs t.toBlock (keptRegs ++ [modeState, devSupply, timeRtc])) ∧
  (∀ (s : State) (i : Nat), s.mayWrite i modeCmd → modeCheck (.sess i) 0x20 s.counted = 0 → s.mode.cmd = none →
    ∃ t, exec (.modeCmdAckShutdown i) s = .next t ∧ t.answers i 0 ∧ t.bit modeState 9 = false ∧ t.modeNo = s.modeNo ∧
      t = { s with regs := t.regs, mode := t.mode, host := t.host, evq := t.evq } ∧
      s.keepsRegs t.toBlock [modeState, hostCount, evtLost]) ∧
  (∀ s : State, s.phase = .park → s.get modeWake ≠ 0 → s.get timeRtc ≠ 0 →
    ∃ t, exec .rtcWake s = .next t ∧ t.phase = .active ∧ t.fget modeState 5 4 = 0 ∧ t.mram = s.mram ∧
      t.reports 0x0C sevInfo 0 mode0 (pack [(1, 0), (3, 8)])) ∧
  (∀ s : State, s.phase = .deepPark → s.get modeWake ≠ 0 → s.get timeRtc ≠ 0 →
    ∃ t, exec .rtcWake s = .next t ∧ t.phase = .pending ∧ t.rst.kind = .por ∧ t.rst.fromDeep = 3 ∧ t.firn.replay = false)

/-- The *Mode transitions* table (R69, R73, R74, R77, R83) for a module without a FALLBACK cause: what each OP is answered in each
mode. -/
def Obligations.ModeTransitions : Prop :=
  (∀ (s : Block) (o : Origin), s.phase = .active → fbCauses s = [] → s.role ≠ 3 →
    (s.modeNo = 0 → ∀ op, 1 ≤ op → op ≤ 8 → modeTransition o op s = 0x0301) ∧
    (s.modeNo = 1 → modeTransition o 1 s = 0x0301 ∧ modeTransition o 3 s = 0x0301 ∧ modeTransition o 4 s = 0 ∧
      modeTransition o 6 s = 0 ∧ modeTransition o 7 s = 0 ∧ modeTransition o 8 s = 0x0301 ∧
      (s.bit modeState 9 = true → modeTransition o 2 s = 0x0308 ∧ modeTransition o 5 s = 0x0308) ∧
      (s.bit modeState 9 = false → s.bit modeState 8 = true → modeTransition o 2 s = 0x0307 ∧ modeTransition o 5 s = 0) ∧
      (s.bit modeState 9 = false → s.bit modeState 8 = false → modeTransition o 2 s = 0)) ∧
    (s.modeNo = 2 → modeTransition o 1 s = 0 ∧ modeTransition o 2 s = 0x0301 ∧ modeTransition o 3 s = 0 ∧
      modeTransition o 4 s = 0 ∧ modeTransition o 5 s = 0x0301 ∧ modeTransition o 6 s = 0x0301) ∧
    (s.modeNo = 3 → modeTransition o 1 s = 0 ∧ (holdHeld s = true → modeTransition o 2 s = 0x0307) ∧
      (holdHeld s = false → modeTransition o 2 s = 0) ∧ modeTransition o 3 s = 0x0301 ∧ modeTransition o 4 s = 0) ∧
    (s.modeNo = 4 → modeTransition o 1 s = 0 ∧ modeTransition o 2 s = 0x0301 ∧ modeTransition o 3 s = 0 ∧
      modeTransition o 4 s = 0x0301 ∧ modeTransition o 5 s = 0x0301) ∧
    (s.modeNo = 5 → (s.ownsService o = true ∨ o = .pair → modeTransition o 1 s = 0) ∧
      (s.ownsService o = false → o ≠ .pair → modeTransition o 1 s = 0x0401) ∧
      modeTransition o 2 s = 0x0301 ∧ modeTransition o 4 s = 0) ∧
    modeTransition o 0x20 s = (if s.bit modeState 9 then 0 else 0x0304)) ∧
  (∀ (s : Block) (o : Origin), s.phase = .active → s.role = 3 → s.modeNo = 1 → modeTransition o 2 s = 0x0302)

/-- Entry to a mode (R69, R71, R73): STATE, LAST, FB_LATCH, FB_CAUSE and OWNER, the event 0x01, and a FALLBACK latched until
FALLBACK is left. -/
def Obligations.ModeEntry : Prop :=
  ∀ (s : Block) (ts m cause fb owner : Nat), 1 ≤ m → m ≤ 5 → fb < 16 → owner < 8 → cause < 256 →
    (modeEnter ts m cause fb owner s).modeNo = m ∧
    (modeEnter ts m cause fb owner s).get modeLast = pack [(s.modeNo, 0), (m, 8), (cause, 16), (ts % 2 ^ 64, 64)] ∧
    (modeEnter ts m cause fb owner s).fget modeState 15 12 = (if m = 4 then fb else 0) ∧
    (modeEnter ts m cause fb owner s).fget modeState 18 16 = (if m = 5 then owner else 0) ∧
    (modeEnter ts m cause fb owner s).bit modeState 8 = (m = 4 ∨ (s.modeNo ≠ 4 ∧ s.bit modeState 8 = true) : Bool) ∧
    (modeEnter ts m cause fb owner s).mode.ownerGone = false ∧
    (modeEnter ts m cause fb owner s).reports 0x01 (if m = 4 then sevCrit else sevInfo) 0 mode0
      (pack [(s.modeNo, 0), (m, 8), (cause, 16)])

/-- PERSIST_COMMIT, PERSIST_CLEAR, PERSIST_DROP and PERSIST_COMPLETE (R79, R82): the overlay to come is fixed when the command is
taken, and is the module's overlay when the operation completes, with PERSIST_STAT and 0x09. -/
def Obligations.PersistCommands : Prop :=
  (∀ (s : State) (i op oid : Nat) (c : Instr),
    (c, op, oid) ∈ [(Instr.persistCommit i, 1, 0), (.persistClear i, 2, 0), (.persistDrop i oid, 3, oid)] → s.role ≠ 2 →
    s.mayWrite i modePersistCmd → persistCheck op oid s.counted = 0 →
    ∃ t took, exec c s = .next t ∧ t.answers i 0 ∧ t.mode.persistOp = some (op, persistOverlay op oid s.counted, took) ∧
      (op = 2 → persistOverlay op oid s.counted = ⟨s.img.hash, []⟩) ∧
      (op = 3 → (persistOverlay op oid s.counted).entries = s.mram.overlay.entries.filter (fun e => oidOf e.1 != oid)) ∧
      (op = 1 → (persistOverlay op oid s.counted).hash = s.img.hash ∧ ∀ a ∈ took, accessOf a = some .rwp ∧ a ∉ t.vol) ∧
      t = { s with regs := t.regs, mode := t.mode, vol := t.vol, host := t.host, evq := t.evq } ∧
      s.keepsRegs t.toBlock [hostCount, evtLost]) ∧
  (∀ (s : State) (op : Nat) (o : Overlay) (took : List Attr), s.mode.persistOp = some (op, o, took) → op < 256 →
    o.entries.length < 2 ^ 16 →
    ∃ t, exec .persistComplete s = .next t ∧ t.mram.overlay = o ∧ t.mode.persistOp = none ∧
      t.fget modePersist 15 0 = o.entries.length ∧ t.reports 0x09 sevInfo 0 mode0 (op + o.entries.length * 2 ^ 16) ∧
      t = { s with regs := t.regs, mode := t.mode, mram := t.mram, evq := t.evq } ∧ s.keepsRegs t.toBlock [modePersist, evtLost])

/-- REFIN_LOST, REF_SWITCH_DONE, REFIN_VALID, REFIN_INVALID, REF_SEL_WRITE and TCXO_FAULT with REFIN valid (R85, R86, R97): the
flags of TIME.STATE, the switch of reference and its event. PLL_FAULT, and TCXO_FAULT or REFIN_LOST with no other reference (R86): the ring time goes into the clock fault record and a
WDR follows, which boot step 1 meets with the PLL out of lock. The firmware checkpoint it records is free (log entry 4). -/
def Obligations.ReferenceAndClockLoss : Prop :=
  ((∀ s : State, clockRuns s.toBlock = true → s.bit timeState 4 = true → s.bit timeState 5 = true → s.bit timeState 6 = true →
    ∃ t, exec .refinLost s = .next t ∧ t.bit timeState 5 = false ∧ t.bit timeState 4 = false ∧
      t.time.switching = some (0, true) ∧ t.reports 0x11 sevWarn 0 time0 0 ∧
      t = { s with regs := t.regs, time := t.time, evq := t.evq } ∧ s.keepsRegs t.toBlock [timeState, evtLost]) ∧
  (∀ (s : State) (r : Nat) (f : Bool), clockRuns s.toBlock = true → s.time.switching = some (r, f) →
    ∃ t, exec .refSwitchDone s = .next t ∧ t.time.switching = none ∧
      t.reports 0x10 (if f then sevWarn else sevInfo) 0 time0 r ∧
      t = { s with regs := t.regs, time := t.time, evq := t.evq } ∧ s.keepsRegs t.toBlock [evtLost]) ∧
  (∀ (s : State) (held use : Bool), clockRuns s.toBlock = true → s.time.refHeld = false →
    use = (s.get timeRefSel != 1 && (held || (s.get timeRefSel == 2 && !s.time.refLost))) →
    ∃ t, exec (.refinValid held) s = .next t ∧ t.bit timeState 5 = true ∧ t.time.refHeld = held ∧
      t.bit timeState 4 = (s.bit timeState 4 || use) ∧
      t.time.switching = (if use = true ∧ s.bit timeState 4 = false then some (1, false) else s.time.switching) ∧
      t = { s with regs := t.regs, time := t.time } ∧ s.keepsRegs t.toBlock [timeState]) ∧
  (∀ s : State, clockRuns s.toBlock = true → s.bit timeState 4 = false →
    ∃ t, exec .refinInvalid s = .next t ∧ t.bit timeState 5 = false ∧ t.time = { s.time with refHeld := false } ∧
      t = { s with regs := t.regs, time := t.time } ∧
      s.keepsRegs t.toBlock [timeState]) ∧
  (∀ s : State, clockRuns s.toBlock = true → s.bit timeState 6 = true → s.bit timeState 5 = true →
    ∃ t, exec .tcxoFault s = .next t ∧ t.bit timeState 6 = false ∧ t.bit timeState 4 = true ∧ t.time.tcxoForced = true ∧
      t.reports 0x12 sevFault 0 time0 0 ∧ t = { s with regs := t.regs, time := t.time, evq := t.evq } ∧
      s.keepsRegs t.toBlock [timeState, evtLost]) ∧
  (∀ (s : State) (i v : Nat), v ≤ 2 → s.modeNo ≠ 0 → s.mayWrite i timeRefSel → numErr s.toBlock timeRefSel v = 0 →
    s.time.tcxoForced = false →
    ∃ t, exec (.refSelWrite i v) s = .next t ∧ t.answers i 0 ∧ t.get timeRefSel = v ∧
      t.bit timeState 4 = (v != 1 && s.bit timeState 5 && (s.time.refHeld || (v == 2 && !s.time.refLost))) ∧ timeRefSel ∈ t.vol ∧
      t = { s with regs := t.regs, time := t.time, vol := t.vol, host := t.host, evq := t.evq } ∧
      s.keepsRegs t.toBlock [timeRefSel, timeState, hostCount, evtLost])) ∧
  (∀ (s : State) (c : Instr), clockRuns s.toBlock = true →
    (c = .pllFault ∨ (c = .tcxoFault ∧ s.bit timeState 6 = true ∧ s.bit timeState 5 = false) ∨
      (c = .refinLost ∧ s.bit timeState 4 = true ∧ s.bit timeState 5 = true ∧ s.bit timeState 6 = false)) →
    ∃ t, exec c s = .next t ∧ t.phase = .pending ∧ t.rst.kind = .wdr ∧ t.rst.pllFault = true ∧ t.mram.clkFault = some s.clk.tb ∧
      t.rst.wdCheck = Config.freeNat s.fresh % 2 ^ 32 ∧ t.fresh = s.fresh + 1 ∧ t.clk.raw = s.clk.raw ∧
      t.mram.overlay = s.mram.overlay ∧ t.mram.pfRec = s.mram.pfRec)

/-- TIME_SET, TIME_FRAME, RIME_SYNC, TIME_HOLDOVER, HOLD_LIMIT_EXPIRY and RTC_UPDATE (R87 to R90, R97, R314, R318): the
timebase's states and steps, OFFSET, MASTER, and the RTC. The timebase advances by 4 ns a tick, by 3 or 5 on at most one tick in 1000
until the offset is gone, and a wait for one of its values ends at the first tick that reaches or passes it (R84, R87, R376). -/
def Obligations.Timebase : Prop :=
  (∀ (s : State) (i v : Nat), v < 2 ^ 64 → s.mayWrite i timeSet → timeSetCheck s.counted = 0 →
    ∃ t, exec (.timeSet i v) s = .next t ∧ t.answers i 0 ∧ t.clk.tb = v ∧ t.clk.raw = s.clk.raw ∧ t.clk.slew = 0 ∧
      t.fget timeState 2 0 = 1 ∧ t.bit timeState 3 = false ∧ t.floe.cycle = none ∧
      (s.audit ≠ 2 → t.reports 0x17 sevInfo 0 time0 (s.clk.tb % 2 ^ 64)) ∧
      s.keepsRegs t.toBlock [timeState, hostCount, evtLost]) ∧
  (∀ (s s1 : State) (f : TimeFrame) (port : Nat), port < 2 → s.phase = .active → s.role ≠ 1 → f.src ≠ s.img.node →
    s1 = { s with toBlock := if s.paired ∧ f.src = pairPartner s.toBlock then pairHear (some 2) f.claim true s.toBlock else s.toBlock } →
    timeFollows s1.toBlock f.claim = true → (∀ c, s1.floe.copy = some c → c.1 ≠ f.cycle) → f.src < 4096 →
    ∃ t ring, exec (.timeFrame f port) s = .next t ∧ ring = f.origin + f.corr + s.fget (floePort port) 31 8 ∧
      t.get timeOffset = satS 32 ((ring : Int) - s.clk.tb) ∧ t.fget timeState 27 16 = f.src ∧ t.time.lastFrame = s.clk.raw ∧
      t.floe.master = some (f.claim, s1.cycleNow) ∧ t.clk.raw = s.clk.raw ∧
      (s.fget timeState 2 0 = 3 ∧ ((ring : Int) - s.clk.tb).natAbs ≤ 100000 →
        t.fget timeState 2 0 = 3 ∧ t.clk.tb = s.clk.tb ∧ t.clk.slew = (ring : Int) - s.clk.tb) ∧
      (s.fget timeState 2 0 = 4 ∧ ((ring : Int) - s.clk.tb).natAbs ≤ 100000 →
        t.fget timeState 2 0 = 3 ∧ t.bit timeState 3 = false ∧ t.clk.tb = s.clk.tb ∧ t.reports 0x14 sevInfo 0 time0 f.src) ∧
      (3 ≤ s.fget timeState 2 0 ∧ s.fget timeState 2 0 ≤ 4 ∧ 100000 < ((ring : Int) - s.clk.tb).natAbs →
        t.fget timeState 2 0 = 2 ∧ t.bit timeState 3 = true ∧ t.clk.tb = ring ∧
        t.reports 0x16 sevWarn 0 time0 (s.clk.tb % 2 ^ 64)) ∧
      (s.fget timeState 2 0 ≤ 2 ∧ 1000 < ((ring : Int) - s.clk.tb).natAbs →
        t.fget timeState 2 0 = 2 ∧ t.clk.tb = ring ∧ t.time.lockRun = 0 ∧ t.reports 0x16 sevWarn 0 time0 (s.clk.tb % 2 ^ 64)) ∧
      (s.fget timeState 2 0 ≤ 2 ∧ ((ring : Int) - s.clk.tb).natAbs ≤ 1000 ∧ 100 < ((ring : Int) - s.clk.tb).natAbs →
        t.fget timeState 2 0 = 2 ∧ t.clk.tb = s.clk.tb ∧ t.time.lockRun = 0) ∧
      (s.fget timeState 2 0 ≤ 2 ∧ ((ring : Int) - s.clk.tb).natAbs ≤ 100 →
        t.clk.tb = s.clk.tb ∧ t.clk.slew = (ring : Int) - s.clk.tb ∧ t.time.lockCyc = f.cycle ∧
        t.time.lockRun = (if f.cycle = s.time.lockCyc then max 1 s.time.lockRun else if f.cycle = s.time.lockCyc + 1 then
          s.time.lockRun + 1 else 1) ∧ t.fget timeState 2 0 = (if 8 ≤ t.time.lockRun then 3 else 2))) ∧
  (∀ (s : State) (f : TimeFrame), s.phase = .active → s.bit rmCfg 3 = true → rmSlot s.toBlock ≠ 0 → rmUp s.toBlock 0 = true →
    s.isMaster = false → s.floe.master = none → f.src < 4096 → s.fget timeState 2 0 = 3 →
    (((f.origin + f.corr : Nat) : Int) - s.clk.tb).natAbs ≤ 100000 →
    ∃ t, exec (.rimeSync f) s = .next t ∧ t.bit rmStat 4 = true ∧ t.fget timeState 27 16 = f.src ∧ t.fget timeState 2 0 = 3 ∧
      t.get timeOffset = satS 32 (((f.origin + f.corr : Nat) : Int) - s.clk.tb) ∧
      t.clk.slew = ((f.origin + f.corr : Nat) : Int) - s.clk.tb ∧ t.time.lastFrame = s.clk.raw ∧
      t = { s with regs := t.regs, clk := t.clk, time := t.time } ∧ s.keepsRegs t.toBlock [rmStat, timeState, timeOffset]) ∧
  (∀ s : State, s.phase = .active → s.fget timeState 2 0 = 3 → s.isMaster = false →
    ∃ t, exec .timeHoldover s = .next t ∧ t.fget timeState 2 0 = 4 ∧ t.bit timeState 3 = false ∧
      t.clk.slew = (s.toBlock.advanceTo (s.time.lastFrame + holdAfter s.toBlock)).clk.slew ∧
      t.clk.raw = s.rawAt (s.time.lastFrame + (if s.bit rmStat 4 then 30000000 else 3 * s.tCyc)) ∧
      t.time.holdSince = s.time.lastFrame ∧ t.reports 0x15 sevWarn 0 time0 0 ∧
      t = { s with regs := t.regs, clk := t.clk, time := t.time, evq := t.evq } ∧
      s.keepsRegs t.toBlock [timeState, timeRtc, evtLost]) ∧
  (∀ s : State, s.phase = .active → s.fget timeState 2 0 = 4 → s.bit timeState 3 = false →
    ∃ t, exec .holdLimitExpiry s = .next t ∧ t.bit timeState 3 = true ∧ t.fget timeState 2 0 = 4 ∧
      t.clk.raw = s.rawAt (s.time.holdSince + s.get timeHold * nsPerS) ∧ t.time = { s.time with unsFrom := t.clk.tb } ∧
      t = { s with regs := t.regs, clk := t.clk, time := t.time } ∧ s.keepsRegs t.toBlock [timeState, timeRtc]) ∧
  (∀ s : State, clockRuns s.toBlock = true → (s.fget timeState 2 0 = 1 ∨ s.fget timeState 2 0 = 3) →
    ∃ t, exec .rtcUpdate s = .next t ∧ t.get timeRtc = s.clk.tb / nsPerS % 2 ^ 64 ∧ t.clk.rtcSub = s.clk.tb % nsPerS ∧
      t = { s with regs := t.regs, clk := t.clk } ∧ s.keepsRegs t.toBlock [timeRtc]) ∧
  (∀ (c : Clk) (k : Nat), c.gap ≤ 999 →
    (clkElapse c k).raw = c.raw + 4 * k ∧ ((clkElapse c k).tb : Int) + (clkElapse c k).slew = c.tb + 4 * k + c.slew ∧
    (((clkElapse c k).tb : Int) - c.tb - 4 * k).natAbs ≤ (k + 999) / 1000 ∧ (clkElapse c k).slew.natAbs ≤ c.slew.natAbs ∧
    (clkElapse c k).gap ≤ 999) ∧
  (∀ (s : Block) (T : Nat), s.clk.gap ≤ 999 →
    (s.clk.tb < T → T ≤ s.tbAt T ∧ s.tbAt T ≤ T + 4) ∧ (T ≤ s.clk.tb → s.tbAt T = s.clk.tb))

/-- FE_VALUE and FE_VALUE_RELEASE (R104 to R106, R108, R111, R113): the next value of a running channel, stamped on its grid and
held, with SETTLE_LEFT and IQ; and its release at TS + T_REL, INVALID, SETTLING, or delivered into VALUE and LAST_GOOD. With
LIN.SRC = 0 the value is the signal (QUAL SIGNAL). The signal is computed at the release, under the CELL in force (R121); where the
spec states no quotient it is free (log entry 4). -/
def Obligations.FeValues : Prop :=
  (∀ (s : State) (n : Nat) (iq : List (Int × Int)) (d i : Int × Int) (ovl : Bool), s.sized = true → n < 48 →
    feRuns s.toBlock n = true →
    ∃ t h, exec (.feValue n iq d i ovl) s = .next t ∧ (t.fch n).held = (s.fch n).held ++ [h] ∧
      (t.fch n).m = feNext s.toBlock n ∧ h.ts = (s.fch n).t0 + feNext s.toBlock n * feT s.toBlock n ∧
      h.seq = feNext s.toBlock n % 65536 ∧ h.thr = feThr s.toBlock n ∧ t.clk.tb = s.tbAt h.ts ∧
      (h.q = 4 ↔ feZoneOff s.toBlock n = true ∨ (s.fch n).fault ≠ 0 ∨ ovl = true) ∧
      (h.q ≠ 4 → (h.q = 3 ↔ feNext s.toBlock n < feNs (feCode s.toBlock n))) ∧
      h.sx = getL iq (s.fget (feDrive n) 7 4) (0, 0) ∧ h.d = d ∧ h.i = i ∧ h.typ = feTyp s.toBlock n ∧
      h.qty = s.fget (feDrive n) 10 8 ∧
      t.get (feIq n) = feIqWord (iq.take 16) % 2 ^ widthOf (feIq n) ∧
      t.fget (feStat n) 23 16 = feNs (feCode s.toBlock n) - feNext s.toBlock n ∧
      t = { s with regs := t.regs, clk := t.clk, fe := t.fe, evq := t.evq } ∧
      s.keepsRegs t.toBlock [feIq n, feStat n, timeRtc, evtLost]) ∧
  (∀ (s : State) (n : Nat) (h : FeHeld), s.sized = true → n < 48 → feHead s.toBlock n = some h →
    (feZoneOff s.toBlock n = true ∨ h.cause ≠ 0 ∨ h.q = 4) → h.cause < 16 →
    ∃ t, exec (.feValueRelease n) s = .next t ∧ (t.fch n).held = (s.fch n).held.drop 1 ∧
      t.clk.tb = s.tbAt (h.ts + feTrel s.toBlock n) ∧ t.fget (feValue n) 130 128 = 4 ∧ t.fget (feStat n) 6 4 = 4 ∧
      t.fget (feStat n) 11 8 = (if feZoneOff s.toBlock n then 5 else h.cause) ∧ t.get (feLast n) = s.get (feLast n) ∧
      (t.fch n).delivAt = (s.fch n).delivAt) ∧
  (∀ (s : State) (n : Nat) (h : FeHeld), s.sized = true → n < 48 → feHead s.toBlock n = some h →
    feZoneOff s.toBlock n = false → h.cause = 0 → h.q = 3 →
    ∃ t, exec (.feValueRelease n) s = .next t ∧ (t.fch n).held = (s.fch n).held.drop 1 ∧ t.fget (feValue n) 130 128 = 3 ∧
      t.fget (feStat n) 6 4 = 3 ∧ t.get (feLast n) = s.get (feLast n) ∧ (t.fch n).delivAt = (s.fch n).delivAt) ∧
  (∀ (s : State) (n : Nat) (h : FeHeld), s.sized = true → n < 48 → feHead s.toBlock n = some h →
    feZoneOff s.toBlock n = false → h.cause = 0 → h.q = 0 →
    ∃ t val sig qual rng, exec (.feValueRelease n) s = .next t ∧ (t.fch n).held = (s.fch n).held.drop 1 ∧ qual ≤ 2 ∧
      t.get (feValue n) = feWord h val sig qual 0 rng % 2 ^ widthOf (feValue n) ∧
      t.get (feLast n) = feWord h val sig qual 0 rng % 2 ^ widthOf (feLast n) ∧
      (∀ v, feSignal h.typ h.qty h.ftw (s.get (feCell n)) h.sx h.d h.i = some v → sig = sat32 v ∧ t.fresh = s.fresh) ∧ t.fget (feStat n) 6 4 = qual ∧
      (t.fch n).delivAt = some (s.tbAt (h.ts + feTrel s.toBlock n)) ∧
      (s.fget (feLin n) 1 0 = 0 → val = sig ∧ qual = 2))

/-- R112: a full-scale sample makes the value INVALID with CAUSE 4; no excitation fault, no restart, no change of the drive; 0x43 once for each run of such values. A value
INVALID for an excitation fault or a shut-down zone keeps that cause. -/
def Obligations.OverloadedValues : Prop :=
  ∀ (s : State) (n : Nat) (iq : List (Int × Int)) (d i : Int × Int), s.sized = true → n < 48 → feRuns s.toBlock n = true →
    ∃ t h, exec (.feValue n iq d i true) s = .next t ∧ (t.fch n).held = (s.fch n).held ++ [h] ∧ h.q = 4 ∧
      (feZoneOff s.toBlock n = false → (s.fch n).fault = 0 → h.cause = 4) ∧ (t.fch n).fault = (s.fch n).fault ∧
      (t.fch n).t0 = (s.fch n).t0 ∧ t.get (feTones n) = s.get (feTones n) ∧ t.get (feDrive n) = s.get (feDrive n) ∧
      t.get (feRate n) = s.get (feRate n) ∧ t.get (feType n) = s.get (feType n) ∧
      ((s.fch n).ovl = false → t.reports 0x43 sevWarn 0 (feObj n) 0) ∧ ((s.fch n).ovl = true → t.evq = s.evq)

/-- FE_TONES_WRITE, FE_RATE_WRITE, FE_EXCITATION_APPLY and FE_GROUP_RESTART (R100, R105, R107, R121): a write waits for the end of
the value interval in progress on a running channel, or acts at once; the restart that follows it, and 0x48. -/
def Obligations.FeExcitation : Prop :=
  (∀ (s : State) (i n v : Nat), s.sized = true → n < 48 → s.mayWrite i (feTones n) → feExcCheck n (some v) none s.counted = 0 →
    numErr s.toBlock (feTones n) v = 0 →
    ∃ t, exec (.feTonesWrite i n v) s = .next t ∧ t.answers i 0 ∧ feTones n ∈ t.vol ∧
      (feRuns s.toBlock n = true → ∃ p, (t.fch n).pend = some p ∧ p.tones = some v ∧
        (p.due = feIntEnd s.toBlock n ∨ ∃ q, (s.fch n).pend = some q ∧ p.due = q.due) ∧
        s.keepsRegs t.toBlock [hostCount, evtLost]) ∧
      (feRuns s.toBlock n = false → t.get (feTones n) = v ∧ (t.fch n).m = 0 ∧ (t.fch n).t0 = s.clk.tb ∧
        s.keepsRegs t.toBlock [feTones n, feStat n, hostCount, evtLost])) ∧
  (∀ (s : State) (i n v : Nat), s.sized = true → n < 48 → s.mayWrite i (feRate n) → feExcCheck n none (some v) s.counted = 0 →
    numErr s.toBlock (feRate n) v = 0 →
    ∃ t, exec (.feRateWrite i n v) s = .next t ∧ t.answers i 0 ∧ feRate n ∈ t.vol ∧
      (feRuns s.toBlock n = true → ∃ p, (t.fch n).pend = some p ∧ p.rate = some v ∧
        (p.due = feIntEnd s.toBlock n ∨ ∃ q, (s.fch n).pend = some q ∧ p.due = q.due) ∧
        s.keepsRegs t.toBlock [hostCount, evtLost]) ∧
      (feRuns s.toBlock n = false → t.get (feRate n) = v ∧ (t.fch n).m = 0 ∧ (t.fch n).t0 = s.clk.tb ∧
        s.keepsRegs t.toBlock [feRate n, feStat n, hostCount, evtLost])) ∧
  (∀ (s : State) (n : Nat) (p : FePend), s.sized = true → n < 48 → (s.fch n).pend = some p →
    ∃ t, exec (.feExcitationApply n) s = .next t ∧ (t.fch n).pend = none ∧ t.clk.tb = s.tbAt p.due ∧
      t.get (feTones n) = (match p.tones with | some v => v % 2 ^ widthOf (feTones n) | none => s.get (feTones n)) ∧
      t.get (feRate n) = (match p.rate with | some v => v % 2 ^ widthOf (feRate n) | none => s.get (feRate n)) ∧
      t.reports 0x48 sevInfo 0 (feObj n) (t.fget (feStat n) 23 16) ∧
      (feTyp s.toBlock n ≠ 6 → (t.fch n).t0 = t.clk.tb ∧ (t.fch n).m = 0 ∧ (t.fch n).fault = (s.fch n).fault ∧
        s.keepsRegs t.toBlock [feTones n, feRate n, feStat n, timeRtc, evtLost])) ∧
  (∀ (s : State) (i g : Nat), s.sized = true → g < 3 → s.mayWrite i (fgRestart g) → s.bit (fgStat g) 0 = true →
    ∃ t, exec (.feGroupRestart i g) s = .next t ∧ t.answers i 0 ∧
      ((∀ k < 16, feTyp s.toBlock (16 * g + k) ≠ 6) →
        (∀ k < 16, feTyp s.toBlock (16 * g + k) ≠ 0 →
          (t.fch (16 * g + k)).t0 = s.clk.tb ∧ (t.fch (16 * g + k)).m = 0 ∧
          (t.fch (16 * g + k)).fault = (s.fch (16 * g + k)).fault ∧
          t.fget (feStat (16 * g + k)) 23 16 = feNs (feCode s.toBlock (16 * g + k))) ∧
        s.keepsRegs t.toBlock ([hostCount, evtLost] ++ (List.range 48).map feStat)) ∧
      t = { s with regs := t.regs, fe := t.fe, host := t.host, evq := t.evq })

/-- EXCITATION_FAULT, EXCITATION_FAULT_CLEAR, SHORT_TEST, FE_GROUP_LINK_FAULT and AO_INVALID_TIMEOUT (R109 to R111, R118 to R120): a
fault is declared where the out-of-band samples of the trailing T_D reach an eighth of them, and not otherwise. -/
def Obligations.FeFaults : Prop :=
  (∀ (s : State) (n qty cls dev : Nat) (win : List (Int × Int)) (resp volt curr : Nat × Nat), s.sized = true → n < 48 →
    feMonitor n qty ⟨win, resp, volt, curr⟩ s.toBlock = some cls → (s.fch n).fault ≠ cls →
    dev = feDeviation (feExpPeak qty ⟨win, resp, volt, curr⟩) (win.take (feNt s.toBlock n qty)) →
    ∃ t, exec (.excitationFault n qty win resp volt curr) s = .next t ∧ (t.fch n).fault = cls ∧ t.fget (feStat n) 2 0 = 3 ∧
      (∀ h ∈ (t.fch n).held, h.q = 4 ∧ h.cause = cls) ∧ (t.fch n).held.length = (s.fch n).held.length ∧
      t.fget (feCnt n) 31 0 = satInc 32 (s.fget (feCnt n) 31 0) ∧
      t.reports (0x3F + cls) sevFault 0 (feObj n) (pack [(qty % 256, 0), (dev % 65536, 16)]) ∧
      t = { s with regs := t.regs, fe := t.fe, evq := t.evq } ∧ s.keepsRegs t.toBlock [feStat n, feCnt n, evtLost]) ∧
  (∀ (s : State) (n : Nat), s.sized = true → n < 48 → (s.fch n).fault ≠ 0 → ((s.fch n).fault = 2 → (s.fch n).tested = true) →
    feTyp s.toBlock n ≠ 6 →
    ∃ t, exec (.excitationFaultClear n) s = .next t ∧ (t.fch n).fault = 0 ∧ (t.fch n).m = 0 ∧ (t.fch n).t0 = t.clk.tb ∧
      t.clk.raw = s.rawAt ((s.fch n).faultAt + feClearTime s.toBlock n) ∧ t.reports 0x44 sevInfo 0 (feObj n) 0 ∧
      t = { s with regs := t.regs, clk := t.clk, fe := t.fe, evq := t.evq } ∧
      s.keepsRegs t.toBlock [feStat n, timeRtc, evtLost]) ∧
  (∀ (s : State) (n : Nat), s.sized = true → n < 48 → (s.fch n).fault = 2 →
    ∃ t, exec (.shortTest n) s = .next t ∧ (t.fch n).tested = true ∧ (t.fch n).fault = 2 ∧
      t.clk.raw = s.rawAt (s.fch n).testAt ∧ (t.fch n).testAt = (s.fch n).testAt + nsPerS ∧
      t = { s with regs := t.regs, clk := t.clk, fe := t.fe } ∧ s.keepsRegs t.toBlock [timeRtc]) ∧
  (∀ (s : State) (g : Nat) (pass : Bool), s.sized = true → g < 3 → s.phase = .active → s.bit (fgStat g) 0 = true →
    ∃ t, exec (.feGroupLinkFault g pass) s = .next t ∧ s.fe.linkAt[g]? ≠ none ∧ t.fe.linkAt[g]? = some (some s.clk.raw) ∧
      t.fget (fgStat g) 15 8 = min 255 (s.fget (fgStat g) 15 8 + 3) ∧
      ((pass = true ∧ ∀ τ, s.fe.linkAt[g]? = some (some τ) → τ + 60 * nsPerS ≤ s.clk.raw) →
        t.bit (fgStat g) 0 = true ∧ ∀ k < 16, ∀ h ∈ (t.fch (16 * g + k)).held, h.q = 4 ∧ h.cause = 6) ∧
      ((pass = false ∨ ∃ τ, s.fe.linkAt[g]? = some (some τ) ∧ s.clk.raw < τ + 60 * nsPerS) →
        t.bit (fgStat g) 0 = false ∧ t.bit (fgStat g) 1 = true ∧
        ∀ k < 16, (t.fch (16 * g + k)).held = [] ∧ t.fget (feStat (16 * g + k)) 2 0 = 0)) ∧
  (∀ (s : State) (n d : Nat), n < 48 → (s.fch n).delivAt = some d →
    ∃ t, exec (.aoInvalidTimeout n) s = .next t ∧ t.clk.tb = s.tbAt (d + 4 * feT s.toBlock n) ∧
      (∀ k ∈ aoOf s.toBlock n, k ∈ s.fe.aoOn → k ∉ s.fe.aoInv → k ∈ t.fe.aoInv ∧ t.bit (aoStat k) 16 = true ∧
        (s.bit (aoCfg k) 9 = true → t.fget (aoStat k) 15 0 = s.fget (aoCfg k) 31 16) ∧
        (s.bit (aoCfg k) 9 = false → t.fget (aoStat k) 15 0 = s.fget (aoStat k) 15 0)) ∧
      (s.role ≠ 2 → ∀ k ∈ swOf s.toBlock n, t.bit (swStat k) 1 = true ∧
        (s.bit (swStat k) 1 = false → s.fget (swCfg k) 3 2 = 0 → t.bit (swStat k) 0 = false) ∧
        (s.bit (swStat k) 1 = false → s.fget (swCfg k) 3 2 = 1 → t.bit (swStat k) 0 = true)) ∧
      t = { s with regs := t.regs, clk := t.clk, fe := t.fe, evq := t.evq } ∧
      s.keepsRegs t.toBlock ([timeRtc, evtLost] ++ (List.range 8).map aoStat ++ (List.range 32).map swStat)) ∧
  (∀ (s : State) (n qty : Nat) (win : List (Int × Int)) (resp volt curr : Nat × Nat), n < 48 →
    (∀ x ∈ win, feOutOfBand (s.get (feMon n)) (feExpPeak qty ⟨win, resp, volt, curr⟩) (feScaleOf s.toBlock n qty) x = false) →
    exec (.excitationFault n qty win resp volt curr) s = .next s)

/-- The active pixels of a tomography map (R134): the pixels within the circle, 812 of them, numbered by ascending y and then
ascending x. -/
def Obligations.TomoActivePixels : Prop :=
  (∀ x y, x < 32 → y < 32 →
    ((tmPixAt x y).isSome = true ↔ natDist (2 * x) 31 * natDist (2 * x) 31 + natDist (2 * y) 31 * natDist (2 * y) 31 ≤ 1024)) ∧
  (∀ x y x' y' q q', x < 32 → y < 32 → x' < 32 → y' < 32 → tmPixAt x y = some q → tmPixAt x' y' = some q' →
    (q < q' ↔ y < y' ∨ (y = y' ∧ x < x')) ∧ q < 812) ∧
  (∀ q, q < 812 → ∃ x y, x < 32 ∧ y < 32 ∧ tmPixAt x y = some q)

/-- TOMO_FRAME and TOMO_KERNEL_DONE (R130, R131, R136 to R138, R142, R144, R146, R317): a frame of an own ring starts its kernel or is
INVALID with a cause of the *Frame quality* table; a frame acquired for another module is sent as an ADMIT of 2304 bytes; a
background kernel issues MAP and SUMMARY, or, past the next boundary, the frame is lost; a class D kernel's map waits for its class
and is issued by its CLASS_PUBLISH (R169). A write of the attributes 0x024 to 0x029 of a running ring that waits is taken at the frame
boundary (R146). -/
def Obligations.TomoFrames : Prop :=
  (∀ (s : State) (r period : Nat) (thr : Bool) (x : Block), s.sized = true → r < 12 → tmRuns s.toBlock r = true →
    x = s.setTch r { s.tch r with rthr := thr } →
    ∃ t w tF, exec (.tomoFrame r 0xF period thr) s = .next t ∧ w = tmPeriod s.toBlock r * (if tmThr x r then 2 else 1) ∧
      tF = dueMultiple w (s.tch r).last s.clk.tb ∧ (t.tch r).last = tF ∧
      t.clk.tb = s.tbAt (if tmSlot s.toBlock r = 0xF then tF + max 20000 (feTrel s.toBlock ((tmElecs s.toBlock r).headD 0))
        else tF + 60000) ∧
      ((∃ k, (t.tch r).run = some k ∧ k.ts = tF) ∨
       ((t.tch r).run = none ∧ (t.tch r).good = false ∧ t.fget (tmStat r) 9 8 = 2 ∧ 1 ≤ t.fget (tmStat r) 13 10 ∧
        t.fget (tmStat r) 13 10 ≤ 8))) ∧
  (∀ (s : State) (r slot period w tF : Nat) (thr : Bool) (p : TomoPlan), s.sized = true → r < 12 → slot ≠ 0xF → 0 < period →
    p.elec.length = 16 → s.tomo.plans.find? (fun p => p.owner == slot && p.ring == r) = some p →
    w = period * (if elecThr s.toBlock p.elec then 2 else 1) → tF = s.clk.tb / period * period → tF % w = 0 →
    ∃ t b, exec (.tomoFrame r slot period thr) s = .next t ∧ t.clk.tb = s.tbAt (tF + 30000) ∧
      t.net.head? = some (.rime slot (rimeBytes 3 (rmSlot s.toBlock) slot r tF b)) ∧ b.length = 2304 ∧ t.net.drop 1 = s.net ∧
      t = { s with regs := t.regs, clk := t.clk, fe := t.fe, net := t.net, fresh := t.fresh } ∧
      s.keepsRegs t.toBlock [timeRtc]) ∧
  (∀ (s : State) (r : Nat) (f : TomoRun), s.sized = true → r < 12 → (s.tch r).run = some f → s.bit (tmCfg r) 1 = true →
    s.tbAt f.due ≤ f.limit →
    ∃ t, exec (.tomoKernelDone r) s = .next t ∧ t.clk.tb = s.tbAt f.due ∧ (t.tch r).run = none ∧ (t.tch r).good = true ∧
      t.get (tmMap r) = packL 16 (f.pix.map (ofS 16)) % 2 ^ widthOf (tmMap r) ∧
      t.get (tmPerm r) = packL 16 f.perm % 2 ^ widthOf (tmPerm r) ∧
      t.get (tmSummary r) = tmSummaryWord f % 2 ^ widthOf (tmSummary r) ∧
      t.fget (tmStat r) 9 8 = (if tmSuspect f then 1 else 0) ∧
      t.fget (tmCount r) 31 0 = (if tmSuspect f then s.fget (tmCount r) 31 0 else satInc 32 (s.fget (tmCount r) 31 0)) ∧
      t.fget (tmCount r) 63 32 = (if tmSuspect f then satInc 32 (s.fget (tmCount r) 63 32) else s.fget (tmCount r) 63 32)) ∧
  (∀ (s : State) (r : Nat) (f : TomoRun), s.sized = true → r < 12 → (s.tch r).run = some f → s.bit (tmCfg r) 1 = true →
    f.limit < s.tbAt f.due →
    ∃ t, exec (.tomoKernelDone r) s = .next t ∧ (t.tch r).run = none ∧ (t.tch r).good = false ∧ t.fget (tmStat r) 9 8 = 2 ∧
      t.fget (tmStat r) 13 10 = 5 ∧ t.get (tmMap r) = s.get (tmMap r) ∧ t.get (tmSummary r) = s.get (tmSummary r) ∧
      t.fget (tmCount r) 127 96 = satInc 32 (s.fget (tmCount r) 127 96) ∧ t.reports 0x63 sevWarn 0 (tmObj r) 0) ∧
  (∀ (s : State) (r att period v e due : Nat) (a : Attr) (thr : Bool) (x : Block), s.sized = true → r < 12 → tmRuns s.toBlock r = true → 0x024 ≤ att →
    att ≤ 0x029 → a = ⟨6, 0, r, att⟩ → s.late = [⟨a, .num v, e, due⟩] →
    x = s.setTch r { s.tch r with rthr := thr } →
    due ≤ dueMultiple (tmPeriod s.toBlock r * (if tmThr x r then 2 else 1)) (s.tch r).last s.clk.tb →
    ∃ t, exec (.tomoFrame r 0xF period thr) s = .next t ∧ t.get a = v % 2 ^ widthOf a ∧ t.late = []) ∧
  (∀ (s : State) (r : Nat) (f : TomoRun), r < 12 → (s.tch r).run = some f → s.bit (tmCfg r) 1 = false →
    ∃ t, exec (.tomoKernelDone r) s = .next t ∧ t.clk.tb = s.tbAt f.due ∧ t = { s with regs := t.regs, clk := t.clk } ∧
      s.keepsRegs t.toBlock [timeRtc]) ∧
  (∀ (s : State) (r slot period w : Nat) (thr : Bool) (p : TomoPlan), r < 12 → slot ≠ 0xF → 0 < period →
    s.tomo.plans.find? (fun p => p.owner == slot && p.ring == r) = some p → w = period * (if elecThr s.toBlock p.elec then 2 else 1) →
    s.clk.tb / period * period % w ≠ 0 → exec (.tomoFrame r slot period thr) s = .next s) ∧
  (∀ (s : State) (r ns b : Nat) (f : TomoRun), s.sized = true → r < 12 → s.phase = .active → (s.cls 3).prog = some b →
    ns ≤ (s.cls 3).dl → s.clk.tb ≤ b + ns → (s.tch r).run = some f → f.ts = b → s.bit (tmCfg r) 1 = false →
    ∃ t, exec (.classPublish 3 ns) s = .next t ∧ (t.tch r).run = none ∧ (t.tch r).good = true ∧
      t.get (tmMap r) = packL 16 (f.pix.map (ofS 16)) % 2 ^ widthOf (tmMap r) ∧
      t.get (tmPerm r) = packL 16 f.perm % 2 ^ widthOf (tmPerm r) ∧
      t.get (tmSummary r) = tmSummaryWord f % 2 ^ widthOf (tmSummary r) ∧
      t.fget (tmStat r) 9 8 = (if tmSuspect f then 1 else 0))

/-- CAL_EMPTY, CAL_FULL, TOMO_CAL_DONE, TOMO_RESTART, TOMO_SENS_WRITE and TOMO_MAP_RECORD (R129, R133, R135, R145, R146). The
starting vector of the power iteration behind S_NORM2 is free (log entry 33). -/
def Obligations.TomoCommands : Prop :=
  (∀ (s : State) (i r n op : Nat) (c : Instr), (c, op) ∈ [(Instr.calEmpty i r n, 1), (.calFull i r n, 2)] → s.sized = true → r < 12 →
    s.mayWrite i (tmCmd r) → tmCmdCheck (.sess i) op r n s.counted = 0 →
    ∃ t, exec c s = .next t ∧ t.answers i 0 ∧ t.get (tmCalStat r) = 1 ∧ (t.tch r).calOp = op ∧ (t.tch r).calN = n ∧
      (t.tch r).calUsed = 0 ∧ (t.tch r).calFrom = s.clk.tb ∧
      t = { s with regs := t.regs, tomo := t.tomo, host := t.host, evq := t.evq } ∧
      s.keepsRegs t.toBlock [tmCalStat r, tmStat r, hostCount, evtLost]) ∧
  (∀ (s : State) (r : Nat), s.sized = true → r < 12 → (s.tch r).calOp ≠ 0 →
    ∃ t, exec (.tomoCalDone r) s = .next t ∧ (t.tch r).calOp = 0 ∧
      ((s.tch r).calUsed < (s.tch r).calN → t.get (tmCalStat r) = 3 + 0x0201 * 2 ^ 16 ∧ t.get (tmCalE r) = s.get (tmCalE r) ∧
        t.get (tmCalF r) = s.get (tmCalF r) ∧
        t.clk.tb = s.tbAt ((s.tch r).calFrom + (2 * (s.tch r).calN + 10) * tmPeriod s.toBlock r) ∧
        t.reports 0x65 sevFault 0 (tmObj r) (pack [((s.tch r).calOp, 0), (0x0201, 16)])) ∧
      ((s.tch r).calN ≤ (s.tch r).calUsed → (s.tch r).calOp = 1 → (s.tch r).hasF = false →
        t.get (tmCalStat r) = 2 ∧ (t.tch r).hasE = true ∧ tmCalE r ∈ t.vol ∧
        t.get (tmCalE r) = packL 32 ((s.tch r).calSum.map (fun x => satS 32 (rdivI x (2 * (s.tch r).calUsed)))) %
          2 ^ widthOf (tmCalE r) ∧ t.reports 0x65 sevInfo 0 (tmObj r) 1) ∧
      t = { s with regs := t.regs, clk := t.clk, tomo := t.tomo, vol := t.vol, evq := t.evq } ∧
      s.keepsRegs t.toBlock [tmCalStat r, tmCalE r, tmCalF r, tmStat r, timeRtc, evtLost]) ∧
  (∀ (s : State) (i r : Nat), s.sized = true → r < 12 → s.mayWrite i (tmCmd r) → tmCmdCheck (.sess i) 3 r 0 s.counted = 0 →
    ∃ t, exec (.tomoRestart i r) s = .next t ∧ t.answers i 0 ∧ (t.tch r).tSeen = false ∧ (t.tch r).tLost = false ∧
      (tmSlot s.toBlock r ≠ 0xF → (t.tch r).setup = 0) ∧
      t = { s with regs := t.regs, fe := t.fe, tomo := t.tomo, host := t.host, evq := t.evq } ∧
      s.keepsRegs t.toBlock ([tmStat r, hostCount, evtLost] ++ (List.range 256).map feStat)) ∧
  (∀ (s : State) (i r : Nat) (x : Table), s.sized = true → r < 12 → s.mayWrite i (tmSens r) → tmSensCheck x s.counted = 0 →
    ∃ t, exec (.tomoSensWrite i r x) s = .next t ∧ t.answers i 0 ∧ t.tab (tmSens r) = some x ∧ tmSens r ∈ t.vol ∧
      t.get (tmNorm2 r) = tmNorm2Of s.fresh (rowsOf 812 120 x.elems) % 2 ^ 64 ∧ t.fresh = s.fresh + 813 ∧
      s.keepsRegs t.toBlock ([tmNorm2 r, tmStat r, hostCount, evtLost] ++ (List.range 256).map feStat)) ∧
  (∀ (s : State) (r : Nat), s.sized = true → r < 12 → s.phase = .active → s.bit (tmCfg r) 0 = true →
    ∃ t tP b, exec (.tomoMapRecord r) s = .next t ∧
      tP = dueMultiple (s.fget (tmFrame r) 63 32 * nsPerS) (s.tch r).mapAt s.clk.tb ∧ t.firn.maps.getLast? = some ⟨tP, r, b⟩ ∧
      b.take 8 = leBytes 8 tP ∧ (t.tch r).mapAt = tP ∧ (t.tch r).mapCnt = 0 ∧ t.clk.tb = s.tbAt tP ∧
      ((s.tch r).mapCnt = 0 → t.reports 0x68 sevWarn 0 (tmObj r) 0) ∧
      t = { s with regs := t.regs, clk := t.clk, firn := t.firn, tomo := t.tomo, evq := t.evq } ∧
      s.keepsRegs t.toBlock [firnPart, timeRtc, evtLost])

/-- TOMO_RIME_SETUP, RIME_SETUP, RIME_SETUP_ACK, RIME_ADMIT, RIME_LINK_DOWN, RIME_LINK_UP and RIME_RETRAIN (R144, R315, R317,
R319). -/
def Obligations.RimeLink : Prop :=
  (∀ (s : State) (r : Nat), s.sized = true → r < 12 → s.phase = .active → (s.tch r).setup = 0 → s.bit (tmCfg r) 0 = true →
    tmSlot s.toBlock r < 4 → s.bit (tmStat r) 1 = false → rmUp s.toBlock (tmSlot s.toBlock r) = true →
    ∃ t, exec (.tomoRimeSetup r) s = .next t ∧ (t.tch r).setup = 1 ∧ (t.tch r).setupAt = s.clk.raw ∧
      t.net = .rime (tmSlot s.toBlock r) (rimeBytes 1 (rmSlot s.toBlock) (tmSlot s.toBlock r) r s.clk.tb
        (setupBytes (tmSetupPlan s.toBlock r))) :: s.net ∧
      t = { s with regs := t.regs, tomo := t.tomo, net := t.net } ∧ s.keepsRegs t.toBlock [tmStat r]) ∧
  (∀ (s : State) (p : TomoPlan) (e : Nat), s.phase = .active → tmPlanBad s.toBlock p = some e →
    exec (.rimeSetup p) s = .next { s with
      net := .rime p.owner (rimeBytes 2 (rmSlot s.toBlock) p.owner p.ring s.clk.tb (setupAckBytes 0x0206 e)) :: s.net }) ∧
  (∀ (s : State) (p : TomoPlan), s.phase = .active → tmPlanBad s.toBlock p = none →
    ∃ t, exec (.rimeSetup p) s = .next t ∧
      t.net = .rime p.owner (rimeBytes 2 (rmSlot s.toBlock) p.owner p.ring s.clk.tb (setupAckBytes 0 0)) :: s.net ∧
      t.tomo.plans = p :: s.tomo.plans.filter (fun q => !(q.owner == p.owner && q.ring == p.ring))) ∧
  (∀ (s : State) (r elec : Nat), s.sized = true → r < 12 → (s.tch r).setup = 1 →
    ∃ t, exec (.rimeSetupAck r 0 elec) s = .next t ∧ (t.tch r).setup = 2 ∧
      t = { s with regs := t.regs, tomo := t.tomo } ∧ s.keepsRegs t.toBlock [tmStat r]) ∧
  (∀ (s : State) (r result elec : Nat), s.sized = true → r < 12 → (s.tch r).setup = 1 → result ≠ 0 →
    ∃ t, exec (.rimeSetupAck r result elec) s = .next t ∧ (t.tch r).setup = 0 ∧ t.bit (tmStat r) 1 = true ∧
      t.bit (tmStat r) 0 = false ∧ t.reports 0x69 sevFault 0 (tmObj r) (pack [(elec % 256, 0), (result % 65536, 16)]) ∧
      t = { s with regs := t.regs, tomo := t.tomo, evq := t.evq } ∧ s.keepsRegs t.toBlock [tmStat r, evtLost]) ∧
  (∀ (s : State) (slot r ts : Nat) (p : List Byte), s.sized = true → r < 12 → tmSlot s.toBlock r = slot → tmRuns s.toBlock r = true →
    p.length = 2304 → s.clk.tb ≤ ts + 60000 → (s.tch r).last < ts →
    ∃ t, exec (.rimeAdmit slot r ts p) s = .next t ∧ (t.tch r).adm = some (admOf ts p) ∧ t = { s with tomo := t.tomo }) ∧
  (∀ (s : State) (slot r ts : Nat) (p : List Byte), r < 12 → ts + 60000 < s.clk.tb → exec (.rimeAdmit slot r ts p) s = .next s) ∧
  (∀ (s : State) (p : Nat), p < 3 → s.phase = .active → s.bit (rmPort p) 2 = true →
    ∃ t, exec (.rimeLinkDown p) s = .next t ∧ t.bit (rmPort p) 2 = false ∧
      (s.bit rmCfg p = true → t.fget rmCount 95 64 = satInc 32 (s.fget rmCount 95 64) ∧
        t.reports 0xF6 sevWarn 0 rmObj (pack [(p, 0), (s.fget (rmPort p) 9 8, 8)])) ∧
      t = { s with regs := t.regs, floe := t.floe, evq := t.evq } ∧ s.keepsRegs t.toBlock [rmPort p, rmCount, evtLost]) ∧
  (∀ (s : State) (p : Nat) (anew : Bool), s.sized = true → p < 3 → s.phase = .active → s.bit (rmPort p) 2 = false →
    s.bit (rmPort p) 0 = true →
    ∃ t, exec (.rimeLinkUp p anew) s = .next t ∧
      (∀ r < 12, tmSlot s.toBlock r = (rmSlot s.toBlock + p + 1) % 4 → s.bit (tmCfg r) 0 = true →
        (anew = true ∨ ((s.tch r).setup ≠ 2 ∧ s.bit (tmStat r) 1 = false)) → (t.tch r).setup = 1) ∧
      (∀ r < 12, anew = false → (s.tch r).setup = 2 → (t.tch r).setup = 2) ∧ t.bit (rmPort p) 2 = true ∧ t.fget (rmPort p) 9 8 = (rmSlot s.toBlock + p + 1) % 4 ∧
      (s.bit rmCfg p = true → t.reports 0xF6 sevInfo 0 rmObj (pack [(p, 0), ((rmSlot s.toBlock + p + 1) % 4, 8)])) ∧
      t = { s with regs := t.regs, tomo := t.tomo, net := t.net, evq := t.evq } ∧
      s.keepsRegs t.toBlock ([rmPort p, evtLost] ++ (List.range 12).map tmStat)) ∧
  (∀ (s : State) (p : Nat), p < 3 → s.phase = .active → s.bit (rmPort p) 2 = false → s.bit (rmPort p) 0 = true →
    ∃ t, exec (.rimeRetrain p) s = .next t ∧ t.clk.raw = s.rawAt (getL s.floe.retrain p 0 + 100000000) ∧
      t.bit (rmPort p) 2 = false ∧ t = { s with regs := t.regs, clk := t.clk, floe := t.floe } ∧
      s.keepsRegs t.toBlock [timeRtc])

/-- The arithmetic of a second-order section (R149, R156): a section's output stays in Q8.24 and its states in Q12.36 whatever it is
given, and a row that passes the checks has its poles inside the unit circle, or one pole at 1 where it is marked INTEG. -/
def Obligations.SectionArithmetic : Prop :=
  (∀ (c : Sec) (st : Int × Int) (x : Int),
    -2 ^ 31 ≤ (secEval c st x).1 ∧ (secEval c st x).1 < 2 ^ 31 ∧ -2 ^ 47 ≤ (secEval c st x).2.1 ∧ (secEval c st x).2.1 < 2 ^ 47 ∧
    -2 ^ 47 ≤ (secEval c st x).2.2 ∧ (secEval c st x).2.2 < 2 ^ 47) ∧
  (∀ c : Sec, secCheck c = 0 →
    -2 ^ 30 < c.a2 ∧ c.a2 < 2 ^ 30 ∧ -2 ^ 31 < c.a1 ∧ c.a1 < 2 ^ 31 ∧
    (2 ^ 30 + c.a1 + c.a2 = 0 → c.integ = true ∧ 0 < c.b0 + c.b1 + c.b2) ∧
    (2 ^ 30 + c.a1 + c.a2 ≠ 0 → 0 < 2 ^ 30 + c.a1 + c.a2 ∧ 0 < 2 ^ 30 - c.a1 + c.a2)) ∧
  (∀ (cs : List Sec) (sts : List (Int × Int)) (x : Int), (cascEval cs sts x).2.length = cs.length)

/-- CLASS_SAMPLE, CLASS_PUBLISH and CLASS_OVERRUN (R163, R166, R169, R170, R309): a sample of a class starts at its next boundary,
publishes with its worst time and ends its run of overruns, or is discarded at its deadline and counted. A write of a loop's
attribute is taken by the first sample of the loop's class from its instant on, one of a class's CFG at a boundary of the old
period (R175). CORE_SELF_TEST and CORE_MEMORY_ERROR (R172): a core that fails is removed at the next class A boundary, with every sample in
progress discarded; the last core's removal ends in a WDR, whose firmware checkpoint is free; a self-test that passes changes
nothing. -/
def Obligations.ClassesAndCores : Prop :=
  ((∀ (s : State) (k b : Nat) (ax : List AxisIn), s.sized = true → k < 4 → s.phase = .active → (s.cls k).prog = none →
    b = max (nextMultiple (max 1 (clsPeriod s.toBlock k)) (s.cls k).last) (ceilMultiple (max 1 (clsPeriod s.toBlock k))
      (s.clk.tb - (classStart s.toBlock k s.clk.tb - s.clk.tb))) → (∀ w ∈ s.late, w.a ≠ clsCfg k) →
    ∃ t, exec (.classSample k ax) s = .next t ∧ (t.cls k).last = b ∧
      ((k ≠ 1 ∨ s.role ≠ 1) → (∀ w ∈ s.late, b < w.due) → t.clk.tb = s.tbAt (classStart s.toBlock k b) ∧
        (t.cls k).prog = (if (coresOn s.toBlock).isEmpty then none else some b))) ∧
  (∀ (s : State) (k ns b : Nat), s.sized = true → k < 4 → s.phase = .active → (s.cls k).prog = some b → ns ≤ (s.cls k).dl →
    s.clk.tb ≤ b + ns →
    ∃ t, exec (.classPublish k ns) s = .next t ∧ t.clk.tb = s.tbAt (b + ns) ∧ (t.cls k).prog = none ∧ (t.cls k).tent = [] ∧
      (t.cls k).done = b ∧ (t.cls k).ovr = 0 ∧ t.get (clsTime k) = max (s.get (clsTime k)) ns % 2 ^ widthOf (clsTime k) ∧
      t.fget (clsStat k) 7 0 = 0 ∧ ((s.cls k).ovr ≠ 0 → t.reports 0x75 sevInfo 0 (clsObj k) ((s.cls k).ovr % 2 ^ 32)) ∧
      (s.paired = true → s.pairState = 2 → s.dupId = false → ∃ n u, t.net.head? = some (.unit n u) ∧ u.k = k ∧ u.bnd = b)) ∧
  (∀ (s : State) (k c b : Nat), s.sized = true → k < 4 → c < 4 → s.phase = .active → (s.cls k).prog = some b →
    ∃ t, exec (.classOverrun k c) s = .next t ∧ t.clk.tb = s.tbAt (b + (s.cls k).dl) ∧ (t.cls k).prog = none ∧
      (t.cls k).tent = [] ∧ (t.cls k).ovr = (s.cls k).ovr + 1 ∧ (t.cls k).done = (s.cls k).done ∧
      t.fget (clsCount k) 31 0 = satInc 32 (s.fget (clsCount k) 31 0) ∧
      ((s.standby = true ∨ satInc 8 (s.fget (clsStat k) 7 0) < s.fget (clsCfg k) 47 40) →
        t.fget (clsStat k) 7 0 = satInc 8 (s.fget (clsStat k) 7 0) ∧ t.fget (clsCount k) 63 32 = s.fget (clsCount k) 63 32 ∧
        ((s.cls k).ovr = 0 → t.reports 0x70 sevWarn 0 (clsObj k) (pack [(k, 0), (c, 2)]))) ∧
      (s.standby = false → s.fget (clsCfg k) 47 40 ≤ satInc 8 (s.fget (clsStat k) 7 0) →
        t.fget (clsStat k) 7 0 = 0 ∧ t.fget (clsCount k) 63 32 = satInc 32 (s.fget (clsCount k) 63 32))) ∧
  (∀ (s : State) (k n att v e due b : Nat) (a : Attr) (ax : List AxisIn), s.sized = true → k < 4 → n < 256 → s.phase = .active →
    (s.cls k).prog = none → lpClass s.toBlock n = k → a = ⟨7, 0, n, att⟩ →
    att ∈ [0x020, 0x021, 0x022, 0x023, 0x024, 0x025, 0x026, 0x027, 0x028, 0x029, 0x02A] → s.late = [⟨a, .num v, e, due⟩] →
    b = classNext s.toBlock k 0 →
    ∃ t, exec (.classSample k ax) s = .next t ∧ (due ≤ b → t.get a = v % 2 ^ widthOf a ∧ t.late = []) ∧
      (b < due → t.get a = s.get a ∧ t.late = s.late)) ∧
  (∀ (s : State) (k v e due b p : Nat) (ax : List AxisIn), s.sized = true → k < 4 → s.phase = .active → (s.cls k).prog = none →
    s.late = [⟨clsCfg k, .num v, e, due⟩] → b = classNext s.toBlock k 0 → p = fld v 31 0 * 4 → 0 < p → due ≤ b →
    ∃ t, exec (.classSample k ax) s = .next t ∧ t.get (clsCfg k) = v % 2 ^ widthOf (clsCfg k) ∧ t.late = [] ∧
      p ∣ (t.cls k).last ∧ b ≤ (t.cls k).last ∧ (t.cls k).last < b + p)) ∧
  ((∀ (s : State) (c : Nat), c < 4 → exec (.coreSelfTest c true) s = .next s) ∧
  (∀ (s : State) (c d : Nat) (x : Instr), x = .coreSelfTest c false ∨ x = .coreMemoryError c → s.sized = true → c < 4 →
    s.phase = .active → coreOn s.toBlock c = true → d ≠ c → coreOn s.toBlock d = true → d < 4 →
    ∃ t, exec x s = .next t ∧ t.phase = .active ∧ t.bit (coreStat c) 2 = true ∧ coreOn t.toBlock c = false ∧
      coreOn t.toBlock d = true ∧ (∀ k < 4, (t.cls k).prog = none ∧ (t.cls k).tent = []) ∧
      t.clk.tb = s.tbAt (ceilMultiple (max 1 (clsPeriod s.toBlock 0)) s.clk.tb)) ∧
  (∀ (s : State) (c : Nat) (x : Instr), x = .coreSelfTest c false ∨ x = .coreMemoryError c → s.sized = true → c < 4 →
    s.phase = .active → coreOn s.toBlock c = true → (∀ d < 4, d ≠ c → coreOn s.toBlock d = false) →
    ∃ t f, exec x s = .next t ∧ t.phase = .pending ∧ t.rst.kind = .wdr ∧ t.rst.wdCheck = Config.freeNat f % 2 ^ 32 ∧
      t.mram.overlay = s.mram.overlay ∧ t.modeNo = 0))

/-- SWAP, BANK_WRITE, CLEAR_PLAUS and RESTORE (R156, R157, R162, R171, R176), in a module that is no head: an accepted SWAP pends, a bank
write fills the inactive bank; CLEAR_PLAUS and RESTORE take effect at the first boundary of their class 2 µs on, where the latch is
cleared and shed items come back, last shed first; a refused SWAP raises 0x7B. -/
def Obligations.LoopCommands : Prop :=
  (∀ (s : State) (i n : Nat), s.sized = true → n < 256 → s.role ≠ 2 → s.mayWrite i (lpBankCmd n) → (swapCheck n s.counted).1 = 0 →
    ∃ t, exec (.swap i n) s = .next t ∧ t.answers i 0 ∧ (t.lch n).swapAt = some s.clk.raw ∧ t.bit (lpStat n) 17 = true ∧
      t.bit (lpStat n) 16 = s.bit (lpStat n) 16 ∧ t = { s with regs := t.regs, serac := t.serac, host := t.host, evq := t.evq } ∧
      s.keepsRegs t.toBlock [lpStat n, hostCount, evtLost]) ∧
  (∀ (s : State) (i n : Nat), n < 256 → s.paired = false → s.mayWrite i (lpBankCmd n) → (swapCheck n s.counted).1 ≠ 0 →
    ∃ t d, exec (.swap i n) s = .next t ∧ t.answers i (swapCheck n s.counted).1 ∧ t.reports 0x7B sevWarn 0 (lpObj n) d ∧
      t = { s with regs := t.regs, host := t.host, evq := t.evq } ∧ s.keepsRegs t.toBlock [hostCount, evtLost]) ∧
  (∀ (s : State) (i n : Nat) (b : Bool) (x : Table), n < 256 → s.role ≠ 2 → s.mayWrite i (lpBank n b) →
    bankWriteCheck n b x s.counted = 0 →
    ∃ t, exec (.bankWrite i n b x) s = .next t ∧ t.answers i 0 ∧ t.tab (lpBank n b) = some x ∧
      t.tab (lpBank n (!b)) = s.tab (lpBank n (!b)) ∧ lpBank n b ∈ t.vol ∧
      t = { s with regs := t.regs, tabs := t.tabs, vol := t.vol, host := t.host, evq := t.evq } ∧
      s.keepsRegs t.toBlock [hostCount, evtLost]) ∧
  (∀ (s : State) (i n : Nat), n < 256 → s.role ≠ 2 → s.mayWrite i (lpCmd n) → s.bit (lpStat n) 15 = true →
    ∃ t, exec (.clearPlaus i n) s = .next t ∧ t.answers i 0 ∧ t.late = s.late ++ [⟨lpCmd n, .num 1, i, s.clk.tb + 2000⟩] ∧
      t = { s with regs := t.regs, late := t.late, host := t.host, evq := t.evq } ∧ s.keepsRegs t.toBlock [hostCount, evtLost]) ∧
  (∀ (s : State) (i k : Nat), s.sized = true → k < 4 → s.role ≠ 2 → s.mayWrite i (clsCmd k) → restoreCheck k s.counted = 0 →
    ∃ t, exec (.restore i k) s = .next t ∧ t.answers i 0 ∧ t.late = s.late ++ [⟨clsCmd k, .num 1, i, s.clk.tb + 2000⟩] ∧
      t = { s with regs := t.regs, late := t.late, host := t.host, evq := t.evq } ∧ s.keepsRegs t.toBlock [hostCount, evtLost]) ∧
  (∀ (s : State) (k n e due : Nat) (ax : List AxisIn), s.sized = true → k < 4 → n < 256 → s.phase = .active → (s.cls k).prog = none →
    lpClass s.toBlock n = k → s.late = [⟨lpCmd n, .num 1, e, due⟩] → due ≤ classNext s.toBlock k 0 →
    ∃ t, exec (.classSample k ax) s = .next t ∧ t.late = [] ∧ t.bit (lpStat n) 15 = false) ∧
  (∀ (s : State) (k e due : Nat) (ax : List AxisIn), s.sized = true → k < 4 → s.phase = .active → (s.cls k).prog = none →
    s.late = [⟨clsCmd k, .num 1, e, due⟩] → due ≤ classNext s.toBlock k 0 → restoreCheck k s.toBlock = 0 →
    ∃ t m, exec (.classSample k ax) s = .next t ∧ t.late = [] ∧ m = (s.cls k).shed.length - (t.cls k).shed.length ∧ 0 < m ∧
      (t.cls k).shed = (s.cls k).shed.drop m)

/-- LINE_START, LINE_STOP, NEXT_STEP, COOL_RUN, OBSERVE, CLEAR_CORR and CLEAR_HOLD (R191, R195 to R197, R199, R203), in a module
that is no head: a step change waits for the next class D boundary; an observation waits for the next model step; corrections and the
latches of absent conditions are cleared. STATIC_OBSERVATION, PROGRAM_TIMER_EXPIRY, AERATION_WINDOW, CHECKPOINT and CHECKPOINT_COMMIT (R189, R196, R198, R201). -/
def Obligations.LineWork : Prop :=
  ((∀ (s : State) (i l op st : Nat) (c : Instr),
    (c, op, st) ∈ [(Instr.lineStart i l, 1, match lnProg s.seen l with | 0 => 1 | 1 => 6 | _ => 9), (.lineStop i l, 2, 0),
      (.nextStep i l, 3, nextStep (s.nch l).step), (.coolRun i l, 7, 10)] →
    s.sized = true → l < 8 → s.role ≠ 2 → s.mayWrite i (lnCmd l) → lnCmdCheck op l 0 s.counted = 0 →
    ∃ t, exec c s = .next t ∧ t.answers i 0 ∧ t.nch l = { s.nch l with pend := some (st, 2) } ∧
      t = { s with regs := t.regs, line := t.line, host := t.host, evq := t.evq } ∧ s.keepsRegs t.toBlock [hostCount, evtLost]) ∧
  (∀ (s : State) (i l pos m : Nat), s.sized = true → l < 8 → s.role ≠ 2 → s.mayWrite i (lnCmd l) →
    lnCmdCheck 4 l pos s.counted = 0 → m < 65536 →
    ∃ t, exec (.observe i l pos m) s = .next t ∧ t.answers i 0 ∧
      t.nch l = { s.nch l with asked := (s.nch l).asked ++ [(pos, (m : Int) * 65536, none)] } ∧
      t = { s with regs := t.regs, line := t.line, host := t.host, evq := t.evq } ∧ s.keepsRegs t.toBlock [hostCount, evtLost]) ∧
  (∀ (s : State) (i l : Nat), s.sized = true → l < 8 → s.role ≠ 2 → s.mayWrite i (lnCmd l) → lnCmdCheck 5 l 0 s.counted = 0 →
    ∃ t, exec (.clearCorr i l) s = .next t ∧ t.answers i 0 ∧ (∀ p ∈ (t.nch l).pos, p.corr = 0) ∧
      (t.nch l).pos.length = (s.nch l).pos.length ∧ (t.nch l).rejRun = 0 ∧ t.bit (lnStat l) 8 = false ∧
      t = { s with regs := t.regs, line := t.line, host := t.host, evq := t.evq } ∧
      s.keepsRegs t.toBlock [lnStat l, hostCount, evtLost]) ∧
  (∀ (s : State) (i l : Nat), s.sized = true → l < 8 → s.role ≠ 2 → s.mayWrite i (lnCmd l) → lnCmdCheck 6 l 0 s.counted = 0 →
    ∃ t, exec (.clearHold i l) s = .next t ∧ t.answers i 0 ∧ (∀ k ∈ (t.nch l).latch, k ∈ (s.nch l).latch) ∧
      (s.modeNo = 2 → ∀ k ∈ (s.nch l).latch, (k ∈ (t.nch l).latch ↔ k ∈ (s.nch l).holdNow)) ∧
      t = { s with regs := t.regs, line := t.line, host := t.host, evq := t.evq } ∧ s.keepsRegs t.toBlock [hostCount, evtLost])) ∧
  ((∀ (s : State) (l : Nat), s.sized = true → l < 8 → lnOn s.toBlock l = true → s.bit (lnObs l) 63 = true →
    ∃ t, exec (.staticObservation l) s = .next t ∧ t.nch l = { s.nch l with staticD := true } ∧
      t.clk.tb = s.tbAt ((s.nch l).lastObs + s.fget (lnObs l) 207 192 * nsPerS) ∧
      t = { s with regs := t.regs, clk := t.clk, line := t.line } ∧ s.keepsRegs t.toBlock [timeRtc]) ∧
  (∀ (s : State) (l left next : Nat), s.sized = true → l < 8 → lnOn s.toBlock l = true → s.modeNo = 2 → (s.nch l).pend = none →
    stepTimer s.toBlock l = some (left, next) →
    ∃ t cause, exec (.programTimerExpiry l) s = .next t ∧ t.nch l = { s.nch l with pend := some (next, cause) } ∧
      t.clk.tb = s.tbAt ((s.nch l).lastTs + left) ∧ ((s.nch l).step = 2 → next = 3 ∧ t.bit (lnStat l) 15 = true) ∧
      t = { s with regs := t.regs, clk := t.clk, line := t.line } ∧ s.keepsRegs t.toBlock [lnStat l, timeRtc]) ∧
  (∀ (s : State) (l w at' : Nat), s.sized = true → l < 8 → w < 2 → lnOn s.toBlock l = true → lnProg s.toBlock l = 2 →
    (if w = 0 then (s.nch l).winC else (s.nch l).winD) = some at' →
    ∃ t, exec (.aerationWindow l w) s = .next t ∧ t.bit (lnStat l) (16 + w) = (!s.bit (lnStat l) (16 + w)) ∧
      t.clk.tb = s.tbAt (ceilMultiple (max 1 (clsPeriod s.toBlock 3)) (at' + windowWait s.toBlock l w))) ∧
  (∀ s : State, s.phase = .active →
    ∃ t ts, exec .checkpoint s = .next t ∧ ts % (10 * nsPerS) = 0 ∧ t.clk.tb = s.tbAt ts ∧
      t.line.copy = some (ts, lineCopy s.toBlock) ∧ t = { s with regs := t.regs, clk := t.clk, line := t.line } ∧
      s.keepsRegs t.toBlock [timeRtc]) ∧
  (∀ (s : State) (ts : Nat) (c : List (Nat × LineCh)), s.phase = .active → s.line.copy = some (ts, c) → s.mram.ckpt.length = 2 →
    ∃ t k, exec .checkpointCommit s = .next t ∧ t.line.copy = none ∧ t.clk.tb = s.tbAt (ts + 9500000000) ∧
      ckptCurrent t.mram.ckpt = some k ∧ k.ts = ts ∧ k.lines = c ∧ (∀ a, some a ∈ s.mram.ckpt → a.seq < k.seq) ∧
      t = { s with regs := t.regs, clk := t.clk, line := t.line, mram := t.mram }))

/-- AXIS_START, AXIS_CATCH_DONE, AXIS_ALIGN_DONE, AXIS_START_CHECK, AXIS_RETRY_WAIT_END and AXIS_ATTEMPTS_RESET (R213, R215, R216,
R224): the start sequence of an axis where nothing fails, and what it does without a start request. Start failures (R214, R215, R224), by AXIS_ALIGN_DONE, AXIS_START_CHECK and AXIS_OPEN_PHASE: one more attempt, a wait of 10, 30,
90 or 300 s, or STALLED with 0xA2 when ATTEMPTS reaches ATT_MAX. -/
def Obligations.AxisStartSequence : Prop :=
  ((∀ (s : State) (a : Nat), s.sized = true → a < 12 → s.phase = .active → axSt s.toBlock a = 1 → axMayStart s.toBlock a = true →
    ∃ t, exec (.axisStart a) s = .next t ∧ axSt t.toBlock a = 2 ∧ (t.xch a).ref = 0 ∧ (t.xch a).catchAt = t.clk.raw ∧
      t.clk.tb = s.tbAt (ceilMultiple (max 1 (clsPeriod s.toBlock 0)) s.clk.tb) ∧
      t.fget (axCount a) 31 0 = satInc 32 (s.fget (axCount a) 31 0) ∧ t.reports 0xA0 sevInfo 0 (axObj a) (1 + 2 * 256) ∧
      t = { s with regs := t.regs, clk := t.clk, axis := t.axis, evq := t.evq } ∧
      s.keepsRegs t.toBlock [axStat a, axCount a, timeRtc, evtLost]) ∧
  (∀ (s : State) (a : Nat), a < 12 → s.phase = .active → axSt s.toBlock a = 1 → axOn s.toBlock a = true →
    (axTarget s.toBlock a).isSome = true → s.bit (axStat a) 15 = true →
    ∃ t, exec (.axisStart a) s = .next t ∧ t.reports 0xAC sevWarn 0 (axObj a) 0 ∧ t = { s with regs := t.regs, evq := t.evq } ∧
      s.keepsRegs t.toBlock [evtLost]) ∧
  (∀ (s : State) (a : Nat) (found : Bool) (v : Int), s.sized = true → a < 12 → axSt s.toBlock a = 2 →
    ∃ t, exec (.axisCatchDone a found v) s = .next t ∧
      t.clk.raw = s.rawAt ((s.xch a).catchAt + (if axPm s.toBlock a then 3000000 else if found then 0 else 500000000)) ∧
      (axTarget s.toBlock a = none → axSt t.toBlock a = 1 ∧ (t.xch a).duty = (0, 0, 0)) ∧
      ((axTarget s.toBlock a).isSome = true → found = true → axSlMin s.toBlock a ≤ v.natAbs →
        axSt t.toBlock a = 5 ∧ (t.xch a).ref = v * 1000000000) ∧
      ((axTarget s.toBlock a).isSome = true → (found = false ∨ v.natAbs < axSlMin s.toBlock a) →
        axSt t.toBlock a = 3 ∧ (t.xch a).ref = 0) ∧
      t = { s with regs := t.regs, clk := t.clk, axis := t.axis, evq := t.evq } ∧
      s.keepsRegs t.toBlock [axStat a, timeRtc, evtLost]) ∧
  (∀ (s : State) (a flux : Nat), s.sized = true → a < 12 → axSt s.toBlock a = 3 →
    (axTarget s.toBlock a = none ∨ axPm s.toBlock a = true ∨ 80 ≤ flux) →
    ∃ t, exec (.axisAlignDone a flux) s = .next t ∧ axSt t.toBlock a = (if (axTarget s.toBlock a).isSome then 4 else 1) ∧
      t.clk.raw = s.rawAt ((s.xch a).at' +
        (if axPm s.toBlock a then 200000000 else s.fget (axStart a) 127 112 * 1000000)) ∧
      t = { s with regs := t.regs, clk := t.clk, axis := t.axis, evq := t.evq } ∧
      s.keepsRegs t.toBlock [axStat a, timeRtc, evtLost]) ∧
  (∀ (s : State) (a bemf : Nat) (reached : Bool) (v : Int), s.sized = true → a < 12 → axSt s.toBlock a = 4 →
    axTarget s.toBlock a = some v → (axPm s.toBlock a = true → 50 ≤ bemf) → (axPm s.toBlock a = false → reached = true) →
    (s.fget (axCfg a) 4 3 = 0 ∨ s.fget (axStart a) 63 32 ≤ 2 * (axFbSpeed s.toBlock a).natAbs) →
    ∃ t, exec (.axisStartCheck a bemf reached) s = .next t ∧ axSt t.toBlock a = 5 ∧
      (t.xch a).ref = (if v < 0 then -1 else 1) * (s.fget (axStart a) 63 32 : Int) * 1000000000 ∧
      t = { s with regs := t.regs, clk := t.clk, axis := t.axis, evq := t.evq } ∧
      s.keepsRegs t.toBlock [axStat a, timeRtc, evtLost]) ∧
  (∀ (s : State) (a : Nat), s.sized = true → a < 12 → axSt s.toBlock a = 7 →
    ∃ t, exec (.axisRetryWaitEnd a) s = .next t ∧ axSt t.toBlock a = (if axMayStart s.toBlock a then 2 else axRest s.toBlock a) ∧
      t.fget (axStat a) 23 16 = s.fget (axStat a) 23 16 ∧ s.rawAt (s.xch a).waitEnd ≤ t.clk.raw ∧
      t = { s with regs := t.regs, clk := t.clk, axis := t.axis, evq := t.evq } ∧
      s.keepsRegs t.toBlock [axStat a, axCount a, timeRtc, evtLost]) ∧
  (∀ (s : State) (a : Nat), a < 12 → axSt s.toBlock a = 5 →
    ∃ t, exec (.axisAttemptsReset a) s = .next t ∧ t.fget (axStat a) 23 16 = 0 ∧ axSt t.toBlock a = 5 ∧
      t.clk.raw = s.rawAt ((s.xch a).at' + 60 * nsPerS) ∧ t = { s with regs := t.regs, clk := t.clk } ∧
      s.keepsRegs t.toBlock [axStat a, timeRtc])) ∧
  (∀ (s : State) (a : Nat) (c : Instr), s.sized = true → a < 12 →
    ((∃ flux, c = .axisAlignDone a flux ∧ axSt s.toBlock a = 3 ∧ axPm s.toBlock a = false ∧ flux < 80 ∧
        (axTarget s.toBlock a).isSome = true) ∨
     (∃ bemf r, c = .axisStartCheck a bemf r ∧ axSt s.toBlock a = 4 ∧ (axTarget s.toBlock a).isSome = true ∧
        ((axPm s.toBlock a = true ∧ bemf < 50) ∨ (axPm s.toBlock a = false ∧ r = false))) ∨
     (∃ iu iv iw, c = .axisOpenPhase a iu iv iw ∧ (axSt s.toBlock a = 4 ∨ axSt s.toBlock a = 5) ∧
        3 * s.get (axCurLimit a) ^ 2 ≤ 25 * (iu ^ 2 + iv ^ 2 + iw ^ 2) ∧
        ((10 * iu < iv ∧ 10 * iu < iw) ∨ (10 * iv < iu ∧ 10 * iv < iw) ∨ (10 * iw < iu ∧ 10 * iw < iv)))) →
    ∃ t n, exec c s = .next t ∧ n = satInc 8 (s.fget (axStat a) 23 16) ∧ t.fget (axStat a) 23 16 = n ∧
      t.fget (axCount a) 63 32 = satInc 32 (s.fget (axCount a) 63 32) ∧ (t.xch a).ref = 0 ∧ (t.xch a).duty = (0, 0, 0) ∧
      (s.fget (axCfg a) 23 16 ≤ n → axSt t.toBlock a = 8 ∧ t.reports 0xA2 sevFault 0 (axObj a) 0) ∧
      (n < s.fget (axCfg a) 23 16 → axSt t.toBlock a = 7 ∧
        (t.xch a).waitEnd = t.clk.raw + (if n = 1 then 10 else if n = 2 then 30 else if n = 3 then 90 else 300) * nsPerS) ∧
      t = { s with regs := t.regs, clk := t.clk, axis := t.axis, evq := t.evq } ∧
      s.keepsRegs t.toBlock [axStat a, axCount a, timeRtc, evtLost])

/-- AXIS_STOP, AXIS_RAMP_STOP_DONE, AXIS_TRIP, BFLT_FAULT, AXIS_DC_UNDERVOLTAGE, AXIS_UV_RECOVERY, AXIS_TRIP_AUTO_CLEAR and
AXIS_CLEAR (R215, R217, R223 to R226, R231): what ends a run with the gates off, and what lets it start again. A CFG that waited for
the axis to stop is applied then (the model's reading, log entry 17). -/
def Obligations.AxisStops : Prop :=
  (∀ (s : State) (a : Nat), s.sized = true → a < 12 → s.phase = .active → axTarget s.toBlock a = none → 2 ≤ axSt s.toBlock a →
    axSt s.toBlock a ≤ 5 →
    ∃ t, exec (.axisStop a) s = .next t ∧ axSt t.toBlock a = (if axSt s.toBlock a = 5 ∧ s.bit (axCfg a) 9 = true then 6 else 1) ∧
      t.clk.tb = s.tbAt (ceilMultiple (max 1 (clsPeriod s.toBlock 0)) s.clk.tb) ∧
      t = { s with regs := t.regs, clk := t.clk, axis := t.axis, evq := t.evq } ∧
      s.keepsRegs t.toBlock [axStat a, timeRtc, evtLost]) ∧
  (∀ (s : State) (a : Nat), s.sized = true → a < 12 → axSt s.toBlock a = 6 → (s.xch a).ref = 0 → (s.xch a).cfgNext = none →
    ∃ t, exec (.axisRampStopDone a) s = .next t ∧ axSt t.toBlock a = 1 ∧ (t.xch a).duty = (0, 0, 0) ∧
      t = { s with regs := t.regs, axis := t.axis, evq := t.evq } ∧ s.keepsRegs t.toBlock [axStat a, evtLost]) ∧
  (∀ (s : State) (a k p u : Nat) (v : Int) (c : Instr), (c = .axisTrip a p v u ∧
      ((k = 1 ∧ u < 64 ∧ p ≠ 3 ∧ s.fget (axScale a) 127 96 < v.natAbs) ∨ (k = 2 ∧ u < 64 ∧ p = 3 ∧ (s.fget (axProt a) 15 0 : Int) < v) ∨
        (k = 3 ∧ 64 ≤ u))) ∨ (c = .bfltFault a ∧ k = 4) → s.sized = true →
    a < 12 → s.phase = .active → axOn s.toBlock a = true → axSwitching (axSt s.toBlock a) = true →
    ∃ t, exec c s = .next t ∧ axSt t.toBlock a = 9 ∧ t.fget (axStat a) 26 24 = k ∧ (t.xch a).duty = (0, 0, 0) ∧
      t.fget (axCount a) 95 64 = satInc 32 (s.fget (axCount a) 95 64) ∧
      t = { s with regs := t.regs, axis := t.axis, evq := t.evq } ∧ s.keepsRegs t.toBlock [axStat a, axCount a, evtLost]) ∧
  (∀ (s : State) (a p u : Nat) (v : Int) (c : Instr), (c = .axisTrip a p v u ∧ axTripCause s.toBlock a p v u ≠ 0) ∨ c = .bfltFault a →
    a < 12 → s.phase = .active → axOn s.toBlock a = true → axSwitching (axSt s.toBlock a) = false →
    ∃ t, exec c s = .next t ∧ t.bit (axStat a) 15 = true ∧ axSt t.toBlock a = axSt s.toBlock a ∧
      (axSt s.toBlock a = 1 → (axTarget s.toBlock a).isSome = true → s.bit (axStat a) 15 = false →
        t.reports 0xAC sevWarn 0 (axObj a) 0) ∧
      t = { s with regs := t.regs, evq := t.evq } ∧ s.keepsRegs t.toBlock [axStat a, evtLost]) ∧
  (∀ (s : State) (a : Nat) (v : Int), s.sized = true → a < 12 → s.phase = .active → axOn s.toBlock a = true →
    axSwitching (axSt s.toBlock a) = true → v < s.fget (axProt a) 31 16 →
    ∃ t, exec (.axisDcUndervoltage a v) s = .next t ∧ axSt t.toBlock a = 11 ∧ (t.xch a).duty = (0, 0, 0) ∧
      t.reports 0xA5 sevWarn 0 (axObj a) 0 ∧ t = { s with regs := t.regs, axis := t.axis, evq := t.evq } ∧
      s.keepsRegs t.toBlock [axStat a, evtLost]) ∧
  (∀ (s : State) (a : Nat) (v : Int), s.sized = true → a < 12 → axSt s.toBlock a = 11 →
    105 * (s.fget (axProt a) 31 16 : Int) < 100 * v → (s.xch a).cfgNext = none →
    ∃ t, exec (.axisUvRecovery a v) s = .next t ∧ axSt t.toBlock a = (if axMayStart s.toBlock a then 2 else axRest s.toBlock a) ∧
      t = { s with regs := t.regs, axis := t.axis, evq := t.evq } ∧ s.keepsRegs t.toBlock [axStat a, axCount a, evtLost]) ∧
  (∀ (s : State) (a : Nat), s.sized = true → a < 12 → axSt s.toBlock a = 9 → s.bit (axCfg a) 10 = true → (s.xch a).autoClr = [] →
    (s.xch a).cfgNext = none →
    ∃ t, exec (.axisTripAutoClear a) s = .next t ∧ axSt t.toBlock a = (if axMayStart s.toBlock a then 2 else axRest s.toBlock a) ∧
      t.fget (axStat a) 26 24 = 0 ∧ t.clk.raw = s.rawAt ((s.xch a).at' + 5 * nsPerS) ∧ (t.xch a).autoClr = [t.clk.raw] ∧
      t = { s with regs := t.regs, clk := t.clk, axis := t.axis, evq := t.evq } ∧
      s.keepsRegs t.toBlock [axStat a, axCount a, timeRtc, evtLost]) ∧
  (∀ (s : State) (a x y z : Nat) (r : List Nat), a < 12 → axSt s.toBlock a = 9 → s.bit (axCfg a) 10 = true →
    (s.xch a).autoClr = x :: y :: z :: r →
    (∀ u ∈ [x, y, z], s.rawAt ((s.xch a).at' + 5 * nsPerS) < u + 3600 * nsPerS) →
    ∃ t, exec (.axisTripAutoClear a) s = .next t ∧ axSt t.toBlock a = 9 ∧ t = { s with regs := t.regs, clk := t.clk } ∧
      s.keepsRegs t.toBlock [timeRtc]) ∧
  (∀ (s : State) (i a : Nat) (present : Bool), s.sized = true → a < 12 → s.mayWrite i (axCmd a) →
    axClearCheck a present s.counted = 0 → (s.xch a).cfgNext = none →
    ∃ t, exec (.axisClear i a present) s = .next t ∧ t.answers i 0 ∧
      axSt t.toBlock a = (if axMayStart s.toBlock a then 2 else axRest s.toBlock a) ∧ t.fget (axStat a) 23 16 = 0 ∧
      (axSt s.toBlock a = 9 → t.fget (axStat a) 26 24 = 0) ∧
      t = { s with regs := t.regs, axis := t.axis, host := t.host, evq := t.evq } ∧
      s.keepsRegs t.toBlock [axStat a, axCount a, hostCount, evtLost]) ∧
  ((∀ (s : State) (i a v : Nat) (c : Instr), s.sized = true → a < 12 → (s.xch a).cfgNext = some v → v < 2 ^ 32 →
    ((c = .axisRampStopDone a ∧ axSt s.toBlock a = 6 ∧ (s.xch a).ref = 0) ∨
     (c = .axisClear i a false ∧ s.mayWrite i (axCmd a) ∧ axClearCheck a false s.counted = 0)) →
    ∃ t, exec c s = .next t ∧ t.get (axCfg a) = v ∧ (t.xch a).cfgNext = none ∧ (t.xch a).duty = (0, 0, 0) ∧
      (bitAt v 0 = false → axSt t.toBlock a = 0) ∧
      t = { s with regs := t.regs, axis := t.axis, host := t.host, evq := t.evq } ∧
      s.keepsRegs t.toBlock [axCfg a, axStat a, axCount a, axsStat, hostCount, evtLost]))

/-- TACH_LOSS, AXIS_CUR_LIM, BRIDGE_NRDY_CLEAR and BARO_SAMPLE (R211, R218, R221, R224). The two gates of a leg are on only while the
axis switches, never at ticks of a carrier period that are DT or less apart (R206, R207). -/
def Obligations.AxisMonitors : Prop :=
  (∀ (s : State) (a cond since : Nat), a < 12 → axSt s.toBlock a = 5 → s.fget (axCfg a) 4 3 ≠ 0 → s.bit (axStat a) 6 = false →
    axSlMin s.toBlock a ≤ (s.xch a).est.natAbs →
    ((cond = 1 ∧ 2000000 ≤ since ∧ 3 * 600 * nsPerS ≤ since * (s.xch a).est.natAbs * encCpr s.toBlock (s.fget (axCfg a) 7 5)) ∨
     (cond = 2 ∧ (s.xch a).est.natAbs < 5 * (axFbSpeed s.toBlock a - (s.xch a).est).natAbs) ∨
     (cond = 3 ∧ s.bit (encStat (s.fget (axCfg a) 7 5)) 2 = true)) →
    ∃ t, exec (.tachLoss a cond since) s = .next t ∧ t.bit (axStat a) 6 = true ∧ t.bit (axStat a) 7 = true ∧ axSt t.toBlock a = 5 ∧
      t.fget (axCount a) 127 96 = satInc 32 (s.fget (axCount a) 127 96) ∧
      t.reports 0xA7 sevWarn 0 (axObj a) (cond + ofS 32 (s.xch a).est * 2 ^ 32) ∧
      t = { s with regs := t.regs, evq := t.evq } ∧ s.keepsRegs t.toBlock [axStat a, axCount a, evtLost]) ∧
  (∀ (s : State) (a from' : Nat), a < 12 → (s.xch a).curFrom = some from' → s.bit (axStat a) 8 = false →
    ∃ t, exec (.axisCurLim a) s = .next t ∧ t.bit (axStat a) 8 = true ∧ t.clk.raw = s.rawAt (from' + 5 * nsPerS) ∧
      t.reports 0xA9 sevWarn 0 (axObj a) (axLimit s.toBlock a) ∧
      t = { s with regs := t.regs, clk := t.clk, evq := t.evq } ∧ s.keepsRegs t.toBlock [axStat a, timeRtc, evtLost]) ∧
  (∀ (s : State) (a : Nat), a < 12 → s.phase = .active → s.bit (axStat a) 15 = true → axSwitching (axSt s.toBlock a) = false →
    ∃ t, exec (.bridgeNrdyClear a) s = .next t ∧ t.bit (axStat a) 15 = false ∧ t.reports 0xAC sevInfo 0 (axObj a) 0 ∧
      t = { s with regs := t.regs, evq := t.evq } ∧ s.keepsRegs t.toBlock [axStat a, evtLost]) ∧
  (∀ (s : State) (p : Nat) (ok : Bool), s.phase = .active → p < 2 ^ 32 →
    ∃ t good, exec (.baroSample p ok) s = .next t ∧ good = (ok && decide (50000 ≤ p) && decide (p ≤ 115000)) ∧
      t.fget axsBaro 95 64 = p ∧ t.bit axsStat 0 = good ∧ t.axis.baroAt = t.clk.raw + 100000000 ∧
      t.clk.raw = s.rawAt s.axis.baroAt ∧
      (s.bit axsStat 0 ≠ good → t.reports 0xAB (if good then sevInfo else sevWarn) 0 axsObj 0) ∧
      t = { s with regs := t.regs, clk := t.clk, axis := t.axis, evq := t.evq } ∧
      s.keepsRegs t.toBlock [axsBaro, axsStat, timeRtc, evtLost]) ∧
  (∀ (s : State) (a leg k k' : Nat), (axGate s.toBlock a leg k).1 = true → (axGate s.toBlock a leg k').2 = true →
    axSwitching (axSt s.toBlock a) = true ∧
      (k + s.fget (axPwm a) 27 16 < k' ∨ k' + s.fget (axPwm a) 27 16 < k))

/-- PULLIN_START, PULLIN_END and PULLIN_DEADLINE (R234, R239 to R241): at most three pull-ins run in the module; a request that
may start does, one that may not is deferred; an ended pull-in goes to hold; a request at its deadline is refused with 0xC0. -/
def Obligations.PullIns : Prop :=
  (∀ s : State, s.phase = .active → vQueued s.toBlock ≠ 0 → s.sized = true → vRunning s.toBlock ≤ 3 →
    ∃ t, exec .pullinStart s = .next t ∧ t.clk.tb = s.tbAt (ceilMultiple 1000 s.clk.tb) ∧ vRunning t.toBlock ≤ 3 ∧
      (∀ n < 24, (t.vch n).piFrom ≠ (s.vch n).piFrom → (s.vch n).req.isSome = true ∧ (t.vch n).req = none ∧
        (t.vch n).piFrom = some t.clk.raw)) ∧
  (∀ (s : State) (n : Nat) (r : PiReq), s.sized = true → s.phase = .active → n < 24 → vQueue s.toBlock = [(n, r)] →
    vQueued s.toBlock = 1 → r.deferred = false →
    ∃ t s0, exec .pullinStart s = .next t ∧ s0 = s.toBlock.advanceTb (ceilMultiple 1000 s.clk.tb) ∧
      (vCanStart s0 n = true → (t.vch n).req = none ∧ (t.vch n).piFrom = some t.clk.raw ∧
        t.fget (vlvCount n) 31 0 = satInc 32 (s.fget (vlvCount n) 31 0) ∧
        (vBoostOk s.toBlock = true → t.valve.acc + vDebit s0 n = boostNow s0)) ∧
      (vCanStart s0 n = false → (t.vch n).piFrom = (s.vch n).piFrom ∧ (∃ q, (t.vch n).req = some q ∧ q.deferred = true) ∧
        t.fget (vlvCount n) 63 32 = satInc 32 (s.fget (vlvCount n) 63 32))) ∧
  (∀ (s : State) (n at' : Nat), s.sized = true → n < 24 → (s.vch n).piFrom = some at' → (s.vch n).req = none →
    vRunning s.toBlock ≤ 3 →
    ∃ t, exec (.pullinEnd n) s = .next t ∧ (t.vch n).piFrom = none ∧ (t.vch n).hold = true ∧ vRunning t.toBlock ≤ 3 ∧
      t.clk.raw = s.rawAt (at' + vPiT s.toBlock n * 10000)) ∧
  (∀ (s : State) (n d : Nat) (r : PiReq), s.sized = true → n < 24 → (s.vch n).req = some r → r.deadline = some d →
    ∃ t us, exec (.pullinDeadline n) s = .next t ∧ us = (s.rawAt d - r.tick) / 1000 ∧ (t.vch n).req = none ∧
      (t.vch n).out = 0 ∧ t.bit (vlvStat n) 3 = true ∧ t.fget (vlvCount n) 95 64 = satInc 32 (s.fget (vlvCount n) 95 64) ∧
      t.reports 0xC0 sevWarn 0 (vlvObj n) (1 + us * 2 ^ 32) ∧ t.clk.raw = s.rawAt d ∧
      t = { s with regs := t.regs, clk := t.clk, valve := t.valve, evq := t.evq } ∧
      s.keepsRegs t.toBlock [vlvStat n, vlvCount n, vlvValues n, bnkStat (n / 4), bnkValues (n / 4), vlvPool, timeRtc, evtLost])

/-- VALVE_CHANNEL_FAULT, VALVE_BANK_FAULT, VB_LOW, VB_ABSENT, VB_RETURN and OPEN_OFF_CLEAR (R246, R248 to R250). VALVE_CLEAR, VALVE_RETRY, BANK_CLEAR and CHOP_PERIOD (R235, R236, R240, R244, R248, R249, R253). -/
def Obligations.ValveWork : Prop :=
  ((∀ (s : State) (n kind ma : Nat) (m : ValveLook), s.sized = true → n < 24 → s.phase = .active → s.bit (vlvCfg n) 0 = true →
    s.bit (vlvStat n) 7 = false → ma < 2 ^ 32 →
    ((kind = 3 ∧ m.iU = ma ∧ 100 ≤ ma ∧ m.vLs < 1000 ∧
        ((vOnTest s.toBlock n = true ∧ m.iCh ≤ 8000 ∧ m.full = false) ∨ (vOnTest s.toBlock n = false ∧ vOffTest s.toBlock n = true))) ∨
     (kind = 4 ∧ m.iCh = ma ∧ ((vOnTest s.toBlock n = true ∧ 8000 < ma) ∨
        (vOnTest s.toBlock n = false ∧ vOffTest s.toBlock n = true ∧ 1000 < m.vLs ∧ (m.vCom + 1000 < m.vLs ∨ m.vLs + 1000 < m.vCom))))) →
    ∃ t, exec (.valveChannelFault n m) s = .next t ∧ t.bit (vlvStat n) 7 = true ∧ t.fget (vlvStat n) 6 4 = kind ∧
      (t.vch n).out = 0 ∧ (t.vch n).piFrom = none ∧ (t.vch n).req = none ∧
      t.fget (vlvCount n) 127 96 = satInc 32 (s.fget (vlvCount n) 127 96) ∧
      t.reports 0xC2 sevFault (kind - 3) (vlvObj n) ma ∧
      (kind = 3 → s.bit (bnkCfg (n / 4)) 1 = false → ∀ k < 4, (t.vch (4 * (n / 4) + k)).out = 0 ∧
        (t.vch (4 * (n / 4) + k)).req = none) ∧
      t = { s with regs := t.regs, valve := t.valve, evq := t.evq }) ∧
  (∀ (s : State) (n : Nat) (m : ValveLook), s.sized = true → n < 24 → s.phase = .active → s.bit (vlvCfg n) 0 = true →
    s.bit (vlvStat n) 7 = false → (s.vch n).openOn = false → m.iCh ≤ 8000 → m.iU < 100 →
    ((∃ u, (s.vch n).piFrom = some u ∧ 2 * m.iCh < vPiI s.toBlock n) ∨
     ((s.vch n).piFrom = none ∧ (s.vch n).hold = true ∧ m.full = true ∧ 10 * m.iCh < vTarget s.toBlock n ∧
      s.fget (bnkCfg (n / 4)) 23 8 ≤ m.vCom ∧ s.bit (bnkStat (n / 4)) 11 = false)) →
    ∃ t, exec (.valveChannelFault n m) s = .next t ∧ (t.vch n).openOn = true ∧ t.fget (vlvStat n) 6 4 = 1 ∧
      (t.vch n).out = (s.vch n).out ∧ t.reports 0xC1 sevFault 1 (vlvObj n) 0 ∧
      (∀ u, (s.vch n).piFrom = some u → t.clk.raw = s.rawAt (u + vPiT s.toBlock n * 10000)) ∧
      t = { s with regs := t.regs, clk := t.clk, valve := t.valve, evq := t.evq } ∧
      s.keepsRegs t.toBlock [vlvStat n, vlvCount n, timeRtc, evtLost]) ∧
  (∀ (s : State) (n : Nat) (m : ValveLook), s.sized = true → n < 24 → s.phase = .active → s.bit (vlvCfg n) 0 = true →
    s.bit (vlvStat n) 7 = false → (s.vch n).openOff = false → (s.vch n).hold = false →
    (s.vch n).piFrom = none → vOffTest s.toBlock n = true → m.vLs < 1000 → m.iU < 100 →
    ∃ t, exec (.valveChannelFault n m) s = .next t ∧ (t.vch n).openOff = true ∧
      t.fget (vlvStat n) 6 4 = (if (s.vch n).openOn then 1 else 2) ∧ t.reports 0xC1 sevFault 0 (vlvObj n) 0 ∧
      t = { s with regs := t.regs, valve := t.valve, evq := t.evq } ∧ s.keepsRegs t.toBlock [vlvStat n, vlvCount n, evtLost]) ∧
  (∀ (s : State) (b kind i vCom vSrc : Nat) (rev : Bool), s.sized = true → b < 6 → s.phase = .active → s.bit (bnkStat b) 0 = true →
    s.fget (bnkStat b) 9 7 = 0 →
    ((kind = 1 ∧ 16000 < i) ∨ (kind = 2 ∧ i ≤ 16000 ∧ s.fget (bnkStat b) 3 2 ≠ 0 ∧ 2 * vCom < vSrc) ∨
     (kind = 3 ∧ i ≤ 16000 ∧ ((s.fget (bnkStat b) 3 2 = 0 ∧ 2000 < vCom) ∨ (vSrc ≤ 2 * vCom ∧ rev = true)))) →
    ∃ t, exec (.valveBankFault b i vCom vSrc rev) s = .next t ∧ t.fget (bnkStat b) 9 7 = kind ∧
      (∀ k < 4, ((s.vch (4 * b + k)).req = none → (t.vch (4 * b + k)).out = 0 ∧ (t.vch (4 * b + k)).piFrom = none) ∧
        ((s.vch (4 * b + k)).req ≠ none → (t.vch (4 * b + k)).req = (s.vch (4 * b + k)).req)) ∧
      t.reports 0xC3 sevFault 0 (bnkObj b) (kind + i % 2 ^ 16 * 2 ^ 16) ∧
      t = { s with regs := t.regs, valve := t.valve, evq := t.evq }) ∧
  (∀ (s : State) (b mv : Nat), b < 6 → s.phase = .active → s.bit (bnkStat b) 0 = true → s.bit (bnkStat b) 11 = false →
    mv < s.fget (bnkCfg b) 23 8 →
    ∃ t, exec (.vbLow b mv) s = .next t ∧ t.bit (bnkStat b) 11 = true ∧ t.fget (bnkValues b) 79 64 = mv % 2 ^ 16 ∧
      t.reports 0xC5 sevWarn 0 (bnkObj b) (1 + mv % 2 ^ 16 * 2 ^ 16) ∧ t = { s with regs := t.regs, evq := t.evq } ∧
      s.keepsRegs t.toBlock [bnkStat b, bnkValues b, evtLost]) ∧
  (∀ (s : State) (b mv : Nat), s.sized = true → b < 6 → s.phase = .active → s.bit (bnkStat b) 0 = true →
    s.bit (bnkStat b) 12 = false → mv < 4000 →
    ∃ t, exec (.vbAbsent b mv) s = .next t ∧ t.bit (bnkStat b) 12 = true ∧
      (∀ k < 4, (t.vch (4 * b + k)).out = 0 ∧ (t.vch (4 * b + k)).req = none ∧ (t.vch (4 * b + k)).piFrom = none) ∧
      t.reports 0xC5 sevWarn 0 (bnkObj b) (2 + mv % 2 ^ 16 * 2 ^ 16) ∧
      t = { s with regs := t.regs, valve := t.valve, evq := t.evq }) ∧
  (∀ (s : State) (b mv : Nat), s.sized = true → b < 6 → s.phase = .active →
    (s.bit (bnkStat b) 11 = true ∨ s.bit (bnkStat b) 12 = true) → s.fget (bnkCfg b) 23 8 + 500 < mv →
    ∃ t, exec (.vbReturn b mv) s = .next t ∧ t.bit (bnkStat b) 11 = false ∧ t.bit (bnkStat b) 12 = false ∧
      t.reports 0xC5 sevInfo 0 (bnkObj b) (mv % 2 ^ 16 * 2 ^ 16) ∧ t = { s with regs := t.regs, valve := t.valve, evq := t.evq }) ∧
  (∀ (s : State) (n : Nat), s.sized = true → n < 24 → (s.vch n).openOff = true → (s.vch n).hold = false → (s.vch n).piFrom = none →
    ∃ t, exec (.openOffClear n) s = .next t ∧ (t.vch n).openOff = false ∧
      ((s.vch n).openOn = false → t.fget (vlvStat n) 6 4 = 0 ∧ t.reports 0xC4 sevInfo 0 (vlvObj n) 0) ∧
      t = { s with regs := t.regs, valve := t.valve, evq := t.evq } ∧ s.keepsRegs t.toBlock [vlvStat n, evtLost])) ∧
  ((∀ (s : State) (i n : Nat) (present : Bool), s.sized = true → n < 24 → s.mayWrite i (vlvCmd n) →
    vClearCheck n present s.counted = 0 →
    ∃ t, exec (.valveClear i n present) s = .next t ∧ t.answers i 0 ∧ t.bit (vlvStat n) 7 = false ∧
      t.fget (vlvStat n) 6 4 = (if (s.vch n).openOn then 1 else if (s.vch n).openOff then 2 else 0) ∧
      t = { s with regs := t.regs, valve := t.valve, host := t.host, evq := t.evq }) ∧
  (∀ (s : State) (i n : Nat) (nodl : Bool), s.sized = true → n < 24 → s.mayWrite i (vlvCmd n) → vRetryCheck n s.counted = 0 →
    (s.vch n).want ≠ 0 → vBlocked s.toBlock n = false → vPiT s.toBlock n ≠ 0 →
    ∃ t r, exec (.valveRetry i n nodl) s = .next t ∧ t.answers i 0 ∧ t.bit (vlvStat n) 3 = false ∧ (t.vch n).req = some r ∧
      (r.deadline = none ↔ nodl = true) ∧ (nodl = false → r.deadline = some (r.tick + s.fget (vlvCfg n) 31 16 * 10000)) ∧
      (t.vch n).out = 1 ∧ t = { s with regs := t.regs, valve := t.valve, host := t.host, evq := t.evq }) ∧
  (∀ (s : State) (i n : Nat) (nodl : Bool), s.sized = true → n < 24 → s.mayWrite i (vlvCmd n) → vRetryCheck n s.counted = 0 →
    ((s.vch n).want = 0 ∨ vBlocked s.toBlock n = true) →
    ∃ t, exec (.valveRetry i n nodl) s = .next t ∧ t.answers i 0 ∧ t.bit (vlvStat n) 3 = false ∧ t.valve = s.valve) ∧
  (∀ (s : State) (i b : Nat) (present : Bool), s.sized = true → b < 6 → s.mayWrite i (bnkCmd b) →
    bnkClearCheck b present s.counted = 0 →
    ∃ t, exec (.bankClear i b present) s = .next t ∧ t.answers i 0 ∧ t.fget (bnkStat b) 9 7 = 0 ∧
      (s.audit ≠ 2 → t.reports 0xC4 sevInfo 0 (bnkObj b) 0) ∧
      t = { s with regs := t.regs, valve := t.valve, host := t.host, evq := t.evq }) ∧
  (∀ (s : State) (n iMeas vLs : Nat) (full : Bool), s.sized = true → n < 24 → s.phase = .active → s.bit (vlvCfg n) 0 = true →
    vBankOff s.toBlock (n / 4) = false →
    ∃ t, exec (.chopPeriod n iMeas vLs full) s = .next t ∧
      t.fget (vlvStat n) 14 12 = s.zoneStep (4 + n / 4) ∧
      (vProp s.toBlock n = false → (s.vch n).piFrom = none → (s.vch n).hold = true →
        (t.vch n).target = vCap (vHoldI s.toBlock n) (s.zoneStep (4 + n / 4))) ∧
      ((s.vch n).piFrom.isSome = true → (t.vch n).target = vPiI s.toBlock n) ∧
      ((s.vch n).piFrom = none → (s.vch n).hold = false → (t.vch n).target = 0) ∧
      ((t.vch n).target ≠ 0 → full = false → (t.vch n).openOn = false ∧ (t.vch n).openOff = false ∧ (t.vch n).fullFrom = none) ∧
      t = { s with regs := t.regs, valve := t.valve, evq := t.evq, fresh := t.fresh } ∧
      s.keepsRegs t.toBlock [vlvStat n, vlvValues n, bnkValues (n / 4), evtLost]))

/-- BARRIER_FRAME, DIO_INPUT_TRANSITION, WIRE_BREAK and WIRE_BREAK_CLEAR (R256 to R259, R263, R267 to R269): an accepted frame sets
the outputs, an answer delivers the inputs, and a bad answer is counted. DIO_OVERLOAD, DIO_OVERLOAD_RETRY, READBACK_MISMATCH, PARALLEL_MISMATCH and DIO_CLEAR (R260 to R262, R274): an overload
switches the whole set off, latched where no retry is left; the retry switches it on again; CLEAR releases every latch. -/
def Obligations.DioFramesAndOutputs : Prop :=
  ((∀ (s : State) (g : Nat) (fok aok : Bool), s.sized = true → g < 6 → s.phase = .active → s.bit (dgStat g) 0 = true →
    s.bit (dgCfg g) 0 = true →
    ∃ t, exec (.barrierFrame g fok aok) s = .next t ∧ t.clk.tb = s.tbAt (nextMultiple 10000 s.clk.tb) ∧
      (fok = true → (t.dgrp g).pattern = false ∧ (t.dgrp g).mask = dioMaskNow s.toBlock g ∧
        ∀ k < 16, (s.fget (dioCfg (dioLead s.toBlock (16 * g + k))) 1 0 ≠ 2 → (t.dch (16 * g + k)).want = false) ∧
          (s.fget (dioCfg (dioLead s.toBlock (16 * g + k))) 1 0 = 2 → (s.dch (16 * g + k)).offNext = false →
            (t.dch (16 * g + k)).want = (match (dioTarget s.toBlock (dioLead s.toBlock (16 * g + k))).1 with
              | 2 => (s.dch (16 * g + k)).want | x => x == 1))) ∧
      (fok = false → ∀ k < 16, (t.dch (16 * g + k)).want = (s.dch (16 * g + k)).want) ∧
      (aok = true → s.fget (dgStat g) 3 2 = 0 → (t.dgrp g).badRun = 0 ∧
        t.bit (dgStat g) 5 = (fok || (s.dgrp g).ackSeq == (s.dgrp g).maskSeq) ∧
        ∀ k < 16, s.fget (dioCfg (16 * g + k)) 1 0 = 1 → t.bit (dioStat (16 * g + k)) 2 = (s.dch (16 * g + k)).filt ∧
          (t.dch (16 * g + k)).chg = none) ∧
      (aok = false → (t.dgrp g).badRun = (s.dgrp g).badRun + 1 ∧ (t.dgrp g).lostFrames = (s.dgrp g).lostFrames + 1) ∧
      t = { s with regs := t.regs, clk := t.clk, dio := t.dio, evq := t.evq, fresh := t.fresh }) ∧
  (∀ (s : State) (n : Nat) (on : Bool), s.sized = true → n < 96 → dioPowered s.toBlock = true → dioModeF s.toBlock n = 1 →
    (s.dch n).filt ≠ on →
    ∃ t, exec (.dioInputTransition n on) s = .next t ∧ (t.dch n).filt = on ∧
      (t.dch n).chg = (if (s.dch n).chg = none then some s.clk.tb else none) ∧
      t = { s with dio := t.dio }) ∧
  (∀ (s : State) (n : Nat), s.sized = true → n < 96 → dioPowered s.toBlock = true → dioModeF s.toBlock n = 1 → bitAt (s.dch n).cfgF 3 = true →
    (s.dgrp (n / 16)).uv = false → (s.dch n).wb = false →
    ∃ t, exec (.wireBreak n) s = .next t ∧ (t.dch n).wb = true ∧ s.faultBitNoted t.toBlock (n / 16) ∧ t = { s with dio := t.dio }) ∧
  (∀ (s : State) (n : Nat), s.sized = true → n < 96 → dioPowered s.toBlock = true → (s.dgrp (n / 16)).uv = false →
    (s.dch n).wb = true →
    ∃ t, exec (.wireBreakClear n) s = .next t ∧ (t.dch n).wb = false ∧ s.faultBitNoted t.toBlock (n / 16) ∧
      t = { s with dio := t.dio })) ∧
  ((∀ (s : State) (n : Nat), s.sized = true → n < 96 → dioPin s.toBlock n = true →
    ∃ t, exec (.dioOverload n) s = .next t ∧
      (∀ m ∈ dioSetF s.toBlock n, dioPin t.toBlock m = false ∧
        ((t.dch m).latched = true ∨ ((t.dch m).ovl = true ∧ (t.dch m).retryAt = s.clk.raw + 100000000)) ∧
        (fld (s.dgrp (n / 16)).cfgF 35 32 = 0 → (t.dch m).latched = true)) ∧
      s.faultBitNoted t.toBlock (n / 16) ∧ t = { s with dio := t.dio }) ∧
  (∀ (s : State) (n : Nat), s.sized = true → n < 96 → dioPowered s.toBlock = true → (s.dch n).ovl = true →
    ∃ t, exec (.dioOverloadRetry n) s = .next t ∧ t.clk.raw = s.rawAt (s.dch n).retryAt ∧
      (∀ m ∈ dioSetF s.toBlock n, (t.dch m).ovl = false ∧ (t.dch m).onSince = t.clk.raw ∧ (t.dch m).latched = (s.dch m).latched) ∧
      t = { s with regs := t.regs, clk := t.clk, dio := t.dio } ∧ s.keepsRegs t.toBlock [timeRtc]) ∧
  (∀ (s : State) (n : Nat) (on : Bool), s.sized = true → n < 96 → dioPowered s.toBlock = true →
    dioCompared s.toBlock n = true → (s.dch n).rb ≠ on →
    (on = false ∨ (s.dch n).want = false ∨ ((s.dch n).ovl = false ∧ (s.dch n).latched = false)) →
    ∃ t, exec (.readbackMismatch n on) s = .next t ∧ (t.dch n).rb = on ∧ s.faultBitNoted t.toBlock (n / 16) ∧
      t = { s with dio := t.dio }) ∧
  (∀ (s : State) (n : Nat) (on : Bool), s.sized = true → n < 96 → dioPowered s.toBlock = true → dioModeF s.toBlock n = 2 →
    2 ≤ (dioSetF s.toBlock n).length → (s.dch n).pm ≠ on →
    ∃ t, exec (.parallelMismatch n on) s = .next t ∧ (t.dch n).pm = on ∧ s.faultBitNoted t.toBlock (n / 16) ∧
      t = { s with dio := t.dio }) ∧
  (∀ (s : State) (i g : Nat), s.sized = true → g < 6 → s.mayWrite i (dgCmd g) → s.bit (dgStat g) 0 = true →
    ∃ t, exec (.dioClear i g) s = .next t ∧ t.answers i 0 ∧
      (∀ k < 16, (t.dch (16 * g + k)).latched = false ∧
        ((s.dch (16 * g + k)).latched = true → (t.dch (16 * g + k)).ovlRun = 0)) ∧
      (s.audit ≠ 2 → t.reports 0xD4 sevInfo 0 (dgObj g) g) ∧
      t = { s with regs := t.regs, dio := t.dio, host := t.host, evq := t.evq } ∧ s.keepsRegs t.toBlock [hostCount, evtLost]))

/-- LINK_TIMEOUT_PATTERN, DIO_LINK_LOST, DIO_LINK_RETRAIN, L_PLUS_UNDERVOLTAGE, L_PLUS_LOW, L_PLUS_RECOVERY,
FIELD_OVERTEMPERATURE, FIELD_OVERTEMPERATURE_CLEAR and PROBE_WRITE (R263 to R266, R269, R270, R274). -/
def Obligations.DioField : Prop :=
  (∀ (s : State) (g : Nat), s.sized = true → g < 6 → dioPowered s.toBlock = true → bitAt (s.dgrp g).cfgF 0 = true →
    ∃ t, exec (.linkTimeoutPattern g) s = .next t ∧ (t.dgrp g).pattern = true ∧
      (∀ k < 16, (t.dch (16 * g + k)).want = (if dioModeF s.toBlock (16 * g + k) = 2 then
        (match fld (s.dch (dioLeadF s.toBlock (16 * g + k))).cfgF 7 6 with
          | 1 => true | 2 => (s.dch (16 * g + k)).want | _ => false) else false)) ∧ t = { s with dio := t.dio }) ∧
  (∀ (s : State) (g : Nat), s.sized = true → g < 6 → s.phase = .active → s.bit (dgStat g) 0 = true → s.fget (dgStat g) 3 2 = 0 →
    3 ≤ (s.dgrp g).badRun →
    ∃ t, exec (.dioLinkLost g) s = .next t ∧ t.fget (dgStat g) 3 2 = 1 ∧ (t.dgrp g).retrainAt = s.clk.raw + 100000000 ∧
      t.fget (dgCount g) 63 32 = satInc 32 (s.fget (dgCount g) 63 32) ∧
      t.reports 0xD2 sevFault 0 (dgObj g) (g + (s.dgrp g).lostFrames * 2 ^ 32) ∧
      t = { s with regs := t.regs, dio := t.dio, evq := t.evq } ∧ s.keepsRegs t.toBlock [dgStat g, dgCount g, evtLost]) ∧
  (∀ (s : State) (g : Nat) (ok : Bool), s.sized = true → g < 6 → s.phase = .active → s.bit (dgStat g) 0 = true →
    s.bit (dgStat g) 1 = false → s.fget (dgStat g) 3 2 ≠ 0 →
    ∃ t, exec (.dioLinkRetrain g ok) s = .next t ∧ t.clk.raw = s.rawAt (s.dgrp g).retrainAt ∧
      t.fget (dgStat g) 3 2 = (if ok then 0 else 2) ∧
      (ok = true → (t.dgrp g).lostFrames = 0 ∧ t.reports 0xD2 sevInfo 0 (dgObj g) (g + (s.dgrp g).lostFrames * 2 ^ 32)) ∧
      (ok = false → (t.dgrp g).retrainAt = t.clk.raw + 100000000) ∧
      t = { s with regs := t.regs, clk := t.clk, dio := t.dio, evq := t.evq } ∧
      s.keepsRegs t.toBlock [dgStat g, timeRtc, evtLost]) ∧
  (∀ (s : State) (g : Nat), s.sized = true → g < 6 → dioPowered s.toBlock = true →
    ((s.dgrp g).uv = false → ∃ t, exec (.lPlusUndervoltage g) s = .next t ∧ (t.dgrp g).uv = true ∧
      s.faultBitNoted t.toBlock g ∧ t = { s with dio := t.dio }) ∧
    (∃ t, exec (.lPlusLow g) s = .next t ∧ (∀ k < 16, dioPin t.toBlock (16 * g + k) = false) ∧ t = { s with dio := t.dio }) ∧
    ((s.dgrp g).uv = true ∨ (s.dgrp g).low = true → ∃ t, exec (.lPlusRecovery g) s = .next t ∧ (t.dgrp g).uv = false ∧
      (t.dgrp g).low = false ∧ (∀ k < 16, (t.dch (16 * g + k)).want = (s.dch (16 * g + k)).want) ∧ t = { s with dio := t.dio }) ∧
    ((s.dgrp g).ot = false → ∃ t, exec (.fieldOvertemperature g) s = .next t ∧
      (∀ k < 16, dioPin t.toBlock (16 * g + k) = false) ∧ s.faultBitNoted t.toBlock g ∧ t = { s with dio := t.dio }) ∧
    ((s.dgrp g).ot = true → ∃ t, exec (.fieldOvertemperatureClear g) s = .next t ∧ (t.dgrp g).ot = false ∧
      (∀ k < 16, (t.dch (16 * g + k)).want = (s.dch (16 * g + k)).want) ∧ t = { s with dio := t.dio })) ∧
  (∀ (s : State) (i g v : Nat), s.sized = true → g < 6 → s.mayWrite i (dgProbe g) → probeCheck (.sess i) g v s.counted = 0 →
    ∃ t, exec (.probeWrite i g v) s = .next t ∧ t.answers i 0 ∧ t.get (dgProbe g) = v ∧ t.bit (dgStat g) 5 = false ∧
      t.bit (dgStat g) 6 = bitAt v 31 ∧ (t.dgrp g).maskSeq = (s.dgrp g).maskSeq + 1 ∧
      t = { s with regs := t.regs, dio := t.dio, host := t.host, evq := t.evq } ∧
      s.keepsRegs t.toBlock [dgProbe g, dgStat g, hostCount, evtLost]) ∧
  (∀ (s : State) (g : Nat) (ok : Bool), s.sized = true → g < 6 → s.phase = .active → s.bit (dgStat g) 0 = false →
    s.bit (dgStat g) 1 = false → s.fget (dgStat g) 3 2 ≠ 0 →
    ∃ t, exec (.dioLinkRetrain g ok) s = .next t ∧ t.clk.raw = s.rawAt (s.dgrp g).retrainAt ∧ t.bit (dgStat g) 0 = ok ∧
      t.bit (dgStat g) 1 = !ok ∧ (ok = true → (t.dgrp g).first = true ∧ (t.dgrp g).cfgF = s.get (dgCfg g)) ∧
      (ok = false → t.reports 0xD6 sevFault 0 (dgObj g) g) ∧
      t = { s with regs := t.regs, clk := t.clk, dio := t.dio, evq := t.evq, fresh := t.fresh } ∧
      s.keepsRegs t.toBlock [dgStat g, timeRtc, evtLost])

/-- The decoding of an accepted edge (R277, the *Counting modes* table): in quadrature A leads B for a positive direction, an edge of one
line less than S_MIN after an edge of the other is illegal, and a Hall step to the next state of the sequence counts. The
positive Hall sequence is the model's (log entry 28). ENCODER_EDGE and STANDSTILL (R276 to R278, R284): COUNT, its direction, reversals and illegal transitions; a standstill declared
at a class A boundary. -/
def Obligations.EncoderInputs : Prop :=
  (∀ (smin ts : Nat) (c : EncCh) (lvl : Bool),
    ((∀ u, c.tB = some u → u + smin ≤ ts) →
      encDecode 2 smin c 0 lvl ts = .count (lvl == c.b) ∧ encDecode 1 smin c 0 lvl ts = .count (lvl == c.b) ∧
      (c.b = false → encDecode 0 smin c 0 lvl ts = .count (!lvl)) ∧ (c.b = true → encDecode 0 smin c 0 lvl ts = .none) ∧
      encDecode 3 smin c 0 true ts = .count (!c.b)) ∧
    ((∀ u, c.tA = some u → u + smin ≤ ts) →
      encDecode 2 smin c 1 lvl ts = .count (lvl != c.a) ∧ encDecode 1 smin c 1 lvl ts = .none ∧
      encDecode 0 smin c 1 lvl ts = .none) ∧
    (∀ u m, c.tB = some u → ts < u + smin → m ≤ 2 → encDecode m smin c 0 lvl ts = .illegal) ∧
    (∀ u m, c.tA = some u → ts < u + smin → m ≤ 2 → encDecode m smin c 1 lvl ts = .illegal) ∧
    encDecode 4 smin c 0 true ts = .count false ∧ encDecode 4 smin c 0 false ts = .none ∧
    encDecode 3 smin c 0 false ts = .none ∧
    (c.hall = 0 → c.a = true → c.b = false → c.z = false → encDecode 5 smin c 1 true ts = .count false ∧
      encDecode 5 smin c 2 true ts = .count true ∧ encDecode 5 smin c 0 false ts = .illegal)) ∧
  ((∀ (s : State) (e line : Nat) (lvl : Bool), s.sized = true → e < 8 → line < 3 → (s.phase = .active ∨ s.phase = .park) →
    encOn s.toBlock e = true →
    ∃ t k, exec (.encoderEdge e line lvl) s = .next t ∧
      k = encDecode (encMode s.toBlock e) (encSmin s.toBlock e) (s.ech e) line lvl (s.clk.tb - encFilt s.toBlock e) ∧
      (line = 0 → (t.ech e).a = lvl) ∧ (line = 1 → (t.ech e).b = lvl) ∧ (line = 2 → (t.ech e).z = lvl) ∧
      (k = .none → (t.ech e).count = (s.ech e).count ∧ t.get (encCount e) = s.get (encCount e)) ∧
      (k = .illegal → (t.ech e).count = (s.ech e).count ∧ t.fget (encCount e) 31 0 = satInc 32 (s.fget (encCount e) 31 0)) ∧
      (∀ neg, k = .count neg → (t.ech e).count = (s.ech e).count + (if neg != s.bit (encCfg e) 5 then -1 else 1) ∧
        t.bit (encStat e) 7 = neg ∧ (t.ech e).tL = some (s.clk.tb - encFilt s.toBlock e) ∧ (t.ech e).still = false ∧
        t.fget (encCount e) 127 96 =
          (if (s.ech e).still = false ∧ encStillBy s.toBlock e (s.clk.tb - encFilt s.toBlock e) = false ∧
            (s.ech e).tL.isSome = true ∧ (s.ech e).dirNeg ≠ neg then satInc 32 (s.fget (encCount e) 127 96)
           else s.fget (encCount e) 127 96)) ∧
      (∀ j, j ≠ e → t.ech j = s.ech j) ∧ t = { s with regs := t.regs, enc := t.enc, evq := t.evq } ∧
      s.keepsRegs t.toBlock ([encStat e, encCount e, evtLost] ++ (List.range 4).map emuStat ++ (List.range 4).map emuValues ++
        (List.range 4).map emuCount)) ∧
  (∀ (s : State) (e u : Nat), s.sized = true → e < 8 → s.phase = .active → encOn s.toBlock e = true → (s.ech e).still = false →
    (s.ech e).tL = some u →
    ∃ t, exec (.standstill e) s = .next t ∧ (t.ech e).still = true ∧ (t.ech e).run = [] ∧ t.bit (encStat e) 6 = true ∧
      (t.ech e).count = (s.ech e).count ∧
      t.clk.tb = s.tbAt (ceilMultiple (clsPeriod s.toBlock 0) (u + s.fget (encTiming e) 31 16 * 1000000)) ∧
      t = { s with regs := t.regs, clk := t.clk, enc := t.enc } ∧ s.keepsRegs t.toBlock [encStat e, timeRtc]))

/-- INDEX, ENCODER_LINE_FAULT, ENC_PRESET and ENC_CLEAR (R282 to R284, R289, R290). `d` is the deviation of the captured count.
REBASE, RATIO_WRITE and EMULATION_EDGE (R286 to R288, R290): a rebase and a new ratio leave OUT where it is and the target at it; a
lag moves OUT one edge towards the target, no sooner than EDGE_MIN after the edge before, and stays within the limit; an edge
changes one of the lines A and B. -/
def Obligations.EncoderCommandsAndEmulation : Prop :=
  ((∀ (s : State) (e : Nat) (d : Int), s.sized = true → e < 8 → s.phase = .active → encOn s.toBlock e = true →
    s.bit (encCfg e) 6 = true → encCpr s.toBlock e ≠ 0 → encMode s.toBlock e ≤ 3 →
    d = encDev (s.ech e).count (s.fget (encTiming e) 63 32) (encCpr s.toBlock e) →
    ∃ t, exec (.encIndex e) s = .next t ∧
      t.get (encIdx e) = pack [((s.clk.tb - encFilt s.toBlock e) % 2 ^ 64, 0), (ofS 64 (s.ech e).count, 64), (ofS 32 d, 128)] %
        2 ^ widthOf (encIdx e) ∧
      (s.bit (encCfg e) 7 = true → s.bit (encStat e) 9 = false → (t.ech e).count = (s.ech e).count - d ∧
        t.bit (encStat e) 9 = true ∧ t.fget (encCount e) 63 32 = satInc 32 (s.fget (encCount e) 63 32) ∧
        (d ≠ 0 → (∀ o < 4, emuOn s.toBlock o = false) → t.reports 0xE0 sevInfo 1 (encObj e) (ofS 32 d))) ∧
      ((s.bit (encCfg e) 7 = false ∨ s.bit (encStat e) 9 = true) → d.natAbs ≤ s.fget (encTiming e) 79 64 →
        (t.ech e).count = (s.ech e).count - d ∧ t.fget (encStat e) 23 16 = 0 ∧
        t.fget (encCount e) 63 32 = satInc 32 (s.fget (encCount e) 63 32) ∧
        (d ≠ 0 → (∀ o < 4, emuOn s.toBlock o = false) → t.reports 0xE0 sevInfo 0 (encObj e) (ofS 32 d))) ∧
      ((s.bit (encCfg e) 7 = false ∨ s.bit (encStat e) 9 = true) → s.fget (encTiming e) 79 64 < d.natAbs →
        (t.ech e).count = (s.ech e).count ∧ t.fget (encStat e) 23 16 = satInc 8 (s.fget (encStat e) 23 16) ∧
        t.fget (encCount e) 95 64 = satInc 32 (s.fget (encCount e) 95 64) ∧
        (s.fget (encTiming e) 87 80 ≤ satInc 8 (s.fget (encStat e) 23 16) → t.bit (encStat e) 2 = true)) ∧
      (∀ j, j ≠ e → t.ech j = s.ech j) ∧ t = { s with regs := t.regs, enc := t.enc, evq := t.evq } ∧
      s.keepsRegs t.toBlock ([encStat e, encCount e, encIdx e, evtLost] ++ (List.range 4).map emuStat ++
        (List.range 4).map emuValues ++ (List.range 4).map emuCount)) ∧
  (∀ (s : State) (e pair : Nat), e < 8 → pair < 3 → s.phase = .active → encOn s.toBlock e = true → s.bit (encCfg e) 1 = false →
    ∃ t, exec (.encoderLineFault e pair) s = .next t ∧ t.bit (encStat e) (10 + pair) = true ∧ t.bit (encStat e) 2 = true ∧
      (s.bit (encStat e) 2 = false → t.fget (encStat e) 5 3 = 2 ∧ t.reports 0xE2 sevFault 0 (encObj e) 2) ∧
      t = { s with regs := t.regs, evq := t.evq } ∧ s.keepsRegs t.toBlock [encStat e, evtLost]) ∧
  (∀ (s : State) (i e v : Nat), s.sized = true → e < 8 → s.mayWrite i (encPreset e) → presetCheck e s.counted = 0 →
    ∃ t, exec (.encPreset i e v) s = .next t ∧ t.answers i 0 ∧ t.ech e = { s.ech e with preset := some (toS 64 v) } ∧
      (∀ j, j ≠ e → t.ech j = s.ech j) ∧ t = { s with regs := t.regs, enc := t.enc, host := t.host, evq := t.evq } ∧
      s.keepsRegs t.toBlock [hostCount, evtLost]) ∧
  (∀ (s : State) (i e : Nat) (present : Bool), s.sized = true → e < 8 → s.mayWrite i (encCmd e) →
    encClearCheck e present s.counted = 0 →
    ∃ t, exec (.encClear i e present) s = .next t ∧ t.answers i 0 ∧ t.fget (encStat e) 5 2 = 0 ∧ t.bit (encStat e) 9 = false ∧
      t.fget (encStat e) 12 10 = 0 ∧ t.fget (encStat e) 23 16 = 0 ∧ t.ech e = { s.ech e with run := [], terr := [] } ∧
      (s.audit ≠ 2 → t.reports 0xE2 sevInfo 0 (encObj e) (s.fget (encStat e) 5 3)) ∧
      t = { s with regs := t.regs, enc := t.enc, host := t.host, evq := t.evq } ∧
      s.keepsRegs t.toBlock [encStat e, hostCount, evtLost])) ∧
  ((∀ (s : State) (i o : Nat), s.sized = true → o < 4 → s.mayWrite i (emuCmd o) → encReady (emuStat o) s.counted = 0 →
    ∃ t, exec (.rebase i o) s = .next t ∧ t.answers i 0 ∧ (t.mch o).out = (s.mch o).out ∧
      emuTarget t.toBlock o = (t.mch o).out ∧ (emuOn s.toBlock o = true → t.bit (emuStat o) 2 = false) ∧
      (∀ j, j ≠ o → t.mch j = s.mch j) ∧ t.enc.ch = s.enc.ch ∧
      t = { s with regs := t.regs, enc := t.enc, host := t.host, evq := t.evq } ∧
      s.keepsRegs t.toBlock [emuStat o, emuValues o, emuCount o, hostCount, evtLost]) ∧
  (∀ (s : State) (i o v : Nat), s.sized = true → o < 4 → s.mayWrite i (emuRatio o) → ratioCheck v s.counted = 0 →
    ∃ t, exec (.ratioWrite i o v) s = .next t ∧ t.answers i 0 ∧ t.get (emuRatio o) = v ∧ emuRatio o ∈ t.vol ∧
      (t.mch o).out = (s.mch o).out ∧ emuTarget t.toBlock o = (t.mch o).out ∧ (∀ j, j ≠ o → t.mch j = s.mch j) ∧
      t.enc.ch = s.enc.ch ∧ t = { s with regs := t.regs, enc := t.enc, vol := t.vol, host := t.host, evq := t.evq } ∧
      s.keepsRegs t.toBlock [emuRatio o, emuStat o, emuValues o, emuCount o, hostCount, evtLost]) ∧
  (∀ (s : State) (o : Nat), s.sized = true → o < 4 → emuOn s.toBlock o = true →
    ∃ t, exec (.emulationEdge o) s = .next t ∧
      (t.mch o).out = (s.mch o).out + (emuTarget (emuResume o s.toBlock) o - (s.mch o).out).sign ∧
      (emuTarget t.toBlock o - (t.mch o).out).natAbs ≤ max 1 (s.get (emuLimit o)) ∧
      (emuTarget (emuResume o s.toBlock) o ≠ (s.mch o).out → (t.mch o).edgeAt = t.clk.raw ∧
        t.clk.raw = s.rawAt ((s.mch o).edgeAt + emuEdgeMin s.toBlock o)) ∧
      (emuTarget (emuResume o s.toBlock) o = (s.mch o).out → t.clk = s.clk ∧ (t.mch o).edgeAt = (s.mch o).edgeAt) ∧
      (∀ j, j ≠ o → t.mch j = s.mch j) ∧ t.enc.ch = s.enc.ch ∧ t = { s with regs := t.regs, clk := t.clk, enc := t.enc, evq := t.evq } ∧
      s.keepsRegs t.toBlock [emuStat o, emuValues o, emuCount o, timeRtc, evtLost])) ∧
  (∀ (s : State) (o : Nat), s.sized = true → o < 4 → emuOn s.toBlock o = true →
    emuTarget (emuResume o s.toBlock) o ≠ (s.mch o).out →
    ∃ t p q, exec (.emulationEdge o) s = .next t ∧ emuPins s.toBlock o = some p ∧ emuPins t.toBlock o = some q ∧
      (p.1 ≠ q.1 ↔ p.2.1 = q.2.1))

/-- THERM_SAMPLE, SENSOR_BROKEN and SENSOR_RESTORED (R291, R292, R294 to R297): the zone's warning, throttle and shutdown by its
temperature, and a module shutdown of CORE and BOARD. `m` is the machine with the reading taken and nothing evaluated. -/
def Obligations.ThermalSamples : Prop :=
  (∀ (s m : State) (k z : Nat) (x τ t' : Int), s.sized = true → k < 27 → thRuns s.toBlock = true → thState s.toBlock k = 0 →
    thConvert s.toBlock k x = some t' → z = thZoneOf k →
    m = { s with toBlock := s.toBlock.put (thValue k) (pack [(s.clk.tb % 2 ^ 64, 0), (satS 16 t', 64)]) } →
    thTemp m.toBlock z = some τ → thSomeBroken m.toBlock z = false → s.zoneDown z = false →
    ∃ t, exec (.thermSample k x) s = .next t ∧ t.get (thValue k) = m.get (thValue k) ∧
      (thW s.toBlock z ≤ τ → (t.zch z).warn = true) ∧
      (τ < thW s.toBlock z - thY s.toBlock z → τ < thS s.toBlock z → (t.zch z).warn = false) ∧
      (τ < thS s.toBlock z → t.phase = s.phase ∧ t.zoneDown z = false ∧ t.mram = s.mram) ∧
      (τ < thS s.toBlock z → thH s.toBlock z ≤ τ → thDeepest z ≠ 0 → t.zoneStep z =
        if (s.zch z).hotAt = none ∧ s.zoneStep z < thDeepest z then s.zoneStep z + 1 else s.zoneStep z) ∧
      (τ < thS s.toBlock z → (τ < thH s.toBlock z ∨ thDeepest z = 0) → t.zoneStep z = s.zoneStep z ∧
        t = { s with regs := t.regs, therm := t.therm, evq := t.evq } ∧
        s.keepsRegs t.toBlock [thValue k, tzStat z, tzCount z, evtLost]) ∧
      (thS s.toBlock z ≤ τ → 1 ≤ z → z ≤ 21 → t.phase = s.phase ∧
        t.fget (tzStat z) 2 0 = (if 2 ≤ sdWithin s.toBlock z then 4 else 3) ∧ t.mram.sdSeq = s.mram.sdSeq + 1 ∧
        (z ∈ t.mram.sdLatched ↔ 2 ≤ sdWithin s.toBlock z ∨ z ∈ s.mram.sdLatched) ∧
        t.fget (tzCount z) 95 64 = satInc 32 (s.fget (tzCount z) 95 64)) ∧
      (thS s.toBlock z ≤ τ → z = 0 ∨ z = 22 → t.phase = .halted ∧ t.bit modeState 9 = true ∧ t.mram.sdNew = some (s.clk.tb, s.unsync) ∧
        t.bit axsStat 1 = false ∧ ∀ p < 3, t.bit (floePort p) 2 = false) ∧
      (∀ a : Attr, a.blk ∉ [5, 6, 7, 9, 0xA, 0xD] → a ∉ [evtLost, modeState, imgStage, imgSlot 0, imgSlot 1, imgStatus, floePort 0, floePort 1, floePort 2] →
        t.get a = s.get a)) ∧
  (∀ (s m : State) (k cause z : Nat), s.sized = true → k < 27 → 1 ≤ cause → cause ≤ 4 → thRuns s.toBlock = true →
    thState s.toBlock k = 0 → z = thZoneOf k → m = { s with toBlock := s.toBlock.fput (thStat k) 1 0 1 } →
    s.zoneDown z = false →
    ∃ t, exec (.sensorBroken k cause) s = .next t ∧ thState t.toBlock k = 1 ∧ t.fget (thStat k) 4 2 = cause ∧
      t.fget (thValue k) 79 64 = 0x8000 ∧
      ((thAllBroken m.toBlock z = false ∨ z = 22) → (t.zch z).warn = true ∧ t.phase = s.phase ∧
        t.zoneStep z = max (s.zoneStep z) (thDeepest z)) ∧
      (thAllBroken m.toBlock z = true → 1 ≤ z → z ≤ 21 → t.phase = s.phase ∧
        t.fget (tzStat z) 2 0 = (if 2 ≤ sdWithin s.toBlock z then 4 else 3)) ∧
      (thAllBroken m.toBlock z = true → z = 0 → t.phase = .halted ∧ t.bit modeState 9 = true ∧ t.mram.sdNew = some (s.clk.tb, s.unsync))) ∧
  (∀ (s : State) (k : Nat) (x t' : Int), s.sized = true → k < 27 → thRuns s.toBlock = true → thState s.toBlock k = 1 →
    thConvert s.toBlock k x = some t' →
    ∃ t, exec (.sensorRestored k x) s = .next t ∧ thState t.toBlock k = 0 ∧ t.fget (thStat k) 4 2 = 0 ∧
      t.get (thValue k) = pack [(s.clk.tb % 2 ^ 64, 0), (satS 16 t', 64)])

/-- THERM_STEP_DOWN, THERM_STEP_RELEASE, ZONE_SHUTDOWN_CLEAR and THERM_CLEAR (R294 to R296, R300): a step every 2 s at or above H, a step
back after 10 s below H − Y, and a zone back at its deepest step. -/
def Obligations.ThermalSteps : Prop :=
  (∀ (s : State) (z u : Nat), s.sized = true → z < 23 → (s.zch z).hotAt = some u → thRuns s.toBlock = true → s.zoneDown z = false →
    s.zoneStep z < thDeepest z →
    ∃ t, exec (.thermStepDown z) s = .next t ∧ t.zoneStep z = s.zoneStep z + 1 ∧ t.clk.raw = s.rawAt (u + 2 * nsPerS) ∧
      (t.zch z).hotAt = some t.clk.raw ∧ t.phase = s.phase ∧ t.mram = s.mram ∧
      t.fget (tzCount z) 63 32 = satInc 32 (s.fget (tzCount z) 63 32) ∧
      (∀ a : Attr, a.blk ∉ [5, 6, 7, 9, 0xA, 0xD] → a ∉ [evtLost, timeRtc] → t.get a = s.get a)) ∧
  (∀ (s : State) (z u : Nat), s.sized = true → z < 23 → (s.zch z).coolAt = some u → thRuns s.toBlock = true → s.zoneDown z = false →
    s.zoneStep z ≠ 0 → thSomeBroken s.toBlock z = false →
    ∃ t, exec (.thermStepRelease z) s = .next t ∧ t.zoneStep z = s.zoneStep z - 1 ∧
      t.clk.raw = s.rawAt (u + 10 * nsPerS) ∧ (t.zch z).coolAt = some t.clk.raw ∧ t.phase = s.phase ∧ t.mram = s.mram ∧
      (∀ a : Attr, a.blk ∉ [5, 6, 7, 9, 0xA, 0xD] → a ∉ [evtLost, timeRtc] → t.get a = s.get a)) ∧
  (∀ (s : State) (z u : Nat), s.sized = true → z < 23 → (s.zch z).clearAt = some u → thRuns s.toBlock = true →
    s.fget (tzStat z) 2 0 = 3 → thAllBroken s.toBlock z = false →
    ∃ t, exec (.zoneShutdownClear z) s = .next t ∧ t.zoneDown z = false ∧ t.zoneStep z = thDeepest z ∧
      t.clk.raw = s.rawAt (u + 60 * nsPerS) ∧ (t.zch z).clearAt = none ∧ t.phase = s.phase ∧
      (∀ a : Attr, a.blk ∉ [5, 6, 7, 9, 0xA, 0xD] → a ∉ [evtLost, timeRtc] → t.get a = s.get a)) ∧
  (∀ (s : State) (i z : Nat), s.sized = true → z < 23 → s.mayWrite i (tzCmd z) → tzClearCheck z s.counted = 0 →
    ∃ t, exec (.thermClear i z) s = .next t ∧ t.answers i 0 ∧ t.zoneDown z = false ∧ t.zoneStep z = thDeepest z ∧
      z ∉ t.mram.sdLatched ∧ t.phase = s.phase ∧
      (∀ a : Attr, a.blk ∉ [5, 6, 7, 9, 0xA, 0xD] → a ∉ [evtLost, hostCount] → t.get a = s.get a))

/-- The section a stage applies (R327, R328): of those accepted the highest CLAIM, of equal claims the lower SRC; applying it sets
STAGE, ends the run of missed cycles and writes its values; a window without one counts a miss. -/
def Obligations.SectionArbitration : Prop :=
  (∀ l c, sectPick l = some c → c ∈ l ∧ ∀ x ∈ l, x.claim < c.claim ∨ (x.claim = c.claim ∧ c.src ≤ x.src)) ∧
  (∀ l, sectPick l = none → l = []) ∧
  (∀ (s : Block) (m t : Nat) (c : Sect) (tied : Option Sect), c.claim < 2 ^ 32 → c.src < 4096 →
    (stageApply m t c tied s).floe.lastN = some (m - 1) ∧ (stageApply m t c tied s).fget pairStat 23 16 = 0 ∧
    (stageApply m t c tied s).get pairStage = pack [(cyc32 (m - 1), 0), (c.claim, 32), (c.src, 64)] ∧
    (∀ k v, k < 96 → destKind s (oidOf (dioSp k)) = true → c.ents = [(oidOf (dioSp k), v)] →
      (stageApply m t c tied s).get (dioSp k) = b2n (decide (0 < toS 32 v))) ∧
    (∀ a v, a < 12 → c.ents = [(oidOf (axSp a), v)] → (stageApply m t c tied s).get (axSp a) = v % 2 ^ widthOf (axSp a))) ∧
  (∀ (s : Block) (t n : Nat), s.floe.lastN = some n →
    (stageMiss t s).fget pairStat 23 16 = satInc 8 (s.fget pairStat 23 16) ∧ (stageMiss t s).floe.echo = [] ∧
    (stageMiss t s).fget pairCount 31 0 = satInc 32 (s.fget pairCount 31 0) ∧ (stageMiss t s).floe.lastN = some n)

/-- RING_CYCLE_START, SNAPSHOT_LAUNCH, GATHER_INSTANT and COMMAND_INSTANT (R307, R310, R311, R314, R327) outside a pair. A write of
the pair scope that no class sample takes has its effect at the cycle start assigned to it (R334). -/
def Obligations.RingCycle : Prop :=
  (∀ (s : State) (n tc T : Nat), ringNode s.toBlock = true → s.paired = false → s.floe.cycle = some n → tc = max 1 s.tCyc →
    s.get floeCfg = s.floe.cfg → T = max ((n + 1) * tc) (ceilMultiple tc s.clk.tb) →
    ∃ t, exec .ringCycleStart s = .next t ∧ t.clk.tb = s.tbAt T ∧
      (t.phase = .active → t.floe.cycle = some (T / tc) ∧ t.get floeCycleNow = cyc32 (T / tc) ∧ t.floe.gath = false ∧
        t.floe.cmdd = false ∧ t.floe.launched = false ∧ t.floe.sects = [] ∧ t.floe.latch = snapLatch t.toBlock T ∧
        t.mram = s.mram ∧ t.img = s.img ∧ t.key = s.key) ∧
      (s.floe.sects = [] → s.floe.lastN = none → s.mode.cmd = none → modeForced s.toBlock = none → s.mode.ownerGone = false →
        s.mode.sectMode = none → (∀ w ∈ s.late, T < w.due) → t.phase = .active ∧ t = { s with regs := t.regs, clk := t.clk, floe := t.floe } ∧
        s.keepsRegs t.toBlock [floeCycleNow, timeRtc])) ∧
  (∀ (s : State) (n tc T v e due k : Nat) (a : Attr), ringNode s.toBlock = true → s.loneHead = true → s.floe.cycle = some n →
    tc = max 1 s.tCyc → s.get floeCfg = s.floe.cfg → T = max ((n + 1) * tc) (ceilMultiple tc s.clk.tb) →
    a ∈ [modeAutoResume, modeHoldFan, swPoints k] → s.late = [⟨a, .num v, e, due⟩] →
    ∃ t, exec .ringCycleStart s = .next t ∧ t.clk.tb = s.tbAt T ∧ (due ≤ T → t.get a = v % 2 ^ widthOf a ∧ t.late = []) ∧
      (T < due → t.get a = s.get a ∧ t.late = s.late)) ∧
  (∀ (s : State) (n : Nat), ringNode s.toBlock = true → s.floe.cycle = some n → s.floe.launched = false →
    ∃ t, exec .snapshotLaunch s = .next t ∧ t.floe.launched = true ∧ t.clk.tb = s.tbAt (n * s.tCyc + 10000) ∧
      t.net = (if s.dupId then s.net else
        (floeLaunch dualPath 3 dstHeads n (getL s.floe.seqs 3 0) (snapBytes s.toBlock s.floe.latch) s.toBlock).net) ∧
      t = { s with regs := t.regs, clk := t.clk, floe := t.floe, net := t.net } ∧ s.keepsRegs t.toBlock [timeRtc]) ∧
  (∀ (s : State) (n df : Nat), ringNode s.toBlock = true → s.floe.cycle = some n → s.floe.gath = false → (nodesHeard s.toBlock).length < 4096 →
    ∃ t, exec (.gatherInstant df) s = .next t ∧ t.floe.gath = true ∧ t.clk.tb = s.tbAt (n * s.tCyc + s.tGather) ∧
      t.fget floeRing 1 0 = ringState s.toBlock ∧ t.fget floeRing 27 16 = (nodesHeard s.toBlock).length ∧
      t.floe.reach = s.floe.heard ∧ t.floe.heard = [] ∧ t.floe.back = false ∧
      (s.role ≠ 2 → (ringState s.toBlock ≠ s.fget floeRing 1 0 →
          t.reports 0xF1 sevWarn 0 floeObj (pack [(ringState s.toBlock, 0), ((nodesHeard s.toBlock).length, 16)])) ∧
        t = { s with regs := t.regs, clk := t.clk, floe := t.floe, evq := t.evq, net := t.net } ∧
        s.keepsRegs t.toBlock [floeRing, timeRtc, evtLost]) ∧
      (s.role = 2 → s.paired = false → s.floe.master = none → s.img.node < 4096 →
        t.fget timeState 27 16 = s.img.node ∧ ∀ p ∈ dualPath, portUp s.toBlock p = true →
        .frame p (floeBytes (floeHdr s.toBlock p 1 dstAll n (getL s.floe.seqs 1 0)) (timeBytes s.img.node (pairOwn s.toBlock) t.clk.tb 0)) ∈ t.net)) ∧
  (∀ (s : State) (n : Nat), ringNode s.toBlock = true → s.floe.cycle = some n → s.floe.cmdd = false → s.paired = false →
    ∃ t, exec .commandInstant s = .next t ∧ t.floe.cmdd = true ∧ t.clk.tb = s.tbAt ((n + 1) * s.tCyc - s.tCmdw) ∧
      (s.role = 2 → s.dupId = false →
        t.floe.sects = (headSections s.toBlock n).filter (fun c => c.dst == s.img.node) ++ s.floe.sects ∧
        t.net = ((bundleSects [] (farFirst s.toBlock ((headSections s.toBlock n).filter (fun c => c.dst != s.img.node)))).foldl
          (fun x b => floeSend dualPath 2 dstAll n b x) s.toBlock).net) ∧
      ((s.role = 3 ∨ s.dupId = true) → t.net = s.net ∧ t.floe.sects = s.floe.sects) ∧
      t = { s with regs := t.regs, clk := t.clk, floe := t.floe, net := t.net } ∧ s.keepsRegs t.toBlock [timeRtc])

/-- FLOE_LINK_DOWN, FLOE_LINK_UP and LINK_DELAY_PROBE (R301, R302, R311, R313). -/
def Obligations.FloePorts : Prop :=
  (∀ (s : State) (p : Nat), p < 3 → s.phase = .active → portUp s.toBlock p = true →
    ∃ t, exec (.floeLinkDown p) s = .next t ∧ portUp t.toBlock p = false ∧
      t.fget floeCount 191 160 = (if p < 2 then satInc 32 (s.fget floeCount 191 160) else s.fget floeCount 191 160) ∧
      ((p ≠ 2 ∨ s.bit pairStat 4 = false) → t.reports 0xF0 sevWarn 0 floeObj p) ∧
      t = { s with regs := t.regs, pair := t.pair, evq := t.evq } ∧
      s.keepsRegs t.toBlock [floePort p, floeCount, pairCount, pairStat, evtLost]) ∧
  (∀ (s : State) (p ns : Nat), p < 3 → s.phase = .active → portUp s.toBlock p = false → s.bit (floePort p) 0 = true →
    (p = 2 → s.role = 2) →
    ∃ t, exec (.floeLinkUp p ns) s = .next t ∧ portUp t.toBlock p = true ∧ t.fget (floePort p) 31 8 = satU 24 ns ∧
      t.reports 0xF0 sevInfo 0 floeObj p ∧ t = { s with regs := t.regs, floe := t.floe, evq := t.evq } ∧
      s.keepsRegs t.toBlock [floePort p, evtLost]) ∧
  (∀ (s : State) (p ns : Nat) (l : List Nat), p < 3 → s.phase = .active → portUp s.toBlock p = true →
    l = (ns :: getL s.floe.delays p []).take 16 →
    ∃ t, exec (.linkDelayProbe p ns) s = .next t ∧
      t.fget (floePort p) 31 8 = satU 24 (rdiv (sumN l) l.length).toNat ∧ portUp t.toBlock p = true ∧
      t = { s with regs := t.regs, floe := t.floe } ∧ s.keepsRegs t.toBlock [floePort p])

/-- SNAPSHOT_RECEIVE, COMMAND_SECTION_RECEIVE, FLOE_FRAME_FORWARD, EVENT_FRAME_RECEIVE and FLOE_BULK_RESEND (R303 to R308, R311, R312,
R327, R356), outside a pair. -/
def Obligations.RingFrames : Prop :=
  (∀ (s : State) (n port bytes : Nat) (h : FloeHdr) (e : SnapEnt), ringNode s.toBlock = true → s.paired = false → s.role = 2 →
    s.floe.cycle = some n → port < 3 → seenKey h ∉ s.floe.seen → s.floe.gath = false → h.cycle % 2 ^ 32 = cyc32 n → e.echo = false →
    ∃ t, exec (.snapshotReceive h port bytes [e]) s = .next t ∧ seenKey h ∈ t.floe.seen ∧
      t.remote.find? (fun r => r.node == h.src && r.oid == e.oid) =
        some ⟨h.src, e.oid, toS 32 e.val, (n * s.tCyc : Nat) - (e.age * 1000 : Nat), bitAt e.flags 3,
          !(bitAt e.flags 3 && e.age == 2 ^ 32 - 1)⟩ ∧
      t.get floeCount = s.get floeCount) ∧
  (∀ (s : State) (n port bytes : Nat) (h : FloeHdr) (l : List SnapEnt), ringNode s.toBlock = true → s.paired = false → s.role = 2 →
    s.floe.cycle = some n → port < 3 → seenKey h ∉ s.floe.seen → (s.floe.gath = true ∨ cycBack n h.cycle ≠ n) →
    ∃ t, exec (.snapshotReceive h port bytes l) s = .next t ∧ t.remote = s.remote ∧ t.echo = s.echo ∧
      t.fget floeCount 95 64 = satInc 32 (s.fget floeCount 95 64) ∧
      t = { s with regs := t.regs, floe := t.floe, evq := t.evq } ∧ s.keepsRegs t.toBlock [floeCount, evtLost]) ∧
  (∀ (s : State) (n port bytes : Nat) (h : FloeHdr) (l : List SnapEnt), ringNode s.toBlock = true → s.paired = false →
    s.floe.cycle = some n → port < 3 → (s.role = 3 ∨ seenKey h ∈ s.floe.seen) →
    ∃ t, exec (.snapshotReceive h port bytes l) s = .next t ∧ t = { s with floe := t.floe }) ∧
  (∀ (s : State) (n : Nat) (c : Sect), ringNode s.toBlock = true → s.paired = false → s.floe.cycle = some n → c.dst = s.img.node →
    ∃ t, exec (.commandSectionReceive c true) s = .next t ∧
      (s.dupId = true → t.floe.sects = s.floe.sects ∧ t.regs = s.regs ∧ t.evq = s.evq) ∧
      (s.dupId = false → c.cycle % 2 ^ 32 = cyc32 n → (∀ x ∈ s.floe.sects, x.src = c.src → x.cycle ≠ c.cycle) →
        t.floe.sects = s.floe.sects ++ [c] ∧ t = { s with floe := t.floe }) ∧
      (s.dupId = false → c.cycle % 2 ^ 32 = cyc32 n → (∃ x ∈ s.floe.sects, x.src = c.src ∧ x.cycle = c.cycle) → t.floe.sects = s.floe.sects ∧
        t.fget pairCount 63 32 = satInc 32 (s.fget pairCount 63 32)) ∧
      (s.dupId = false → c.cycle % 2 ^ 32 ≠ cyc32 n → t.floe.sects = s.floe.sects ∧
        t.fget floeCount 127 96 = satInc 32 (s.fget floeCount 127 96)) ∧
      t = { s with regs := t.regs, floe := t.floe, evq := t.evq } ∧ s.keepsRegs t.toBlock [floeCount, pairCount, evtLost]) ∧
  (∀ (s : State) (c : Sect), exec (.commandSectionReceive c false) s = .next s) ∧
  (∀ (s : State) (port residence : Nat) (h : FloeHdr) (acks : Option Nat), s.phase = .active → s.paired = false → port < 2 →
    portUp s.toBlock port = true → portUp s.toBlock (1 - port) = true → h.src ≠ s.img.node → h.dst ≠ s.img.node → h.hops < 4094 →
    ∃ t, exec (.floeFrameForward port h true true residence false acks) s = .next t ∧
      t.net = .forward (1 - port) { h with hops := h.hops + 1 }
        (if h.cls = 1 then residence + s.fget (floePort port) 31 8 else 0) :: s.net ∧
      t = { s with floe := t.floe, net := t.net }) ∧
  (∀ (s : State) (port residence : Nat) (h : FloeHdr) (fcs full : Bool) (acks : Option Nat), s.phase = .active → port < 3 →
    portUp s.toBlock port = true →
    ∃ t, exec (.floeFrameForward port h false fcs residence full acks) s = .next t ∧
      t.fget floeCount 63 32 = satInc 32 (s.fget floeCount 63 32) ∧ t = { s with regs := t.regs } ∧
      s.keepsRegs t.toBlock [floeCount]) ∧
  (∀ (s : State) (port residence : Nat) (h : FloeHdr) (full : Bool) (acks : Option Nat), s.phase = .active → s.paired = false → port < 3 →
    portUp s.toBlock port = true → s.img.node ≠ 0 → h.src = s.img.node → h.inst = s.floe.tag →
    ∃ t, exec (.floeFrameForward port h true true residence full acks) s = .next t ∧ t.floe.back = true ∧ t.net = s.net ∧
      t = { s with floe := t.floe }) ∧
  (∀ (s : State) (h : FloeHdr) (recs : List EvRec), ringNode s.toBlock = true → s.role = 2 → seenKey h ∉ s.floe.seen →
    h.src ≠ s.img.node → recs.length ≤ 80 →
    ∃ t, exec (.eventFrameReceive h recs) s = .next t ∧ t.ringq = recs.foldl (fun q r => evPush q r s.clk.raw) s.ringq ∧
      seenKey h ∈ t.floe.seen ∧ t = { s with floe := t.floe, ringq := t.ringq }) ∧
  (∀ (s : State) (dst seq : Nat) (b : BulkOut), ringNode s.toBlock = true →
    s.floe.bulk.find? (fun b => b.dst == dst && b.seq == seq) = some b →
    ∃ t, exec (.floeBulkResend dst seq) s = .next t ∧ t.net = (floeLaunch [reachPort s.toBlock dst] 7 dst t.cycleNow seq b.data s.toBlock).net ∧
      t.clk.raw = s.rawAt (b.sentAt + 10000000) ∧
      (∀ x ∈ t.floe.bulk, x.dst = dst → x.seq = seq → x.sentAt = t.clk.raw) ∧
      t = { s with regs := t.regs, clk := t.clk, floe := t.floe, net := t.net } ∧ s.keepsRegs t.toBlock [timeRtc])

/-- PAIR_ANNOUNCE, PAIR_LISTEN_TIMEOUT and PAIR_PROMOTE (R321 to R324, R336, R337, R340): the partner heard, the promotion of a
listening and of a standing-by head with an EPOCH above every one heard, and no promotion at its limit. `e` is that EPOCH. -/
def Obligations.PairRoles : Prop :=
  (∀ (s : State) (st claim : Nat) (same : Bool), ringNode s.toBlock = true → s.paired = true → claim < 2 ^ 32 →
    ∃ t, exec (.pairAnnounce st claim same) s = .next t ∧ t.bit pairStat 6 = true ∧ t.bit pairStat 3 = false ∧
      t.pair.pclaim = max s.pair.pclaim claim ∧ t.pair.partner = st ∧ t.fget pairClaim 63 32 = claim ∧
      (s.pairState = 2 → st ≠ 1 → pairOwn s.toBlock < claim → t.pair.peState = some 3) ∧
      (s.pairState = 2 → claim ≤ pairOwn s.toBlock → t.pair.peState = s.pair.peState) ∧
      (s.pairState = 1 → same = true → st = 2 → t.pair.peState = some 3) ∧
      (s.pairState = 1 → same = false → t.pairState = 5 ∧ t.reports 0xFE sevFault 0 pairObj (pairPartner s.toBlock)) ∧
      ((s.pairState ≠ 1 ∨ same = true) → t.pairState = s.pairState) ∧
      t = { s with regs := t.regs, pair := t.pair, evq := t.evq } ∧ s.keepsRegs t.toBlock [pairStat, pairClaim, evtLost]) ∧
  (∀ (s : State) (m e : Nat), ringNode s.toBlock = true → s.paired = true → s.pairState = 1 → m = nextCycle s.toBlock →
    s.pair.from' + pairPromo s.toBlock ≤ m → e = max (s.get pairEpoch) (s.pair.pclaim / 256) + 1 →
    ∃ t, exec .pairListenTimeout s = .next t ∧ t.clk.tb = s.tbAt (m * s.tCyc) ∧
      (e ≤ 0xFFFFFF → t.pairState = 2 ∧ t.get pairEpoch = e ∧ t.fget pairCount 255 224 = satInc 32 (s.fget pairCount 255 224) ∧
        t.reports 0xF9 sevWarn 0 pairObj (e * 256 + pairRank s.toBlock)) ∧
      (0xFFFFFF < e → t.pairState = 1 ∧ t.get pairEpoch = s.get pairEpoch ∧
        t.reports 0xF9 sevCrit 1 pairObj (pairOwn s.toBlock)) ∧
      t = { s with regs := t.regs, clk := t.clk, pair := t.pair, evq := t.evq } ∧
      s.keepsRegs t.toBlock [pairStat, pairEpoch, pairClaim, pairCount, timeRtc, evtLost]) ∧
  (∀ (s : State) (m e : Nat), ringNode s.toBlock = true → s.standby = true → m = nextCycle s.toBlock →
    pairSilent s.toBlock m = true → e = max (s.get pairEpoch) (s.pair.pclaim / 256) + 1 →
    ∃ t, exec .pairPromote s = .next t ∧ t.clk.tb = s.tbAt (m * s.tCyc) ∧
      (e ≤ 0xFFFFFF → t.pairState = 2 ∧ t.bit pairStat 3 = true ∧ t.get pairEpoch = e ∧
        t.fget pairCount 255 224 = satInc 32 (s.fget pairCount 255 224) ∧ t.bit pairStat 5 = false ∧
        (s.bit pairStat 5 = false → t.reports 0xF9 sevWarn 0 pairObj (e * 256 + pairRank s.toBlock)) ∧
        (s.bit pairStat 5 = true → t.reports 0xFF sevInfo 0 pairObj 4)) ∧
      (0xFFFFFF < e → t.pairState = s.pairState ∧ t.get pairEpoch = s.get pairEpoch) ∧
      t = { s with regs := t.regs, clk := t.clk, pair := t.pair, evq := t.evq } ∧
      s.keepsRegs t.toBlock [pairStat, pairEpoch, pairClaim, pairCount, pairDrill, timeRtc, evtLost])

/-- STATE_UNIT, STATE_WRITE, STATE_MODE, STATE_VALUES, STATE_HANDOVER, STATE_COMMIT, STATE_ACK and WRITE_UNCONFIRMED (R330 to R335): a
record goes into its delta, a delta that passes its COMMIT is taken and acknowledged, another is discarded whole. -/
def Obligations.StateCopy : Prop :=
  (∀ (s : State) (c e m cause session reqId hs dur : Nat) (u : PairUnit) (its : List (Attr × AVal)) (o : Overlay) (x : Instr)
      (f : Delta → Delta) (old : Delta),
    (x, f) ∈ [(Instr.stateUnit c u, fun d => { d with units := d.units ++ [u] }),
      (.stateWrite c e its session reqId, fun d => { d with reqs := d.reqs ++ [(e, its, session, reqId)] }),
      (.stateMode c e m cause, fun d => { d with modes := d.modes ++ [(e, m, cause)] }),
      (.stateValues c e its m o, fun d => { d with values := some (e, its, m, o) }),
      (.stateHandover c hs dur, fun d => { d with hand := some (hs, dur) })] →
    ringNode s.toBlock = true → s.standby = true →
    old = (s.pair.deltas.find? (fun d => d.cycle == c)).getD (deltaNew c) →
    ∃ t, exec x s = .next t ∧
      t.pair.deltas.find? (fun d => d.cycle == c) = some (f { old with count := old.count + 1 }) ∧
      (∀ d, d.cycle ≠ c → (d ∈ t.pair.deltas ↔ d ∈ s.pair.deltas)) ∧
      t = { s with pair := { s.pair with deltas := t.pair.deltas } }) ∧
  (∀ (s : State) (c records : Nat) (ok : Bool) (d : Delta), ringNode s.toBlock = true → s.standby = true →
    d = (s.pair.deltas.find? (fun d => d.cycle == c)).getD (deltaNew c) → (∀ x ∈ s.pair.deltas, c ≤ x.cycle) →
    ∃ t, exec (.stateCommit c records ok) s = .next t ∧ (∀ x ∈ t.pair.deltas, c < x.cycle) ∧
      (d.count = records → ok = true → (d.values = none ∨ s.pairState = 3) → t.net = s.stateSent (.ack c) ∧ t.pair.units = s.pair.units ++ d.units ∧
        t.pair.writes = s.pair.writes ++ d.reqs ∧ (∀ v, d.values = some v → t.pair.values = some v) ∧
        (∀ v, d.hand = some v → t.pair.hand = some (v.1, v.2, false)) ∧ (∀ v, d.modes = [v] → t.pair.modeAt = some v) ∧
        t = { s with pair := t.pair, net := t.net }) ∧
      (d.count = records → ok = true → d.values ≠ none → s.pairState = 4 → t.net = s.stateSent (.ack c) ∧ t.pairState = 3 ∧
        t.pair.units = d.units ∧ t.pair.writes = d.reqs ∧ t.pair.values = d.values ∧
        t = { s with regs := t.regs, pair := t.pair, net := t.net, evq := t.evq } ∧
        s.keepsRegs t.toBlock [pairStat, pairClaim, evtLost]) ∧
      ((d.count ≠ records ∨ ok = false) → t.net = s.net ∧ t.pair.units = s.pair.units ∧ t.pair.writes = s.pair.writes ∧
        t.fget pairCount 191 160 = satInc 32 (s.fget pairCount 191 160) ∧
        t = { s with regs := t.regs, pair := t.pair, evq := t.evq } ∧ s.keepsRegs t.toBlock [pairCount, evtLost])) ∧
  (∀ (s : State) (d : Nat), ringNode s.toBlock = true → s.paired = true →
    ∃ t, exec (.stateAck d) s = .next t ∧ (∀ r ∈ t.pair.reqs, r.d = d → r.done = true) ∧
      (∀ r, s.pair.reqs = [r] → r.d = d → r.done = false → r.yhp = false → t.answers r.entry 0) ∧
      t = { s with pair := t.pair, host := t.host }) ∧
  (∀ (s : State) (q : PairReq), ringNode s.toBlock = true → s.pairState = 2 → s.pair.reqs.find? (fun r => !r.done) = some q →
    ∃ t, exec .writeUnconfirmed s = .next t ∧ t.clk.tb = s.tbAt ((q.d + 2) * s.tCyc - s.tCmdw) ∧
      (∀ r ∈ t.pair.reqs, r.d = q.d → r.done = true) ∧ t.pair.sendVals = true ∧ t.pair.partner ≠ 4 ∧
      (∀ it, s.pair.reqs = [q] → q.items = [it] → t.fget pairCount 223 192 = satInc 32 (s.fget pairCount 223 192) ∧
        t.reports 0xFD sevWarn 0 pairObj (oidOf it.1)) ∧
      t = { s with regs := t.regs, clk := t.clk, pair := t.pair, host := t.host, evq := t.evq } ∧
      s.keepsRegs t.toBlock [pairCount, timeRtc, evtLost])

/-- DRILL, DRILL_END, EPOCH_RESET and DRILL_DURATION_END (R323, R340, R341): a handover is placed in the open delta D for cycle D + 2; the EPOCH
is reset. -/
def Obligations.DrillCommands : Prop :=
  (∀ (s : State) (i dur : Nat), s.mayWrite i pairCmd → pairCmdCheck 1 dur s.counted = 0 →
    ∃ t, exec (.drill i dur) s = .next t ∧ t.answers i 0 ∧ t.pair.hand = some (pairOpen s.toBlock + 2, dur, true) ∧
      t.net = s.stateSent (.handover (pairOpen s.toBlock) (pairOpen s.toBlock + 2) dur) ∧
      t = { s with regs := t.regs, pair := t.pair, net := t.net, host := t.host, evq := t.evq } ∧
      s.keepsRegs t.toBlock [hostCount, evtLost]) ∧
  (∀ (s : State) (i : Nat), s.mayWrite i pairCmd → pairCmdCheck 2 0 s.counted = 0 →
    ∃ t, exec (.drillEnd i) s = .next t ∧ t.answers i 0 ∧
      t.pair.hand = (if s.pair.hand = none then some (pairOpen s.toBlock + 2, 0, true) else s.pair.hand) ∧
      t = { s with regs := t.regs, pair := t.pair, net := t.net, host := t.host, evq := t.evq } ∧
      s.keepsRegs t.toBlock [hostCount, evtLost]) ∧
  (∀ (s : State) (i : Nat), s.mayWrite i pairCmd → pairCmdCheck 3 0 s.counted = 0 →
    ∃ t, exec (.epochReset i) s = .next t ∧ t.answers i 0 ∧ t.get pairEpoch = 0 ∧ t.pairState = s.pairState ∧
      t.fget pairClaim 31 0 = pairRank s.toBlock ∧
      t = { s with regs := t.regs, pair := { s.pair with pclaim := 0 }, host := t.host, evq := t.evq } ∧
      s.keepsRegs t.toBlock [pairEpoch, pairStat, pairClaim, hostCount, evtLost]) ∧
  (∀ (s : State) (e : Nat), ringNode s.toBlock = true → s.pair.drillTo = some e → s.pair.drilled = true → s.pairState = 2 →
    s.pair.hand = none →
    ∃ t, exec .drillDurationEnd s = .next t ∧ t.clk.tb = s.tbAt e ∧
      t.pair.hand = some (pairOpen t.toBlock + 2, s.pair.drillDur, true) ∧
      t = { s with regs := t.regs, clk := t.clk, pair := t.pair, net := t.net } ∧ s.keepsRegs t.toBlock [timeRtc])

/-- R341: A drill is refused with 0x0402 when EPOCH ≥ 0xFF_FFF0, so that promotions by silence remain possible. Whatever else is amiss, no
drill starts there; where nothing else is, the code is 0x0402. -/
def Obligations.DrillRefusedAtTopEpoch : Prop :=
  ∀ (s : State) (i dur : Nat), s.mayWrite i pairCmd → 0xFFFFF0 ≤ s.get pairEpoch →
    ∃ t code, exec (.drill i dur) s = .next t ∧ t.pair = s.pair ∧ t.net = s.net ∧ t.answers i code ∧ code ≠ 0 ∧
      (s.modeNo ≠ 0 → s.role = 2 → s.pairState = 2 → s.pair.partner = 4 → 1 ≤ dur → dur ≤ 1440 → s.bit pairStat 5 = false →
        s.pair.hand = none → code = 0x0402) ∧
      t.fget hostCount 63 32 = satInc 32 (s.fget hostCount 63 32) ∧
      t = { s with regs := t.regs, host := t.host, evq := t.evq } ∧ s.keepsRegs t.toBlock [hostCount, evtLost]

/-- A command of the pair scope at a head (R334), `pairScopeRows`: at the active head of a pair it is checked, placed in the open delta D
with its effect at D + 2, and neither answered nor carried out; at a head without a partner it is answered, and waits for the first
cycle start at least 2 µs on. -/
def Obligations.PairScopeCommandWaits : Prop :=
  (∀ (s : State) (i l k n pos m oid : Nat) (b : Bool) (tb : Table) (c : Instr) (a : Attr) (v : AVal) (check : Block → Nat),
    (c, a, v, check) ∈ pairScopeRows i l k n pos m oid b tb → l < 8 → n < 256 → k < 4 → s.paired = true → s.mayWrite i a →
    s.pairState = 2 → check s.counted = 0 →
    ∃ t d, exec c s = .next t ∧ d = pairOpen s.toBlock ∧
      t.pair.reqs = s.pair.reqs ++ [⟨d, d + 2, [(a, v)], i, s.handleOf (.sess i), 0, 0, false, false⟩] ∧
      t.net = s.stateSent (.write d (d + 2) [(a, v)] (s.handleOf (.sess i)) 0) ∧ t.host = s.host ∧
      t = { s with regs := t.regs, pair := t.pair, net := t.net, evq := t.evq } ∧ s.keepsRegs t.toBlock [hostCount, evtLost]) ∧
  (∀ (s : State) (i l k n pos m oid : Nat) (b : Bool) (tb : Table) (c : Instr) (a : Attr) (v : AVal) (check : Block → Nat),
    (c, a, v, check) ∈ pairScopeRows i l k n pos m oid b tb → l < 8 → n < 256 → k < 4 → s.loneHead = true → s.mayWrite i a →
    check s.counted = 0 →
    ∃ t, exec c s = .next t ∧ t.answers i 0 ∧
      t.late = s.late ++ [⟨a, v, i, ceilMultiple (max 1 s.tCyc) (s.clk.tb + 2000)⟩] ∧
      t = { s with regs := t.regs, late := t.late, host := t.host, evq := t.evq } ∧ s.keepsRegs t.toBlock [hostCount, evtLost])

/-- OPEN, PROVISIONING_OPEN, CONFIRM and CONFIRM_TIMEOUT (R347, R348): a challenge with a fresh handle and the session key derived from
the slot's key, the two nonces and the handle; a CONFIRM under that key in time opens the session; the module's nonce and the
place the handle is drawn from are free (log entry 4). -/
def Obligations.SessionOpening : Prop :=
  (∀ (s : State) (d : Dgram) (i slot : Nat), s.sized = true → s.hostUp = true → yhpForm d = true → (∀ b ∈ d.tag, b = 0) →
    slot = leAt d.payload 16 1 → slot ≠ 0xFF → openCheck d s.toBlock = 0 → freeEntry s.toBlock = some i →
    ∃ t x nonce, exec (.hostOpen d) s = .next t ∧ nonce = freeBytes 16 s.fresh ∧ t.sessAt i = some x ∧ x.st = .challenge ∧
      x.prov = false ∧ x.slot = slot ∧ x.level = s.fget (hostAuth slot) 2 1 ∧ 1 ≤ x.handle ∧ x.handle ≤ 0xFFFE ∧
      (∀ e ∈ s.host.sess, e.st ≠ .free → e.handle ≠ x.handle) ∧ x.openedAt = s.clk.raw ∧
      x.key = hmac256 (getL s.mram.auth slot []) ([0x59, 0x48, 0x50, 0x53] ++ d.payload.take 16 ++ nonce ++ beBytes 2 x.handle) ∧
      t.host.out.head? = some (.resp d.session ⟨yOpen + 0x80, d.seq, d.reqId, 0,
        nonce ++ leBytes 2 x.handle ++ zeros 2 ++ leBytes 8 s.serial⟩) ∧
      (∀ j, j ≠ i → t.sessAt j = s.sessAt j) ∧ t = { s with regs := t.regs, fresh := t.fresh, host := t.host } ∧
      s.keepsRegs t.toBlock [hostStat, hostCount]) ∧
  (∀ (s : State) (d : Dgram), s.hostUp = true → yhpForm d = true → (∀ b ∈ d.tag, b = 0) → openCheck d s.toBlock ≠ 0 →
    ∃ t, exec (.hostOpen d) s = .next t ∧
      t.host.out.head? = some (.resp d.session ⟨yOpen + 0x80, d.seq, d.reqId, openCheck d s.toBlock, []⟩) ∧
      t.host.sess = s.host.sess ∧ t.fget hostCount 63 32 = satInc 32 (s.fget hostCount 63 32) ∧
      t = { s with regs := t.regs, host := t.host } ∧ s.keepsRegs t.toBlock [hostCount]) ∧
  (∀ (s : State) (d d' : Dgram) (i : Nat), s.sized = true → s.hostUp = true → yhpForm d = true → (∀ b ∈ d.tag, b = 0) →
    d.payload.length = 20 → d' = { d with payload := d.payload.take 16 ++ [0xFF] ++ d.payload.drop 17 } →
    openCheck d' s.toBlock = 0 → freeEntry s.toBlock = some i →
    ∃ t x, exec (.provisioningOpen d) s = .next t ∧ t.sessAt i = some x ∧ x.st = .opened ∧ x.prov = true ∧ x.level = 0 ∧
      t.reports 0x29 sevInfo 0 host0 (pack [(x.handle, 0), (0xFF, 24)]) ∧ (∀ j, j ≠ i → t.sessAt j = s.sessAt j) ∧
      t = { s with regs := t.regs, fresh := t.fresh, host := t.host, evq := t.evq } ∧
      s.keepsRegs t.toBlock [hostStat, hostCount, evtLost]) ∧
  (∀ (s : State) (d : Dgram) (i : Nat) (x : Sess), s.hostUp = true → yhpForm d = true → d.node = 0 → d.payload = [] →
    sessFind .challenge d.session s.toBlock = some (i, x) → d.tag = hmac256 x.key (yhpHdr yConfirm d ++ d.payload) →
    s.clk.raw ≤ x.openedAt + 5 * nsPerS → s.prompt i x d →
    ∃ t y, exec (.hostConfirm d) s = .next t ∧ t.sessAt i = some y ∧ y.st = .opened ∧ y.handle = x.handle ∧ y.level = x.level ∧
      y.key = x.key ∧ y.seqAcc = d.seq ∧ t.responds x d yConfirm 0 (leBytes 1 x.level ++ zeros 3) ∧
      t.reports 0x29 sevInfo 0 host0 (pack [(x.handle, 0), (x.level, 16), (x.slot, 24)]) ∧
      (∀ j, j ≠ i → t.sessAt j = s.sessAt j) ∧ t = { s with regs := t.regs, host := t.host, evq := t.evq } ∧
      s.keepsRegs t.toBlock [hostCount, evtLost]) ∧
  (∀ (s : State) (d : Dgram) (i : Nat) (x : Sess), s.hostUp = true → yhpForm d = true → d.node = 0 → d.payload = [] →
    sessFind .challenge d.session s.toBlock = some (i, x) →
    (d.tag ≠ hmac256 x.key (yhpHdr yConfirm d ++ d.payload) ∨ x.openedAt + 5 * nsPerS < s.clk.raw) →
    ∃ t, exec (.hostConfirm d) s = .next t ∧ t.sessAt i = some sessFree ∧
      t.host.out.head? = some (.resp d.session ⟨yConfirm + 0x80, d.seq, d.reqId, 0x0501, []⟩) ∧
      t.reports 0x2A sevWarn 0 host0 (d.ip % 2 ^ 32) ∧ (∀ j, j ≠ i → t.sessAt j = s.sessAt j) ∧
      s.keepsRegs t.toBlock [hostCount, hostStat, evtLost]) ∧
  (∀ (s : State) (i : Nat) (x : Sess), i < 4 → s.sessAt i = some x → x.st = .challenge →
    ∃ t, exec (.confirmTimeout i) s = .next t ∧ t.sessAt i = some sessFree ∧ x.handle ∈ t.host.lapsed ∧
      t.clk.raw = s.rawAt (x.openedAt + 5 * nsPerS) ∧ (∀ j, j ≠ i → t.sessAt j = s.sessAt j) ∧
      s.keepsRegs t.toBlock [hostStat, timeRtc])

/-- CLOSE, SESSION_IDLE_TIMEOUT, KEEPALIVE, HOST_CFG_APPLY, WD_WRITE and HOST_WATCHDOG_LAPSE (R345, R348, R349, R359, R360). -/
def Obligations.SessionUpkeep : Prop :=
  (∀ (s : State) (d : Dgram) (i : Nat) (x : Sess), s.accepts yClose i x d → s.prompt i x d → d.node = 0 → d.payload = [] →
    ∃ t, exec (.hostClose d) s = .next t ∧ t.responds x d yClose 0 [] ∧ t.sessAt i = some sessFree ∧
      (∀ j, j ≠ i → t.sessAt j = s.sessAt j) ∧ (t.mode.ownerGone = true ↔ s.mode.ownerGone = true ∨
        (s.modeNo = 5 ∧ s.fget modeState 18 16 = i + 1)) ∧ t.modeNo = s.modeNo ∧ t.clk = s.clk) ∧
  (∀ (s : State) (i : Nat) (x : Sess), i < 4 → s.sessAt i = some x → x.st = .opened →
    ∃ t, exec (.sessionIdleTimeout i) s = .next t ∧ t.sessAt i = some sessFree ∧
      t.clk.raw = s.rawAt (x.lastAt + 60 * nsPerS) ∧ (∀ j, j ≠ i → t.sessAt j = s.sessAt j) ∧ t.modeNo = s.modeNo) ∧
  (∀ (s : State) (d : Dgram) (i : Nat) (x : Sess), s.accepts yKeepalive i x d → s.prompt i x d → x.prov = false → d.node = 0 →
    d.payload = [] →
    ∃ t, exec (.keepalive d) s = .next t ∧
      t.responds x d yKeepalive 0 (leBytes 4 (s.get modeState) ++ zeros 4 ++ leBytes 8 s.clk.tb) ∧
      (1 ≤ x.level → s.bit hostWd 16 = true → s.phase = .active → s.modeNo ≠ 0 → t.bit hostWdStat 0 = true ∧
        t.bit hostWdStat 1 = false ∧ t.fget hostWdStat 95 32 = s.clk.tb % 2 ^ 64 ∧ t.host.wdFrom = s.clk.raw ∧
        (s.bit hostWdStat 1 = true → t.mode.fbWd = false)) ∧
      ((x.level = 0 ∨ s.bit hostWd 16 = false) → t.get hostWdStat = s.get hostWdStat ∧ t.host.wdFrom = s.host.wdFrom) ∧
      t = { s with regs := t.regs, mode := t.mode, host := t.host, evq := t.evq } ∧
      s.keepsRegs t.toBlock [hostWdStat, hostCount, evtLost]) ∧
  (∀ (s : State) (u : Nat), s.sized = true → s.host.cfgAt = some u →
    ∃ t, exec .hostCfgApply s = .next t ∧ t.clk.raw = s.rawAt u ∧ t.host.netCfg = s.get hostCfg ∧ t.host.cfgAt = none ∧
      t.host.mb = [] ∧ t.host.relays = [] ∧ (∀ i < 4, t.sessAt i = some sessFree)) ∧
  (∀ (s : State) (i v : Nat), s.mayWrite i hostWd → objErr (.sess i) hostWd (.num v) s.counted = 0 →
    ∃ t, exec (.wdWrite i v) s = .next t ∧ t.answers i 0 ∧ t.get hostWd = v % 2 ^ 32 ∧ hostWd ∈ t.vol ∧
      t.host.wdFrom = s.clk.raw ∧ t.bit hostWdStat 0 = bitAt v 16 ∧
      (bitAt v 16 = false → t.bit hostWdStat 1 = false ∧ (s.bit hostWdStat 1 = true → t.mode.fbWd = false)) ∧
      t = { s with regs := t.regs, vol := t.vol, mode := t.mode, host := t.host, evq := t.evq } ∧
      s.keepsRegs t.toBlock [hostWd, hostWdStat, hostCount, evtLost]) ∧
  (∀ s : State, s.phase = .active → s.modeNo ≠ 0 → s.bit hostWd 16 = true → s.bit hostWdStat 0 = true → s.bit hostWdStat 1 = false →
    ∃ t, exec .hostWatchdogLapse s = .next t ∧ t.bit hostWdStat 1 = true ∧
      t.clk.raw = s.rawAt (s.host.wdFrom + s.fget hostWd 15 0 * nsPerS) ∧ t.host.wdFrom = t.clk.raw ∧
      t.mode.fbWd = (s.mode.fbWd || !s.standby) ∧
      t.reports 0x28 (if s.standby then sevWarn else sevCrit) 0 host0 (s.fget hostWd 15 0) ∧
      t = { s with regs := t.regs, clk := t.clk, mode := t.mode, host := t.host, evq := t.evq } ∧
      s.keepsRegs t.toBlock [hostWdStat, timeRtc, evtLost])

/-- READ, WRITE and SEGMENT_BUFFER_TIMEOUT at their target (R351 to R354, R362): a READ clears only read-clear values; a WRITE is refused
whole or taken whole. A write of a loop's SP waits for the loop's next class boundary at least 2 µs on, which is its EFFECT (R175);
that a READ shows it at once is the model's choice (log entry 10). `s.taken i x d` is the machine that has counted the request. EFFECT of a refused WRITE is free (log entry 4). -/
def Obligations.HostReadWrite : Prop :=
  (∀ (s : State) (d : Dgram) (i : Nat) (x : Sess), s.accepts yRead i x d → s.prompt i x d → elsewhere d s.toBlock = false →
    ∃ t r, exec (.hostRead d) s = .next t ∧ r = readAct (.sess i) d.payload (s.taken i x d) ∧ t.responds x d yRead r.1 r.2.1 ∧
      (r.1 = 0x0202 ↔ leAt d.payload 0 2 = 0 ∨ 32 < leAt d.payload 0 2 ∨ d.payload.length ≠ 4 + 12 * leAt d.payload 0 2) ∧
      (∀ oid off mx, d.payload = leBytes 2 1 ++ zeros 2 ++ leBytes 4 oid ++ leBytes 4 off ++ leBytes 2 mx ++ zeros 2 → oid < 2 ^ 32 →
        accessOf (attrOf oid) = some .rc → readErr (.sess i) oid (s.taken i x d) = 0 → off = 0 → mx ≤ 64 → t.get (attrOf oid) = 0) ∧
      t = { s with regs := t.regs, host := t.host, evq := t.evq } ∧
      (∀ a, accessOf a ≠ some .rc → a ∉ [hostCount, evtLost] → t.get a = s.get a)) ∧
  (∀ (s : State) (d : Dgram) (i : Nat) (x : Sess) (present : Bool) (r : WRes), s.accepts yWrite i x d → s.prompt i x d →
    elsewhere d s.toBlock = false → s.paired = false → r = writeAct (.sess i) present d.payload (s.taken i x d) → r.st ≠ 0 →
    (∀ j, s.mode.cmd ≠ some (0x10, j) ∧ s.mode.cmd ≠ some (0x11, j)) →
    ∃ t, exec (.hostWrite d present) s = .next t ∧ t.host.out.length = s.host.out.length + 1 ∧
      t.responds x d yWrite r.st r.pay ∧ (∀ a, accessOf a = some .rw ∨ accessOf a = some .rwp → t.get a = s.get a) ∧
      t.tabs = s.tabs ∧ t.vol = s.vol ∧ t.mram = s.mram ∧ t.key = s.key ∧ t.mode = s.mode ∧ t.clk = s.clk) ∧
  (∀ (s : State) (d : Dgram) (i : Nat) (x : Sess) (present : Bool) (v : Nat), s.accepts yWrite i x d → s.prompt i x d →
    elsewhere d s.toBlock = false → s.paired = false → v < 2 ^ 32 →
    d.payload = leBytes 2 1 ++ zeros 2 ++ leBytes 4 (oidOf hostWd) ++ leBytes 2 4 ++ leBytes 2 0 ++ leBytes 4 v →
    s.levelCheck (.sess i) hostWd = 0 → s.powerCheck hostWd false = 0 → objErr (.sess i) hostWd (.num v) (s.taken i x d).seen = 0 →
    (∀ j, s.mode.cmd ≠ some (0x10, j) ∧ s.mode.cmd ≠ some (0x11, j)) →
    ∃ t, exec (.hostWrite d present) s = .next t ∧ t.get hostWd = v ∧ t.bit hostWdStat 0 = bitAt v 16 ∧
      t.responds x d yWrite 0 (writePayload 0xFFFF s.clk.tb)) ∧
  (∀ (s : State) (d : Dgram) (i n : Nat) (x : Sess) (present : Bool) (v : Nat), s.accepts yWrite i x d → s.prompt i x d →
    elsewhere d s.toBlock = false → s.role ≠ 2 → n < 256 → v < 2 ^ 32 → (∀ w ∈ s.late, w.a ≠ lpCfg n) →
    d.payload = leBytes 2 1 ++ zeros 2 ++ leBytes 4 (oidOf (lpSp n)) ++ leBytes 2 4 ++ leBytes 2 0 ++ leBytes 4 v →
    s.levelCheck (.sess i) (lpSp n) = 0 → s.powerCheck (lpSp n) false = 0 → objErr (.sess i) (lpSp n) (.num v) (s.taken i x d).seen = 0 →
    (∀ j, s.mode.cmd ≠ some (0x10, j) ∧ s.mode.cmd ≠ some (0x11, j)) →
    ∃ t, exec (.hostWrite d present) s = .next t ∧ t.late = s.late ++ [⟨lpSp n, .num v, 4, s.clk.tb + 2000⟩] ∧
      t.get (lpSp n) = s.get (lpSp n) ∧ t.seen.get (lpSp n) = v ∧ lpSp n ∈ t.vol ∧
      t.responds x d yWrite 0 (writePayload 0xFFFF
        (ceilMultiple (max 1 (clsPeriod s.toBlock (lpClass s.toBlock n))) (s.clk.tb + 2000)))) ∧
  (∀ (s : State) (i : Nat) (x : Sess) (b : SegBuf), i < 4 → s.sessAt i = some x → x.seg = some b →
    ∃ t, exec (.segmentBufferTimeout i) s = .next t ∧ t.sessAt i = some { x with seg := none } ∧
      t.clk.raw = s.rawAt (b.lastAt + 10 * nsPerS) ∧ (∀ j, j ≠ i → t.sessAt j = s.sessAt j) ∧
      t = { s with regs := t.regs, clk := t.clk, host := t.host } ∧ s.keepsRegs t.toBlock [timeRtc])

/-- A READ or WRITE that names another node, RELAY_REQUEST and RELAY_TIMEOUT (R355): the head hands the request on with the session's
level, answers with the target's STATUS, or with 0x0405 after 50 ms. -/
def Obligations.Relays : Prop :=
  (∀ (s : State) (d : Dgram) (i typ : Nat) (x : Sess) (present : Bool) (c : Instr),
    (c, typ) ∈ [(Instr.hostRead d, yRead), (.hostWrite d present, yWrite)] → s.accepts typ i x d → elsewhere d s.toBlock = true →
    relayCheck i d s.toBlock = 0 →
    ∃ t, exec c s = .next t ∧ t.net = .relay d.node x.level typ d.reqId d.payload :: s.net ∧
      t.host.relays = s.host.relays ++ [⟨i, d.session, d.seq, d.reqId, typ, d.node, s.clk.raw, false⟩] ∧ t.host.out = s.host.out ∧
      t.fget hostCount 191 160 = satInc 32 (s.fget hostCount 191 160) ∧
      t = { s with regs := t.regs, host := t.host, net := t.net } ∧ s.keepsRegs t.toBlock [hostCount]) ∧
  (∀ (s : State) (node x reqId : Nat) (p : List Byte) (r : Nat × List Byte × Block) (present : Bool), ringNode s.toBlock = true →
    headHeard node s.toBlock = true → r = readAct (.relay (min x 2)) p s.toBlock →
    ∃ t, exec (.relayRequest false node x yRead reqId p present) s = .next t ∧ t.net = .relayResp node reqId r.1 r.2.1 :: s.net ∧
      t = { s with regs := t.regs, net := t.net, evq := t.evq } ∧
      (∀ a, accessOf a ≠ some .rc → a ≠ evtLost → t.get a = s.get a)) ∧
  (∀ (s : State) (c : Instr) (node x typ reqId st : Nat) (p pay : List Byte) (r : Relay) (y : Sess) (present : Bool),
    ((c = .relayRequest true node x typ reqId p present ∧ st = x ∧ pay = p ∧ ringNode s.toBlock = true ∧
        s.host.relays.find? (fun r => r.node == node && r.reqId == reqId && r.typ == typ) = some r ∧ (typ = yBulkQuery → x ≠ 0)) ∨
     (c = .relayTimeout ∧ st = 0x0405 ∧ pay = [] ∧ s.host.relays.find? (fun r => !r.got) = some r)) →
    s.sessAt r.entry = some y → y.st = .opened → y.handle = r.handle → y.held = [] → reqWaits r.entry r.seq s.toBlock = false →
    ∃ t, exec c s = .next t ∧ .resp r.handle ⟨r.typ + 0x80, r.seq, r.reqId, st, pay⟩ ∈ t.host.out ∧
      t.host.relays = s.host.relays.erase r ∧
      (c = .relayTimeout → t.clk.raw = s.rawAt (r.sentAt + 50000000)) ∧ t.net = s.net)

/-- BULK_QUERY, BULK_ACK, BULK_RESEND and BULK_QUERY_TIMEOUT (R357): a query starts and sends, an acknowledged chunk leaves the
window, an unacknowledged window is sent again, and a query without an acknowledgement ends. -/
def Obligations.BulkQueries : Prop :=
  (∀ (s : State) (d : Dgram) (i : Nat) (x : Sess), s.accepts yBulkQuery i x d → s.prompt i x d → elsewhere d s.toBlock = false →
    queryCheck (.sess i) d.payload (s.taken i x d) = 0 →
    ∃ t y q fl b, exec (.bulkQuery d) s = .next t ∧ t.sessAt i = some y ∧ y.query = some q ∧ q.qid = leAt d.payload 0 4 ∧
      q.kind = leAt d.payload 4 1 ∧ 1 ≤ q.next ∧ q.next = q.win.length ∧
      t.host.out.head? = some (.bulk x.handle q.qid (q.next - 1) fl b) ∧ (∀ j, j ≠ i → t.sessAt j = s.sessAt j) ∧
      t = { s with regs := t.regs, host := t.host } ∧ s.keepsRegs t.toBlock [hostCount, firnStat]) ∧
  (∀ (s : State) (d : Dgram) (i n : Nat) (x : Sess) (q : Query), s.enters yBulkAck i x d → x.query = some q →
    d.payload.length = 8 → leAt d.payload 0 4 = q.qid → n = leAt d.payload 4 4 →
    ∃ t y, exec (.bulkAck d) s = .next t ∧ t.sessAt i = some y ∧
      (q.last = true → (∀ c ∈ q.win, c.no ≤ n) → y.query = none) ∧
      ((q.last = false ∨ ∃ c ∈ q.win, n < c.no) → n < q.next → ∃ r, y.query = some r ∧ (∀ c ∈ r.win, n < c.no) ∧
        (∀ c ∈ q.win, n < c.no → c ∈ r.win) ∧ r.lastAck = s.clk.raw) ∧
      t = { s with regs := t.regs, host := t.host } ∧ s.keepsRegs t.toBlock [firnStat]) ∧
  (∀ (s : State) (i : Nat) (x : Sess) (q : Query), i < 4 → s.sessAt i = some x → x.query = some q →
    ∃ t, exec (.bulkResend i) s = .next t ∧ t.clk.raw = s.rawAt (q.sentAt + 50000000) ∧
      (∀ c ∈ q.win, .bulk x.handle q.qid c.no c.flags c.data ∈ t.host.out) ∧
      t = { s with regs := t.regs, clk := t.clk, host := t.host } ∧ s.keepsRegs t.toBlock [timeRtc]) ∧
  (∀ (s : State) (i : Nat) (x : Sess) (q : Query), i < 4 → s.sessAt i = some x → x.query = some q →
    ∃ t, exec (.bulkQueryTimeout i) s = .next t ∧ t.clk.raw = s.rawAt (q.lastAck + 5 * nsPerS) ∧
      t.sessAt i = some { x with query := none } ∧ t.host.out = s.host.out ∧
      t = { s with regs := t.regs, clk := t.clk, host := t.host } ∧ s.keepsRegs t.toBlock [firnStat, timeRtc])

/-- EVT_SUB, EVT_ACK, EVT_RESEND, MODBUS_CONNECT, MODBUS_REQUEST and MODBUS_IDLE_TIMEOUT (R94, R356, R361). -/
def Obligations.StreamsAndModbus : Prop :=
  (∀ (s : State) (d : Dgram) (i : Nat) (x : Sess), s.accepts yEvtSub i x d → s.prompt i x d → evtSubCheck i d s.toBlock = 0 → i < 4 →
    ∃ t y, exec (.evtSub d) s = .next t ∧ t.sessAt i = some y ∧ (y.stream.isSome = true ↔ leAt d.payload 0 1 = 1) ∧
      .resp x.handle ⟨yEvtSub + 0x80, d.seq, d.reqId, 0, []⟩ ∈ t.host.out ∧
      t = { s with regs := t.regs, host := t.host, evq := t.evq, ringq := t.ringq, floe := s.eventsGone t.toBlock } ∧
      s.keepsRegs t.toBlock [hostCount]) ∧
  (∀ (s : State) (d : Dgram) (i a : Nat) (x : Sess) (u : Stream), s.enters yEvtAck i x d → x.stream = some u → d.payload.length = 4 →
    a = leAt d.payload 0 4 → a < u.sseq → i < 4 →
    ∃ t y v, exec (.evtAck d) s = .next t ∧ t.sessAt i = some y ∧ y.stream = some v ∧ (∀ p ∈ v.win, a < p.sseq) ∧
      t = { s with host := t.host, evq := t.evq, ringq := t.ringq, floe := s.eventsGone t.toBlock }) ∧
  (∀ (s : State) (i : Nat) (x : Sess) (u : Stream), i < 4 → s.sessAt i = some x → x.stream = some u → u.win ≠ [] →
    ∃ t, exec (.evtResend i) s = .next t ∧ t.clk.raw = s.rawAt (u.sentAt + 100000000) ∧
      (∀ p ∈ u.win, .evt x.handle (evtBytes p.sseq (p.recs.map (fun e => e.2.2))) ∈ t.host.out) ∧
      t = { s with regs := t.regs, clk := t.clk, host := t.host } ∧ s.keepsRegs t.toBlock [timeRtc]) ∧
  (∀ (s : State) (id : Nat), s.phase = .active → bitAt s.host.netCfg 112 = true → s.host.mb.length < 4 →
    (∀ c ∈ s.host.mb, c.id ≠ id) →
    ∃ t, exec (.modbusConnect id) s = .next t ∧ t.host.mb = s.host.mb ++ [⟨id, s.clk.raw⟩] ∧
      t.fget hostStat 10 8 = s.host.mb.length + 1 ∧ t = { s with regs := t.regs, host := t.host } ∧
      s.keepsRegs t.toBlock [hostStat]) ∧
  (∀ (s : State) (id fc addr qty : Nat), s.phase = .active → (∃ c ∈ s.host.mb, c.id = id) →
    ∃ t v, exec (.modbusRequest id fc addr qty) s = .next t ∧
      (mbExc fc addr qty ≠ 0 → t.host.out.head? = some (.modbus id (beBytes 1 (fc + 0x80) ++ beBytes 1 (mbExc fc addr qty))) ∧
        t.fget hostCount 223 192 = satInc 32 (s.fget hostCount 223 192) ∧
        t.fget hostCount 255 224 = satInc 32 (s.fget hostCount 255 224) ∧ s.keepsRegs t.toBlock [hostCount]) ∧
      (mbExc fc addr qty = 0 → t.host.out.head? = some (.modbus id (beBytes 1 fc ++ beBytes 1 (2 * qty) ++ v)) ∧
        v.length = 2 * qty ∧ (∀ a, accessOf a ≠ some .rc → a ≠ hostCount → t.get a = s.get a)) ∧
      (∀ c ∈ t.host.mb, c.id = id → c.lastAt = s.clk.raw) ∧ t = { s with regs := t.regs, host := t.host }) ∧
  (∀ (s : State) (id : Nat) (c : MbConn), s.host.mb.find? (fun c => c.id == id) = some c →
    ∃ t, exec (.modbusIdleTimeout id) s = .next t ∧ t.clk.raw = s.rawAt (c.lastAt + 60 * nsPerS) ∧
      t.host.mb = s.host.mb.filter (fun x => x.id != id) ∧ t = { s with regs := t.regs, clk := t.clk, host := t.host } ∧
      s.keepsRegs t.toBlock [hostStat, timeRtc])

/-- What every command attribute refuses before its own check (R348, R350, R354, R75): a session that is not open 0x0507, a level too low
0x0508, a write in PARK 0x0301. The refusal is counted and answered, and nothing else happens. -/
def Obligations.HostCommandRefusals : Prop :=
  ∀ (s : State) (i n e v own : Nat) (p : Bool) (x : Table) (c : Instr) (a : Attr),
    (c, a, own) ∈ [(Instr.timeSet i v, timeSet, 0), (.refSelWrite i v, timeRefSel, 0), (.wdWrite i v, hostWd, 0), (.drill i v, pairCmd, 0),
      (.epochReset i, pairCmd, pairCmdCheck 3 0 s.counted), (.feTonesWrite i n v, feTones n, 0), (.feGroupRestart i e, fgRestart e, 0),
      (.tomoRestart i e, tmCmd e, 0),
      (.tomoSensWrite i e x, tmSens e, 0), (.axisClear i e p, axCmd e, 0), (.valveClear i e p, vlvCmd e, 0), (.bankClear i e p, bnkCmd e, 0),
      (.dioClear i e, dgCmd e, 0), (.encClear i e p, encCmd e, 0), (.ratioWrite i e v, emuRatio e, 0), (.thermClear i e, tzCmd e, 0),
      (.authErase i e, hostAuthCmd, authRowCheck i e (pack [(2, 0), (e, 8)]) s.counted)] →
    n < 48 → e < 3 → s.hostUp = true →
    ∃ t, exec c s = .next t ∧
      (s.sessOpen i = false → t.answers i 0x0507) ∧
      (s.sessOpen i = true → s.levelCheck (.sess i) a ≠ 0 → t.answers i (if own / 256 = 5 then own else 0x0508)) ∧
      (s.sessOpen i = true → s.levelCheck (.sess i) a = 0 → s.phase = .park → t.answers i (if own / 256 = 5 then own else 0x0301)) ∧
      ((s.sessOpen i = false ∨ s.levelCheck (.sess i) a ≠ 0 ∨ s.phase = .park) →
        t.fget hostCount 63 32 = satInc 32 (s.fget hostCount 63 32) ∧
        t = { s with regs := t.regs, host := t.host, evq := t.evq } ∧ s.keepsRegs t.toBlock [hostCount, evtLost])

/-- The registers, the tables and the key's flash keep their canonical forms: whatever command a step runs, equal contents stay equal
data (DESIGN CHOICE: the form is the model's; R362 and R42 give the contents). -/
def Obligations.CanonicalFormKept : Prop :=
  ∀ s t : State, regsWf s.regs = true → amapSorted s.tabs = true → Memory.wf s.toBlock = true → step s = .next t →
    regsWf t.regs = true ∧ amapSorted t.tabs = true ∧ Memory.wf t.toBlock = true
end

