-- ==== Sys2Proof/Laws/Maps.lean ====
section
/-! SUPPORT. Laws/Maps.lean: reading after writing, and the canonical forms of the object registers, the object tables and
the key's flash, which every operation over them keeps. -/

namespace Sys2Proof.Machine

theorem amapFind_erase_self {α : Type} (m : AMap α) (a : Attr) : amapFind (amapErase m a) a = none := by
  induction m with
  | nil => rfl
  | cons e r ih =>
    obtain ⟨k, v⟩ := e
    by_cases h : k = a <;> simp [amapErase, amapFind, h, ih]

theorem amapFind_erase_ne {α : Type} (m : AMap α) {a b : Attr} (h : a ≠ b) : amapFind (amapErase m a) b = amapFind m b := by
  induction m with
  | nil => rfl
  | cons e r ih =>
    obtain ⟨k, v⟩ := e
    by_cases hk : k = a
    · subst hk; simp [amapErase, amapFind, h, ih]
    · rw [amapErase, if_neg hk]
      by_cases hb : k = b <;> simp [amapFind, hb, ih]

theorem amapFind_insert_self {α : Type} (m : AMap α) (a : Attr) (x : α) : amapFind (amapInsert m a x) a = some x := by
  induction m with
  | nil => simp [amapInsert, amapFind]
  | cons e r ih =>
    obtain ⟨k, v⟩ := e
    by_cases hk : k = a
    · simp [amapInsert, amapFind, hk]
    · by_cases hl : attrLt a k = true <;> simp [amapInsert, amapFind, hk, hl, ih]

theorem amapFind_insert_ne {α : Type} (m : AMap α) {a b : Attr} (x : α) (h : a ≠ b) :
    amapFind (amapInsert m a x) b = amapFind m b := by
  induction m with
  | nil => simp [amapInsert, amapFind, h]
  | cons e r ih =>
    obtain ⟨k, v⟩ := e
    by_cases hk : k = a
    · subst hk; simp [amapInsert, amapFind, h, amapFind_erase_ne r h]
    · by_cases hl : attrLt a k = true
      · simp [amapInsert, amapFind, hk, hl, h, amapFind_erase_ne r h]
      · rw [amapInsert, if_neg hk, if_neg hl]
        by_cases hb : k = b <;> simp [amapFind, hb, ih]

/-- A register read after it is written gives the value written, cut to its width. -/
theorem regsGet_put_self (m : AMap Nat) (a : Attr) (v : Nat) : regsGet (regsPut m a v) a = v % 2 ^ widthOf a := by
  unfold regsGet regsPut
  split
  · next h => rw [amapFind_erase_self]; exact h.symm
  · rw [amapFind_insert_self]; rfl

/-- Writing a register leaves every other one. -/
theorem regsGet_put_ne (m : AMap Nat) {a b : Attr} (v : Nat) (h : a ≠ b) : regsGet (regsPut m a v) b = regsGet m b := by
  unfold regsGet regsPut
  split
  · rw [amapFind_erase_ne m h]
  · rw [amapFind_insert_ne m _ h]

theorem regsGet_put (m : AMap Nat) (a b : Attr) (v : Nat) :
    regsGet (regsPut m a v) b = if a = b then v % 2 ^ widthOf a else regsGet m b := by
  split
  · next h => subst h; exact regsGet_put_self m a v
  · next h => exact regsGet_put_ne m v h

theorem Block.get_put_self (s : Block) (a : Attr) (v : Nat) : (s.put a v).get a = v % 2 ^ widthOf a := regsGet_put_self _ _ _

theorem Block.get_put_ne (s : Block) {a b : Attr} (v : Nat) (h : a ≠ b) : (s.put a v).get b = s.get b := regsGet_put_ne _ _ h

theorem Block.tab_putTab_self (s : Block) (a : Attr) (t : Table) : (s.putTab a t).tab a = some t := amapFind_insert_self _ _ _

theorem Block.tab_putTab_ne (s : Block) {a b : Attr} (t : Table) (h : a ≠ b) : (s.putTab a t).tab b = s.tab b :=
  amapFind_insert_ne _ _ h

theorem Block.tab_dropTab_self (s : Block) (a : Attr) : (s.dropTab a).tab a = none := amapFind_erase_self _ _

/-- The order of attribute keys as one number comparison after another. -/
theorem attrLt_iff (a b : Attr) : attrLt a b = true ↔
    a.blk < b.blk ∨ (a.blk = b.blk ∧ (a.kind < b.kind ∨ (a.kind = b.kind ∧
      (a.idx < b.idx ∨ (a.idx = b.idx ∧ a.att < b.att))))) := by
  simp [attrLt]

theorem attrLt_trans {a b c : Attr} (h : attrLt a b = true) (k : attrLt b c = true) : attrLt a c = true := by
  rw [attrLt_iff] at *; omega

theorem attrLt_of_not {a b : Attr} (h : ¬ a = b) (k : ¬ attrLt b a = true) : attrLt a b = true := by
  rw [attrLt_iff] at *
  have : ¬ (a.blk = b.blk ∧ a.kind = b.kind ∧ a.idx = b.idx ∧ a.att = b.att) := by
    rintro ⟨h1, h2, h3, h4⟩; apply h; cases a; cases b; simp_all
  omega

/-- Every key of a map lies above a key. -/
def amapAbove {α : Type} (k : Attr) (m : AMap α) : Prop := ∀ e ∈ m, attrLt k e.1 = true

theorem amapSorted_cons {α : Type} (k : Attr) (v : α) (m : AMap α) :
    amapSorted ((k, v) :: m) = true ↔ amapAbove k m ∧ amapSorted m = true := by
  induction m generalizing k v with
  | nil => simp [amapSorted, amapAbove]
  | cons e r ih =>
    obtain ⟨k', v'⟩ := e
    rw [amapSorted]
    constructor
    · intro h
      have h1 := (Bool.and_eq_true _ _ ▸ h : attrLt k k' = true ∧ amapSorted ((k', v') :: r) = true)
      refine ⟨?_, h1.2⟩
      intro e he
      rcases List.mem_cons.mp he with rfl | he
      · exact h1.1
      · exact attrLt_trans h1.1 (((ih k' v').mp h1.2).1 e he)
    · rintro ⟨h1, h2⟩
      rw [Bool.and_eq_true]
      exact ⟨h1 (k', v') (List.mem_cons_self ..), h2⟩

theorem amapErase_mem {α : Type} {m : AMap α} {a : Attr} {e : Attr × α} (h : e ∈ amapErase m a) : e ∈ m ∧ e.1 ≠ a := by
  induction m with
  | nil => simp [amapErase] at h
  | cons x r ih =>
    obtain ⟨k, v⟩ := x
    by_cases hk : k = a
    · rw [amapErase, if_pos hk] at h
      exact ⟨List.mem_cons_of_mem _ (ih h).1, (ih h).2⟩
    · rw [amapErase, if_neg hk] at h
      rcases List.mem_cons.mp h with rfl | h
      · exact ⟨List.mem_cons_self .., hk⟩
      · exact ⟨List.mem_cons_of_mem _ (ih h).1, (ih h).2⟩

theorem amapErase_sorted {α : Type} (m : AMap α) (a : Attr) (h : amapSorted m = true) : amapSorted (amapErase m a) = true := by
  induction m with
  | nil => rfl
  | cons x r ih =>
    obtain ⟨k, v⟩ := x
    rw [amapSorted_cons] at h
    by_cases hk : k = a
    · rw [amapErase, if_pos hk]; exact ih h.2
    · rw [amapErase, if_neg hk, amapSorted_cons]
      exact ⟨fun e he => h.1 e (amapErase_mem he).1, ih h.2⟩

theorem amapInsert_mem {α : Type} {m : AMap α} {a : Attr} {x : α} {e : Attr × α} (h : e ∈ amapInsert m a x) :
    e = (a, x) ∨ (e ∈ m ∧ e.1 ≠ a) := by
  induction m with
  | nil => simpa [amapInsert] using h
  | cons y r ih =>
    obtain ⟨k, v⟩ := y
    by_cases hk : k = a
    · rw [amapInsert, if_pos hk] at h
      rcases List.mem_cons.mp h with rfl | h
      · exact .inl rfl
      · exact .inr ⟨List.mem_cons_of_mem _ (amapErase_mem h).1, (amapErase_mem h).2⟩
    · rw [amapInsert, if_neg hk] at h
      split at h
      · rcases List.mem_cons.mp h with rfl | h
        · exact .inl rfl
        · rcases List.mem_cons.mp h with rfl | h
          · exact .inr ⟨List.mem_cons_self .., hk⟩
          · exact .inr ⟨List.mem_cons_of_mem _ (amapErase_mem h).1, (amapErase_mem h).2⟩
      · rcases List.mem_cons.mp h with rfl | h
        · exact .inr ⟨List.mem_cons_self .., hk⟩
        · rcases ih h with h | h
          · exact .inl h
          · exact .inr ⟨List.mem_cons_of_mem _ h.1, h.2⟩

theorem amapInsert_sorted {α : Type} (m : AMap α) (a : Attr) (x : α) (h : amapSorted m = true) :
    amapSorted (amapInsert m a x) = true := by
  induction m with
  | nil => rfl
  | cons y r ih =>
    obtain ⟨k, v⟩ := y
    rw [amapSorted_cons] at h
    by_cases hk : k = a
    · subst hk
      rw [amapInsert, if_pos rfl, amapSorted_cons]
      exact ⟨fun e he => h.1 e (amapErase_mem he).1, amapErase_sorted r _ h.2⟩
    · rw [amapInsert, if_neg hk]
      split
      · next hl =>
        rw [amapSorted_cons, amapSorted_cons]
        refine ⟨?_, fun e he => h.1 e (amapErase_mem he).1, amapErase_sorted r _ h.2⟩
        intro e he
        rcases List.mem_cons.mp he with rfl | he
        · exact hl
        · exact attrLt_trans hl (h.1 e (amapErase_mem he).1)
      · next hl =>
        rw [amapSorted_cons]
        refine ⟨?_, ih h.2⟩
        intro e he
        rcases amapInsert_mem he with rfl | he
        · exact attrLt_of_not hk hl
        · exact h.1 e he.1

/-- Writing a register keeps the canonical form of the object registers. -/
theorem regsPut_wf (m : AMap Nat) (a : Attr) (v : Nat) (h : regsWf m = true) : regsWf (regsPut m a v) = true := by
  unfold regsWf at *
  rw [Bool.and_eq_true, List.all_eq_true] at *
  unfold regsPut
  split
  · exact ⟨amapErase_sorted m a h.1, fun e he => h.2 e (amapErase_mem he).1⟩
  · next hv =>
    refine ⟨amapInsert_sorted m a _ h.1, ?_⟩
    intro e he
    rcases amapInsert_mem he with rfl | he
    · simpa using hv
    · exact h.2 e he.1

/-- A machine's registers stay canonical through a write. -/
theorem Block.put_wf (s : Block) (a : Attr) (v : Nat) (h : regsWf s.regs = true) : regsWf (s.put a v).regs = true :=
  regsPut_wf _ _ _ h

/-- Every address of a flash lies above an address, and no byte listed is an erased one. -/
def flashAbove (k : Nat) (f : List (Nat × Byte)) : Prop := ∀ e ∈ f, k < e.1

theorem flashWf_cons (k : Nat) (b : Byte) (f : List (Nat × Byte)) :
    flashWf ((k, b) :: f) = true ↔ flashAbove k f ∧ b ≠ 0xFF ∧ flashWf f = true := by
  induction f generalizing k b with
  | nil => simp [flashWf, flashAbove]
  | cons e r ih =>
    obtain ⟨k', b'⟩ := e
    rw [flashWf, Bool.and_eq_true, Bool.and_eq_true]
    constructor
    · rintro ⟨⟨h1, h2⟩, h3⟩
      have h1' : k < k' := by simpa using h1
      refine ⟨?_, by simpa using h2, h3⟩
      intro e he
      rcases List.mem_cons.mp he with rfl | he
      · exact h1'
      · exact Nat.lt_trans h1' (((ih k' b').mp h3).1 e he)
    · rintro ⟨h1, h2, h3⟩
      exact ⟨⟨by simpa using h1 (k', b') (List.mem_cons_self ..), by simpa using h2⟩, h3⟩

theorem flashPut_mem {f : List (Nat × Byte)} {a : Nat} {b : Byte} {e : Nat × Byte} (h : e ∈ flashPut f a b) :
    e = (a, b) ∨ e ∈ f := by
  induction f with
  | nil =>
    unfold flashPut at h
    split at h <;> simp_all
  | cons x r ih =>
    obtain ⟨k, y⟩ := x
    unfold flashPut at h
    split at h
    · rcases List.mem_cons.mp h with rfl | h
      · exact .inr (List.mem_cons_self ..)
      · rcases ih h with h | h
        · exact .inl h
        · exact .inr (List.mem_cons_of_mem _ h)
    · split at h
      · split at h
        · exact .inr (List.mem_cons_of_mem _ h)
        · rcases List.mem_cons.mp h with rfl | h
          · exact .inl rfl
          · exact .inr (List.mem_cons_of_mem _ h)
      · split at h
        · exact .inr h
        · rcases List.mem_cons.mp h with rfl | h
          · exact .inl rfl
          · exact .inr h

/-- Setting one byte keeps the canonical form of the flash. -/
theorem flashPut_wf (f : List (Nat × Byte)) (a : Nat) (b : Byte) (h : flashWf f = true) : flashWf (flashPut f a b) = true := by
  induction f with
  | nil =>
    unfold flashPut
    split
    · rfl
    · simpa [flashWf] using ‹¬ b = 0xFF›
  | cons x r ih =>
    obtain ⟨k, y⟩ := x
    rw [flashWf_cons] at h
    unfold flashPut
    split
    · next hk =>
      rw [flashWf_cons]
      refine ⟨?_, h.2.1, ih h.2.2⟩
      intro e he
      rcases flashPut_mem he with rfl | he
      · exact hk
      · exact h.1 e he
    · split
      · next hk =>
        subst hk
        split
        · exact h.2.2
        · rw [flashWf_cons]; exact ⟨h.1, ‹_›, h.2.2⟩
      · split
        · rw [flashWf_cons]; exact h
        · next h1 h2 h3 =>
          rw [flashWf_cons, flashWf_cons]
          refine ⟨?_, h3, h⟩
          intro e he
          rcases List.mem_cons.mp he with rfl | he
          · show a < k; omega
          · have := h.1 e he; omega

/-- Programming keeps the canonical form of the flash. -/
theorem flashProg_wf (f : List (Nat × Byte)) (a : Nat) (l : List Byte) (h : flashWf f = true) : flashWf (flashProg f a l) = true := by
  induction l generalizing f a with
  | nil => simpa [flashProg] using h
  | cons b r ih => unfold flashProg; exact ih _ _ (flashPut_wf f a b h)

theorem flashFilter_wf (p : Nat × Byte → Bool) (f : List (Nat × Byte)) (h : flashWf f = true) : flashWf (f.filter p) = true := by
  induction f with
  | nil => rfl
  | cons x r ih =>
    obtain ⟨k, y⟩ := x
    rw [flashWf_cons] at h
    rw [List.filter_cons]
    split
    · rw [flashWf_cons]
      exact ⟨fun e he => h.1 e (List.mem_filter.mp he).1, h.2.1, ih h.2.2⟩
    · exact ih h.2.2

/-- Erasing keeps the canonical form of the flash. -/
theorem flashErase_wf (f : List (Nat × Byte)) (a n : Nat) (h : flashWf f = true) : flashWf (flashErase f a n) = true :=
  flashFilter_wf _ f h

/-- A key as the module takes it has its flash in canonical form. -/
theorem keyNorm_wf (k : KeyDev) : flashWf (keyNorm k).flash = true := by
  have : ∀ (l f : List (Nat × Byte)), flashWf f = true → flashWf (l.foldl (fun f e => flashPut f e.1 e.2) f) = true := by
    intro l
    induction l with
    | nil => intro f h; exact h
    | cons e r ih => intro f h; exact ih _ (flashPut_wf f _ _ h)
  exact this _ [] rfl

end Sys2Proof.Machine
end

