-- ==== Sys2Proof/Laws/State.lean ====
section
/-! SUPPORT. Laws/State.lean: what each named update of the block leaves of each field, so that no later proof unfolds a
record update; first, for the updates that branch, the fields each can change at all. -/

namespace Sys2Proof.Machine

/-- The fields `Block.rtcElapse` can change. -/
theorem Block.rtcElapse_shape (s : Block) (dt : Nat) :
    ∃ g c, s.rtcElapse dt = { s with regs := g, clk := c } := by
  unfold Block.rtcElapse
  by_cases h : s.get timeRtc = 0
  · exact ⟨s.regs, s.clk, if_pos h⟩
  · exact ⟨_, _, if_neg h⟩

/-- The fields `Block.elapse` can change. -/
theorem Block.elapse_shape (s : Block) (k : Nat) :
    ∃ g c, s.elapse k = { s with regs := g, clk := c } := by
  unfold Block.elapse
  obtain ⟨g, c, e⟩ := ({ s with clk := clkElapse s.clk k } : Block).rtcElapse_shape (4 * k)
  exact ⟨g, c, by rw [e]⟩

/-- The fields `Block.advanceTo` can change. -/
theorem Block.advanceTo_shape (s : Block) (t : Nat) :
    ∃ g c, s.advanceTo t = { s with regs := g, clk := c } := by
  unfold Block.advanceTo
  by_cases h : s.clk.raw < t
  · rw [if_pos h]; exact s.elapse_shape _
  · exact ⟨s.regs, s.clk, if_neg h⟩

/-- The fields `Block.advanceTb` can change. -/
theorem Block.advanceTb_shape (s : Block) (t : Nat) :
    ∃ g c, s.advanceTb t = { s with regs := g, clk := c } := by
  unfold Block.advanceTb
  by_cases h : s.clk.tb < t
  · rw [if_pos h]; exact s.elapse_shape _
  · exact ⟨s.regs, s.clk, if_neg h⟩

/-- The fields `Block.idle` can change. -/
theorem Block.idle_shape (s : Block) :
    ∃ g c, s.idle = { s with regs := g, clk := c } := by
  unfold Block.idle
  split <;> first | exact s.elapse_shape _ | exact s.rtcElapse_shape _

/-- The fields `Block.queueEv` can change. -/
theorem Block.queueEv_shape (s : Block) (r : EvRec) :
    ∃ g q, s.queueEv r = { s with regs := g, evq := q } := by
  unfold Block.queueEv
  by_cases h : s.evq.q.length < evDepth
  · exact ⟨s.regs, _, if_pos h⟩
  · exact ⟨_, _, if_neg h⟩

/-- The fields `Block.raiseAt` can change. -/
theorem Block.raiseAt_shape (s : Block) (ts src sev code : Nat) (o : Attr) (d : Nat) :
    ∃ g q, s.raiseAt ts src sev code o d = { s with regs := g, evq := q } := by
  exact s.queueEv_shape _

/-- The fields `Block.raise` can change. -/
theorem Block.raise_shape (s : Block) (src sev : Nat) (o : Attr) (d : Nat) :
    ∃ g q, s.raise src sev o d = { s with regs := g, evq := q } := by
  exact s.queueEv_shape _

/-- The fields `Block.raiseC` can change. -/
theorem Block.raiseC_shape (s : Block) (src sev code : Nat) (o : Attr) (d : Nat) :
    ∃ g q, s.raiseC src sev code o d = { s with regs := g, evq := q } := by
  exact s.queueEv_shape _

/-- The fields `Block.auditRefused` can change. -/
theorem Block.auditRefused_shape (s : Block) (o c h : Nat) :
    ∃ g q, s.auditRefused o c h = { s with regs := g, evq := q } := by
  unfold Block.auditRefused
  by_cases e : s.audit = 0
  · exact ⟨s.regs, s.evq, if_pos e⟩
  · rw [if_neg e]; exact s.queueEv_shape _

/-- The fields `Block.auditWrite` can change. -/
theorem Block.auditWrite_shape (s : Block) (o h : Nat) :
    ∃ g q, s.auditWrite o h = { s with regs := g, evq := q } := by
  unfold Block.auditWrite
  by_cases e : s.audit = 2
  · rw [if_pos e]; exact s.queueEv_shape _
  · exact ⟨s.regs, s.evq, if_neg e⟩

/-- What a message does to the host port: its numbering and its datagram, beside the message. -/
theorem HostDyn.wired_shape (x : HostDyn) (m : HostMsg) : ∃ t w, x.wired m = { x with tx := t, wire := w } := by
  unfold HostDyn.wired
  split
  · exact ⟨x.tx, x.wire, rfl⟩
  · exact ⟨_, _, rfl⟩

theorem Block.countUp_send_shape (s : Block) (a : Attr) (hi lo i c : Nat) (g : AMap Nat) (q : EvQueue) :
    { (s.countUp a hi lo).send (.cmdResp i c) with regs := g, evq := q }
      = { s with regs := g, evq := q, host := { s.host with out := .cmdResp i c :: s.host.out } } := rfl

/-- The fields `Block.refuseCmd` can change. -/
theorem Block.refuseCmd_shape (s : Block) (i : Nat) (a : Attr) (c : Nat) :
    ∃ g q p, s.refuseCmd i a c = { s with regs := g, evq := q, host := p } := by
  obtain ⟨g, q, e⟩ := ((s.countUp hostCount 63 32).send (.cmdResp i c)).auditRefused_shape (oidOf a) c (s.handleOf (.sess i))
  exact ⟨g, q, { s.host with out := .cmdResp i c :: s.host.out }, by unfold Block.refuseCmd; rw [e]; exact Block.countUp_send_shape ..⟩

/-- The fields `Block.acceptCmd` can change. -/
theorem Block.acceptCmd_shape (s : Block) (i : Nat) (a : Attr) :
    ∃ g q p, s.acceptCmd i a = { s with regs := g, evq := q, host := p } := by
  obtain ⟨g, q, e⟩ := (s.send (.cmdResp i 0)).auditWrite_shape (oidOf a) (s.handleOf (.sess i))
  exact ⟨g, q, { s.host with out := .cmdResp i 0 :: s.host.out }, by unfold Block.acceptCmd; rw [e]; rfl⟩

@[simp] theorem Block.put_tabs (s : Block) (a : Attr) (v : Nat) : (s.put a v).tabs = s.tabs := rfl
@[simp] theorem Block.put_phase (s : Block) (a : Attr) (v : Nat) : (s.put a v).phase = s.phase := rfl
@[simp] theorem Block.put_clk (s : Block) (a : Attr) (v : Nat) : (s.put a v).clk = s.clk := rfl
@[simp] theorem Block.put_time (s : Block) (a : Attr) (v : Nat) : (s.put a v).time = s.time := rfl
@[simp] theorem Block.put_supply (s : Block) (a : Attr) (v : Nat) : (s.put a v).supply = s.supply := rfl
@[simp] theorem Block.put_key (s : Block) (a : Attr) (v : Nat) : (s.put a v).key = s.key := rfl
@[simp] theorem Block.put_mram (s : Block) (a : Attr) (v : Nat) : (s.put a v).mram = s.mram := rfl
@[simp] theorem Block.put_img (s : Block) (a : Attr) (v : Nat) : (s.put a v).img = s.img := rfl
@[simp] theorem Block.put_stage (s : Block) (a : Attr) (v : Nat) : (s.put a v).stage = s.stage := rfl
@[simp] theorem Block.put_rst (s : Block) (a : Attr) (v : Nat) : (s.put a v).rst = s.rst := rfl
@[simp] theorem Block.put_mode (s : Block) (a : Attr) (v : Nat) : (s.put a v).mode = s.mode := rfl
@[simp] theorem Block.put_evq (s : Block) (a : Attr) (v : Nat) : (s.put a v).evq = s.evq := rfl
@[simp] theorem Block.put_ringq (s : Block) (a : Attr) (v : Nat) : (s.put a v).ringq = s.ringq := rfl
@[simp] theorem Block.put_firn (s : Block) (a : Attr) (v : Nat) : (s.put a v).firn = s.firn := rfl
@[simp] theorem Block.put_host (s : Block) (a : Attr) (v : Nat) : (s.put a v).host = s.host := rfl
@[simp] theorem Block.put_dio (s : Block) (a : Attr) (v : Nat) : (s.put a v).dio = s.dio := rfl
@[simp] theorem Block.put_valve (s : Block) (a : Attr) (v : Nat) : (s.put a v).valve = s.valve := rfl
@[simp] theorem Block.put_fe (s : Block) (a : Attr) (v : Nat) : (s.put a v).fe = s.fe := rfl
@[simp] theorem Block.put_enc (s : Block) (a : Attr) (v : Nat) : (s.put a v).enc = s.enc := rfl
@[simp] theorem Block.put_axis (s : Block) (a : Attr) (v : Nat) : (s.put a v).axis = s.axis := rfl
@[simp] theorem Block.put_remote (s : Block) (a : Attr) (v : Nat) : (s.put a v).remote = s.remote := rfl
@[simp] theorem Block.put_serac (s : Block) (a : Attr) (v : Nat) : (s.put a v).serac = s.serac := rfl
@[simp] theorem Block.put_echo (s : Block) (a : Attr) (v : Nat) : (s.put a v).echo = s.echo := rfl
@[simp] theorem Block.put_tomo (s : Block) (a : Attr) (v : Nat) : (s.put a v).tomo = s.tomo := rfl
@[simp] theorem Block.put_net (s : Block) (a : Attr) (v : Nat) : (s.put a v).net = s.net := rfl
@[simp] theorem Block.put_line (s : Block) (a : Attr) (v : Nat) : (s.put a v).line = s.line := rfl
@[simp] theorem Block.put_floe (s : Block) (a : Attr) (v : Nat) : (s.put a v).floe = s.floe := rfl
@[simp] theorem Block.put_pair (s : Block) (a : Attr) (v : Nat) : (s.put a v).pair = s.pair := rfl
@[simp] theorem Block.put_therm (s : Block) (a : Attr) (v : Nat) : (s.put a v).therm = s.therm := rfl
@[simp] theorem Block.put_late (s : Block) (a : Attr) (v : Nat) : (s.put a v).late = s.late := rfl
@[simp] theorem Block.put_vol (s : Block) (a : Attr) (v : Nat) : (s.put a v).vol = s.vol := rfl
@[simp] theorem Block.put_fresh (s : Block) (a : Attr) (v : Nat) : (s.put a v).fresh = s.fresh := rfl

@[simp] theorem Block.fput_tabs (s : Block) (a : Attr) (hi lo x : Nat) : (s.fput a hi lo x).tabs = s.tabs := rfl
@[simp] theorem Block.fput_phase (s : Block) (a : Attr) (hi lo x : Nat) : (s.fput a hi lo x).phase = s.phase := rfl
@[simp] theorem Block.fput_clk (s : Block) (a : Attr) (hi lo x : Nat) : (s.fput a hi lo x).clk = s.clk := rfl
@[simp] theorem Block.fput_time (s : Block) (a : Attr) (hi lo x : Nat) : (s.fput a hi lo x).time = s.time := rfl
@[simp] theorem Block.fput_supply (s : Block) (a : Attr) (hi lo x : Nat) : (s.fput a hi lo x).supply = s.supply := rfl
@[simp] theorem Block.fput_key (s : Block) (a : Attr) (hi lo x : Nat) : (s.fput a hi lo x).key = s.key := rfl
@[simp] theorem Block.fput_mram (s : Block) (a : Attr) (hi lo x : Nat) : (s.fput a hi lo x).mram = s.mram := rfl
@[simp] theorem Block.fput_img (s : Block) (a : Attr) (hi lo x : Nat) : (s.fput a hi lo x).img = s.img := rfl
@[simp] theorem Block.fput_stage (s : Block) (a : Attr) (hi lo x : Nat) : (s.fput a hi lo x).stage = s.stage := rfl
@[simp] theorem Block.fput_rst (s : Block) (a : Attr) (hi lo x : Nat) : (s.fput a hi lo x).rst = s.rst := rfl
@[simp] theorem Block.fput_mode (s : Block) (a : Attr) (hi lo x : Nat) : (s.fput a hi lo x).mode = s.mode := rfl
@[simp] theorem Block.fput_evq (s : Block) (a : Attr) (hi lo x : Nat) : (s.fput a hi lo x).evq = s.evq := rfl
@[simp] theorem Block.fput_ringq (s : Block) (a : Attr) (hi lo x : Nat) : (s.fput a hi lo x).ringq = s.ringq := rfl
@[simp] theorem Block.fput_firn (s : Block) (a : Attr) (hi lo x : Nat) : (s.fput a hi lo x).firn = s.firn := rfl
@[simp] theorem Block.fput_host (s : Block) (a : Attr) (hi lo x : Nat) : (s.fput a hi lo x).host = s.host := rfl
@[simp] theorem Block.fput_dio (s : Block) (a : Attr) (hi lo x : Nat) : (s.fput a hi lo x).dio = s.dio := rfl
@[simp] theorem Block.fput_valve (s : Block) (a : Attr) (hi lo x : Nat) : (s.fput a hi lo x).valve = s.valve := rfl
@[simp] theorem Block.fput_fe (s : Block) (a : Attr) (hi lo x : Nat) : (s.fput a hi lo x).fe = s.fe := rfl
@[simp] theorem Block.fput_enc (s : Block) (a : Attr) (hi lo x : Nat) : (s.fput a hi lo x).enc = s.enc := rfl
@[simp] theorem Block.fput_axis (s : Block) (a : Attr) (hi lo x : Nat) : (s.fput a hi lo x).axis = s.axis := rfl
@[simp] theorem Block.fput_remote (s : Block) (a : Attr) (hi lo x : Nat) : (s.fput a hi lo x).remote = s.remote := rfl
@[simp] theorem Block.fput_serac (s : Block) (a : Attr) (hi lo x : Nat) : (s.fput a hi lo x).serac = s.serac := rfl
@[simp] theorem Block.fput_echo (s : Block) (a : Attr) (hi lo x : Nat) : (s.fput a hi lo x).echo = s.echo := rfl
@[simp] theorem Block.fput_tomo (s : Block) (a : Attr) (hi lo x : Nat) : (s.fput a hi lo x).tomo = s.tomo := rfl
@[simp] theorem Block.fput_net (s : Block) (a : Attr) (hi lo x : Nat) : (s.fput a hi lo x).net = s.net := rfl
@[simp] theorem Block.fput_line (s : Block) (a : Attr) (hi lo x : Nat) : (s.fput a hi lo x).line = s.line := rfl
@[simp] theorem Block.fput_floe (s : Block) (a : Attr) (hi lo x : Nat) : (s.fput a hi lo x).floe = s.floe := rfl
@[simp] theorem Block.fput_pair (s : Block) (a : Attr) (hi lo x : Nat) : (s.fput a hi lo x).pair = s.pair := rfl
@[simp] theorem Block.fput_therm (s : Block) (a : Attr) (hi lo x : Nat) : (s.fput a hi lo x).therm = s.therm := rfl
@[simp] theorem Block.fput_late (s : Block) (a : Attr) (hi lo x : Nat) : (s.fput a hi lo x).late = s.late := rfl
@[simp] theorem Block.fput_vol (s : Block) (a : Attr) (hi lo x : Nat) : (s.fput a hi lo x).vol = s.vol := rfl
@[simp] theorem Block.fput_fresh (s : Block) (a : Attr) (hi lo x : Nat) : (s.fput a hi lo x).fresh = s.fresh := rfl

@[simp] theorem Block.putBit_tabs (s : Block) (a : Attr) (k : Nat) (b : Bool) : (s.putBit a k b).tabs = s.tabs := rfl
@[simp] theorem Block.putBit_phase (s : Block) (a : Attr) (k : Nat) (b : Bool) : (s.putBit a k b).phase = s.phase := rfl
@[simp] theorem Block.putBit_clk (s : Block) (a : Attr) (k : Nat) (b : Bool) : (s.putBit a k b).clk = s.clk := rfl
@[simp] theorem Block.putBit_time (s : Block) (a : Attr) (k : Nat) (b : Bool) : (s.putBit a k b).time = s.time := rfl
@[simp] theorem Block.putBit_supply (s : Block) (a : Attr) (k : Nat) (b : Bool) : (s.putBit a k b).supply = s.supply := rfl
@[simp] theorem Block.putBit_key (s : Block) (a : Attr) (k : Nat) (b : Bool) : (s.putBit a k b).key = s.key := rfl
@[simp] theorem Block.putBit_mram (s : Block) (a : Attr) (k : Nat) (b : Bool) : (s.putBit a k b).mram = s.mram := rfl
@[simp] theorem Block.putBit_img (s : Block) (a : Attr) (k : Nat) (b : Bool) : (s.putBit a k b).img = s.img := rfl
@[simp] theorem Block.putBit_stage (s : Block) (a : Attr) (k : Nat) (b : Bool) : (s.putBit a k b).stage = s.stage := rfl
@[simp] theorem Block.putBit_rst (s : Block) (a : Attr) (k : Nat) (b : Bool) : (s.putBit a k b).rst = s.rst := rfl
@[simp] theorem Block.putBit_mode (s : Block) (a : Attr) (k : Nat) (b : Bool) : (s.putBit a k b).mode = s.mode := rfl
@[simp] theorem Block.putBit_evq (s : Block) (a : Attr) (k : Nat) (b : Bool) : (s.putBit a k b).evq = s.evq := rfl
@[simp] theorem Block.putBit_ringq (s : Block) (a : Attr) (k : Nat) (b : Bool) : (s.putBit a k b).ringq = s.ringq := rfl
@[simp] theorem Block.putBit_firn (s : Block) (a : Attr) (k : Nat) (b : Bool) : (s.putBit a k b).firn = s.firn := rfl
@[simp] theorem Block.putBit_host (s : Block) (a : Attr) (k : Nat) (b : Bool) : (s.putBit a k b).host = s.host := rfl
@[simp] theorem Block.putBit_dio (s : Block) (a : Attr) (k : Nat) (b : Bool) : (s.putBit a k b).dio = s.dio := rfl
@[simp] theorem Block.putBit_valve (s : Block) (a : Attr) (k : Nat) (b : Bool) : (s.putBit a k b).valve = s.valve := rfl
@[simp] theorem Block.putBit_fe (s : Block) (a : Attr) (k : Nat) (b : Bool) : (s.putBit a k b).fe = s.fe := rfl
@[simp] theorem Block.putBit_enc (s : Block) (a : Attr) (k : Nat) (b : Bool) : (s.putBit a k b).enc = s.enc := rfl
@[simp] theorem Block.putBit_axis (s : Block) (a : Attr) (k : Nat) (b : Bool) : (s.putBit a k b).axis = s.axis := rfl
@[simp] theorem Block.putBit_remote (s : Block) (a : Attr) (k : Nat) (b : Bool) : (s.putBit a k b).remote = s.remote := rfl
@[simp] theorem Block.putBit_serac (s : Block) (a : Attr) (k : Nat) (b : Bool) : (s.putBit a k b).serac = s.serac := rfl
@[simp] theorem Block.putBit_echo (s : Block) (a : Attr) (k : Nat) (b : Bool) : (s.putBit a k b).echo = s.echo := rfl
@[simp] theorem Block.putBit_tomo (s : Block) (a : Attr) (k : Nat) (b : Bool) : (s.putBit a k b).tomo = s.tomo := rfl
@[simp] theorem Block.putBit_net (s : Block) (a : Attr) (k : Nat) (b : Bool) : (s.putBit a k b).net = s.net := rfl
@[simp] theorem Block.putBit_line (s : Block) (a : Attr) (k : Nat) (b : Bool) : (s.putBit a k b).line = s.line := rfl
@[simp] theorem Block.putBit_floe (s : Block) (a : Attr) (k : Nat) (b : Bool) : (s.putBit a k b).floe = s.floe := rfl
@[simp] theorem Block.putBit_pair (s : Block) (a : Attr) (k : Nat) (b : Bool) : (s.putBit a k b).pair = s.pair := rfl
@[simp] theorem Block.putBit_therm (s : Block) (a : Attr) (k : Nat) (b : Bool) : (s.putBit a k b).therm = s.therm := rfl
@[simp] theorem Block.putBit_late (s : Block) (a : Attr) (k : Nat) (b : Bool) : (s.putBit a k b).late = s.late := rfl
@[simp] theorem Block.putBit_vol (s : Block) (a : Attr) (k : Nat) (b : Bool) : (s.putBit a k b).vol = s.vol := rfl
@[simp] theorem Block.putBit_fresh (s : Block) (a : Attr) (k : Nat) (b : Bool) : (s.putBit a k b).fresh = s.fresh := rfl

@[simp] theorem Block.countUp_tabs (s : Block) (a : Attr) (hi lo : Nat) : (s.countUp a hi lo).tabs = s.tabs := rfl
@[simp] theorem Block.countUp_phase (s : Block) (a : Attr) (hi lo : Nat) : (s.countUp a hi lo).phase = s.phase := rfl
@[simp] theorem Block.countUp_clk (s : Block) (a : Attr) (hi lo : Nat) : (s.countUp a hi lo).clk = s.clk := rfl
@[simp] theorem Block.countUp_time (s : Block) (a : Attr) (hi lo : Nat) : (s.countUp a hi lo).time = s.time := rfl
@[simp] theorem Block.countUp_supply (s : Block) (a : Attr) (hi lo : Nat) : (s.countUp a hi lo).supply = s.supply := rfl
@[simp] theorem Block.countUp_key (s : Block) (a : Attr) (hi lo : Nat) : (s.countUp a hi lo).key = s.key := rfl
@[simp] theorem Block.countUp_mram (s : Block) (a : Attr) (hi lo : Nat) : (s.countUp a hi lo).mram = s.mram := rfl
@[simp] theorem Block.countUp_img (s : Block) (a : Attr) (hi lo : Nat) : (s.countUp a hi lo).img = s.img := rfl
@[simp] theorem Block.countUp_stage (s : Block) (a : Attr) (hi lo : Nat) : (s.countUp a hi lo).stage = s.stage := rfl
@[simp] theorem Block.countUp_rst (s : Block) (a : Attr) (hi lo : Nat) : (s.countUp a hi lo).rst = s.rst := rfl
@[simp] theorem Block.countUp_mode (s : Block) (a : Attr) (hi lo : Nat) : (s.countUp a hi lo).mode = s.mode := rfl
@[simp] theorem Block.countUp_evq (s : Block) (a : Attr) (hi lo : Nat) : (s.countUp a hi lo).evq = s.evq := rfl
@[simp] theorem Block.countUp_ringq (s : Block) (a : Attr) (hi lo : Nat) : (s.countUp a hi lo).ringq = s.ringq := rfl
@[simp] theorem Block.countUp_firn (s : Block) (a : Attr) (hi lo : Nat) : (s.countUp a hi lo).firn = s.firn := rfl
@[simp] theorem Block.countUp_host (s : Block) (a : Attr) (hi lo : Nat) : (s.countUp a hi lo).host = s.host := rfl
@[simp] theorem Block.countUp_dio (s : Block) (a : Attr) (hi lo : Nat) : (s.countUp a hi lo).dio = s.dio := rfl
@[simp] theorem Block.countUp_valve (s : Block) (a : Attr) (hi lo : Nat) : (s.countUp a hi lo).valve = s.valve := rfl
@[simp] theorem Block.countUp_fe (s : Block) (a : Attr) (hi lo : Nat) : (s.countUp a hi lo).fe = s.fe := rfl
@[simp] theorem Block.countUp_enc (s : Block) (a : Attr) (hi lo : Nat) : (s.countUp a hi lo).enc = s.enc := rfl
@[simp] theorem Block.countUp_axis (s : Block) (a : Attr) (hi lo : Nat) : (s.countUp a hi lo).axis = s.axis := rfl
@[simp] theorem Block.countUp_remote (s : Block) (a : Attr) (hi lo : Nat) : (s.countUp a hi lo).remote = s.remote := rfl
@[simp] theorem Block.countUp_serac (s : Block) (a : Attr) (hi lo : Nat) : (s.countUp a hi lo).serac = s.serac := rfl
@[simp] theorem Block.countUp_echo (s : Block) (a : Attr) (hi lo : Nat) : (s.countUp a hi lo).echo = s.echo := rfl
@[simp] theorem Block.countUp_tomo (s : Block) (a : Attr) (hi lo : Nat) : (s.countUp a hi lo).tomo = s.tomo := rfl
@[simp] theorem Block.countUp_net (s : Block) (a : Attr) (hi lo : Nat) : (s.countUp a hi lo).net = s.net := rfl
@[simp] theorem Block.countUp_line (s : Block) (a : Attr) (hi lo : Nat) : (s.countUp a hi lo).line = s.line := rfl
@[simp] theorem Block.countUp_floe (s : Block) (a : Attr) (hi lo : Nat) : (s.countUp a hi lo).floe = s.floe := rfl
@[simp] theorem Block.countUp_pair (s : Block) (a : Attr) (hi lo : Nat) : (s.countUp a hi lo).pair = s.pair := rfl
@[simp] theorem Block.countUp_therm (s : Block) (a : Attr) (hi lo : Nat) : (s.countUp a hi lo).therm = s.therm := rfl
@[simp] theorem Block.countUp_late (s : Block) (a : Attr) (hi lo : Nat) : (s.countUp a hi lo).late = s.late := rfl
@[simp] theorem Block.countUp_vol (s : Block) (a : Attr) (hi lo : Nat) : (s.countUp a hi lo).vol = s.vol := rfl
@[simp] theorem Block.countUp_fresh (s : Block) (a : Attr) (hi lo : Nat) : (s.countUp a hi lo).fresh = s.fresh := rfl

@[simp] theorem Block.putTab_regs (s : Block) (a : Attr) (t : Table) : (s.putTab a t).regs = s.regs := rfl
@[simp] theorem Block.putTab_phase (s : Block) (a : Attr) (t : Table) : (s.putTab a t).phase = s.phase := rfl
@[simp] theorem Block.putTab_clk (s : Block) (a : Attr) (t : Table) : (s.putTab a t).clk = s.clk := rfl
@[simp] theorem Block.putTab_time (s : Block) (a : Attr) (t : Table) : (s.putTab a t).time = s.time := rfl
@[simp] theorem Block.putTab_supply (s : Block) (a : Attr) (t : Table) : (s.putTab a t).supply = s.supply := rfl
@[simp] theorem Block.putTab_key (s : Block) (a : Attr) (t : Table) : (s.putTab a t).key = s.key := rfl
@[simp] theorem Block.putTab_mram (s : Block) (a : Attr) (t : Table) : (s.putTab a t).mram = s.mram := rfl
@[simp] theorem Block.putTab_img (s : Block) (a : Attr) (t : Table) : (s.putTab a t).img = s.img := rfl
@[simp] theorem Block.putTab_stage (s : Block) (a : Attr) (t : Table) : (s.putTab a t).stage = s.stage := rfl
@[simp] theorem Block.putTab_rst (s : Block) (a : Attr) (t : Table) : (s.putTab a t).rst = s.rst := rfl
@[simp] theorem Block.putTab_mode (s : Block) (a : Attr) (t : Table) : (s.putTab a t).mode = s.mode := rfl
@[simp] theorem Block.putTab_evq (s : Block) (a : Attr) (t : Table) : (s.putTab a t).evq = s.evq := rfl
@[simp] theorem Block.putTab_ringq (s : Block) (a : Attr) (t : Table) : (s.putTab a t).ringq = s.ringq := rfl
@[simp] theorem Block.putTab_firn (s : Block) (a : Attr) (t : Table) : (s.putTab a t).firn = s.firn := rfl
@[simp] theorem Block.putTab_host (s : Block) (a : Attr) (t : Table) : (s.putTab a t).host = s.host := rfl
@[simp] theorem Block.putTab_dio (s : Block) (a : Attr) (t : Table) : (s.putTab a t).dio = s.dio := rfl
@[simp] theorem Block.putTab_valve (s : Block) (a : Attr) (t : Table) : (s.putTab a t).valve = s.valve := rfl
@[simp] theorem Block.putTab_fe (s : Block) (a : Attr) (t : Table) : (s.putTab a t).fe = s.fe := rfl
@[simp] theorem Block.putTab_enc (s : Block) (a : Attr) (t : Table) : (s.putTab a t).enc = s.enc := rfl
@[simp] theorem Block.putTab_axis (s : Block) (a : Attr) (t : Table) : (s.putTab a t).axis = s.axis := rfl
@[simp] theorem Block.putTab_remote (s : Block) (a : Attr) (t : Table) : (s.putTab a t).remote = s.remote := rfl
@[simp] theorem Block.putTab_serac (s : Block) (a : Attr) (t : Table) : (s.putTab a t).serac = s.serac := rfl
@[simp] theorem Block.putTab_echo (s : Block) (a : Attr) (t : Table) : (s.putTab a t).echo = s.echo := rfl
@[simp] theorem Block.putTab_tomo (s : Block) (a : Attr) (t : Table) : (s.putTab a t).tomo = s.tomo := rfl
@[simp] theorem Block.putTab_net (s : Block) (a : Attr) (t : Table) : (s.putTab a t).net = s.net := rfl
@[simp] theorem Block.putTab_line (s : Block) (a : Attr) (t : Table) : (s.putTab a t).line = s.line := rfl
@[simp] theorem Block.putTab_floe (s : Block) (a : Attr) (t : Table) : (s.putTab a t).floe = s.floe := rfl
@[simp] theorem Block.putTab_pair (s : Block) (a : Attr) (t : Table) : (s.putTab a t).pair = s.pair := rfl
@[simp] theorem Block.putTab_therm (s : Block) (a : Attr) (t : Table) : (s.putTab a t).therm = s.therm := rfl
@[simp] theorem Block.putTab_late (s : Block) (a : Attr) (t : Table) : (s.putTab a t).late = s.late := rfl
@[simp] theorem Block.putTab_vol (s : Block) (a : Attr) (t : Table) : (s.putTab a t).vol = s.vol := rfl
@[simp] theorem Block.putTab_fresh (s : Block) (a : Attr) (t : Table) : (s.putTab a t).fresh = s.fresh := rfl

@[simp] theorem Block.dropTab_regs (s : Block) (a : Attr) : (s.dropTab a).regs = s.regs := rfl
@[simp] theorem Block.dropTab_phase (s : Block) (a : Attr) : (s.dropTab a).phase = s.phase := rfl
@[simp] theorem Block.dropTab_clk (s : Block) (a : Attr) : (s.dropTab a).clk = s.clk := rfl
@[simp] theorem Block.dropTab_time (s : Block) (a : Attr) : (s.dropTab a).time = s.time := rfl
@[simp] theorem Block.dropTab_supply (s : Block) (a : Attr) : (s.dropTab a).supply = s.supply := rfl
@[simp] theorem Block.dropTab_key (s : Block) (a : Attr) : (s.dropTab a).key = s.key := rfl
@[simp] theorem Block.dropTab_mram (s : Block) (a : Attr) : (s.dropTab a).mram = s.mram := rfl
@[simp] theorem Block.dropTab_img (s : Block) (a : Attr) : (s.dropTab a).img = s.img := rfl
@[simp] theorem Block.dropTab_stage (s : Block) (a : Attr) : (s.dropTab a).stage = s.stage := rfl
@[simp] theorem Block.dropTab_rst (s : Block) (a : Attr) : (s.dropTab a).rst = s.rst := rfl
@[simp] theorem Block.dropTab_mode (s : Block) (a : Attr) : (s.dropTab a).mode = s.mode := rfl
@[simp] theorem Block.dropTab_evq (s : Block) (a : Attr) : (s.dropTab a).evq = s.evq := rfl
@[simp] theorem Block.dropTab_ringq (s : Block) (a : Attr) : (s.dropTab a).ringq = s.ringq := rfl
@[simp] theorem Block.dropTab_firn (s : Block) (a : Attr) : (s.dropTab a).firn = s.firn := rfl
@[simp] theorem Block.dropTab_host (s : Block) (a : Attr) : (s.dropTab a).host = s.host := rfl
@[simp] theorem Block.dropTab_dio (s : Block) (a : Attr) : (s.dropTab a).dio = s.dio := rfl
@[simp] theorem Block.dropTab_valve (s : Block) (a : Attr) : (s.dropTab a).valve = s.valve := rfl
@[simp] theorem Block.dropTab_fe (s : Block) (a : Attr) : (s.dropTab a).fe = s.fe := rfl
@[simp] theorem Block.dropTab_enc (s : Block) (a : Attr) : (s.dropTab a).enc = s.enc := rfl
@[simp] theorem Block.dropTab_axis (s : Block) (a : Attr) : (s.dropTab a).axis = s.axis := rfl
@[simp] theorem Block.dropTab_remote (s : Block) (a : Attr) : (s.dropTab a).remote = s.remote := rfl
@[simp] theorem Block.dropTab_serac (s : Block) (a : Attr) : (s.dropTab a).serac = s.serac := rfl
@[simp] theorem Block.dropTab_echo (s : Block) (a : Attr) : (s.dropTab a).echo = s.echo := rfl
@[simp] theorem Block.dropTab_tomo (s : Block) (a : Attr) : (s.dropTab a).tomo = s.tomo := rfl
@[simp] theorem Block.dropTab_net (s : Block) (a : Attr) : (s.dropTab a).net = s.net := rfl
@[simp] theorem Block.dropTab_line (s : Block) (a : Attr) : (s.dropTab a).line = s.line := rfl
@[simp] theorem Block.dropTab_floe (s : Block) (a : Attr) : (s.dropTab a).floe = s.floe := rfl
@[simp] theorem Block.dropTab_pair (s : Block) (a : Attr) : (s.dropTab a).pair = s.pair := rfl
@[simp] theorem Block.dropTab_therm (s : Block) (a : Attr) : (s.dropTab a).therm = s.therm := rfl
@[simp] theorem Block.dropTab_late (s : Block) (a : Attr) : (s.dropTab a).late = s.late := rfl
@[simp] theorem Block.dropTab_vol (s : Block) (a : Attr) : (s.dropTab a).vol = s.vol := rfl
@[simp] theorem Block.dropTab_fresh (s : Block) (a : Attr) : (s.dropTab a).fresh = s.fresh := rfl

@[simp] theorem Block.rtcElapse_tabs (s : Block) (dt : Nat) : (s.rtcElapse dt).tabs = s.tabs := by obtain ⟨g, c, h⟩ := s.rtcElapse_shape dt; rw [h]
@[simp] theorem Block.rtcElapse_phase (s : Block) (dt : Nat) : (s.rtcElapse dt).phase = s.phase := by obtain ⟨g, c, h⟩ := s.rtcElapse_shape dt; rw [h]
@[simp] theorem Block.rtcElapse_time (s : Block) (dt : Nat) : (s.rtcElapse dt).time = s.time := by obtain ⟨g, c, h⟩ := s.rtcElapse_shape dt; rw [h]
@[simp] theorem Block.rtcElapse_supply (s : Block) (dt : Nat) : (s.rtcElapse dt).supply = s.supply := by obtain ⟨g, c, h⟩ := s.rtcElapse_shape dt; rw [h]
@[simp] theorem Block.rtcElapse_key (s : Block) (dt : Nat) : (s.rtcElapse dt).key = s.key := by obtain ⟨g, c, h⟩ := s.rtcElapse_shape dt; rw [h]
@[simp] theorem Block.rtcElapse_mram (s : Block) (dt : Nat) : (s.rtcElapse dt).mram = s.mram := by obtain ⟨g, c, h⟩ := s.rtcElapse_shape dt; rw [h]
@[simp] theorem Block.rtcElapse_img (s : Block) (dt : Nat) : (s.rtcElapse dt).img = s.img := by obtain ⟨g, c, h⟩ := s.rtcElapse_shape dt; rw [h]
@[simp] theorem Block.rtcElapse_stage (s : Block) (dt : Nat) : (s.rtcElapse dt).stage = s.stage := by obtain ⟨g, c, h⟩ := s.rtcElapse_shape dt; rw [h]
@[simp] theorem Block.rtcElapse_rst (s : Block) (dt : Nat) : (s.rtcElapse dt).rst = s.rst := by obtain ⟨g, c, h⟩ := s.rtcElapse_shape dt; rw [h]
@[simp] theorem Block.rtcElapse_mode (s : Block) (dt : Nat) : (s.rtcElapse dt).mode = s.mode := by obtain ⟨g, c, h⟩ := s.rtcElapse_shape dt; rw [h]
@[simp] theorem Block.rtcElapse_evq (s : Block) (dt : Nat) : (s.rtcElapse dt).evq = s.evq := by obtain ⟨g, c, h⟩ := s.rtcElapse_shape dt; rw [h]
@[simp] theorem Block.rtcElapse_ringq (s : Block) (dt : Nat) : (s.rtcElapse dt).ringq = s.ringq := by obtain ⟨g, c, h⟩ := s.rtcElapse_shape dt; rw [h]
@[simp] theorem Block.rtcElapse_firn (s : Block) (dt : Nat) : (s.rtcElapse dt).firn = s.firn := by obtain ⟨g, c, h⟩ := s.rtcElapse_shape dt; rw [h]
@[simp] theorem Block.rtcElapse_host (s : Block) (dt : Nat) : (s.rtcElapse dt).host = s.host := by obtain ⟨g, c, h⟩ := s.rtcElapse_shape dt; rw [h]
@[simp] theorem Block.rtcElapse_dio (s : Block) (dt : Nat) : (s.rtcElapse dt).dio = s.dio := by obtain ⟨g, c, h⟩ := s.rtcElapse_shape dt; rw [h]
@[simp] theorem Block.rtcElapse_valve (s : Block) (dt : Nat) : (s.rtcElapse dt).valve = s.valve := by obtain ⟨g, c, h⟩ := s.rtcElapse_shape dt; rw [h]
@[simp] theorem Block.rtcElapse_fe (s : Block) (dt : Nat) : (s.rtcElapse dt).fe = s.fe := by obtain ⟨g, c, h⟩ := s.rtcElapse_shape dt; rw [h]
@[simp] theorem Block.rtcElapse_enc (s : Block) (dt : Nat) : (s.rtcElapse dt).enc = s.enc := by obtain ⟨g, c, h⟩ := s.rtcElapse_shape dt; rw [h]
@[simp] theorem Block.rtcElapse_axis (s : Block) (dt : Nat) : (s.rtcElapse dt).axis = s.axis := by obtain ⟨g, c, h⟩ := s.rtcElapse_shape dt; rw [h]
@[simp] theorem Block.rtcElapse_remote (s : Block) (dt : Nat) : (s.rtcElapse dt).remote = s.remote := by obtain ⟨g, c, h⟩ := s.rtcElapse_shape dt; rw [h]
@[simp] theorem Block.rtcElapse_serac (s : Block) (dt : Nat) : (s.rtcElapse dt).serac = s.serac := by obtain ⟨g, c, h⟩ := s.rtcElapse_shape dt; rw [h]
@[simp] theorem Block.rtcElapse_echo (s : Block) (dt : Nat) : (s.rtcElapse dt).echo = s.echo := by obtain ⟨g, c, h⟩ := s.rtcElapse_shape dt; rw [h]
@[simp] theorem Block.rtcElapse_tomo (s : Block) (dt : Nat) : (s.rtcElapse dt).tomo = s.tomo := by obtain ⟨g, c, h⟩ := s.rtcElapse_shape dt; rw [h]
@[simp] theorem Block.rtcElapse_net (s : Block) (dt : Nat) : (s.rtcElapse dt).net = s.net := by obtain ⟨g, c, h⟩ := s.rtcElapse_shape dt; rw [h]
@[simp] theorem Block.rtcElapse_line (s : Block) (dt : Nat) : (s.rtcElapse dt).line = s.line := by obtain ⟨g, c, h⟩ := s.rtcElapse_shape dt; rw [h]
@[simp] theorem Block.rtcElapse_floe (s : Block) (dt : Nat) : (s.rtcElapse dt).floe = s.floe := by obtain ⟨g, c, h⟩ := s.rtcElapse_shape dt; rw [h]
@[simp] theorem Block.rtcElapse_pair (s : Block) (dt : Nat) : (s.rtcElapse dt).pair = s.pair := by obtain ⟨g, c, h⟩ := s.rtcElapse_shape dt; rw [h]
@[simp] theorem Block.rtcElapse_therm (s : Block) (dt : Nat) : (s.rtcElapse dt).therm = s.therm := by obtain ⟨g, c, h⟩ := s.rtcElapse_shape dt; rw [h]
@[simp] theorem Block.rtcElapse_late (s : Block) (dt : Nat) : (s.rtcElapse dt).late = s.late := by obtain ⟨g, c, h⟩ := s.rtcElapse_shape dt; rw [h]
@[simp] theorem Block.rtcElapse_vol (s : Block) (dt : Nat) : (s.rtcElapse dt).vol = s.vol := by obtain ⟨g, c, h⟩ := s.rtcElapse_shape dt; rw [h]
@[simp] theorem Block.rtcElapse_fresh (s : Block) (dt : Nat) : (s.rtcElapse dt).fresh = s.fresh := by obtain ⟨g, c, h⟩ := s.rtcElapse_shape dt; rw [h]

@[simp] theorem Block.elapse_tabs (s : Block) (k : Nat) : (s.elapse k).tabs = s.tabs := by obtain ⟨g, c, h⟩ := s.elapse_shape k; rw [h]
@[simp] theorem Block.elapse_phase (s : Block) (k : Nat) : (s.elapse k).phase = s.phase := by obtain ⟨g, c, h⟩ := s.elapse_shape k; rw [h]
@[simp] theorem Block.elapse_time (s : Block) (k : Nat) : (s.elapse k).time = s.time := by obtain ⟨g, c, h⟩ := s.elapse_shape k; rw [h]
@[simp] theorem Block.elapse_supply (s : Block) (k : Nat) : (s.elapse k).supply = s.supply := by obtain ⟨g, c, h⟩ := s.elapse_shape k; rw [h]
@[simp] theorem Block.elapse_key (s : Block) (k : Nat) : (s.elapse k).key = s.key := by obtain ⟨g, c, h⟩ := s.elapse_shape k; rw [h]
@[simp] theorem Block.elapse_mram (s : Block) (k : Nat) : (s.elapse k).mram = s.mram := by obtain ⟨g, c, h⟩ := s.elapse_shape k; rw [h]
@[simp] theorem Block.elapse_img (s : Block) (k : Nat) : (s.elapse k).img = s.img := by obtain ⟨g, c, h⟩ := s.elapse_shape k; rw [h]
@[simp] theorem Block.elapse_stage (s : Block) (k : Nat) : (s.elapse k).stage = s.stage := by obtain ⟨g, c, h⟩ := s.elapse_shape k; rw [h]
@[simp] theorem Block.elapse_rst (s : Block) (k : Nat) : (s.elapse k).rst = s.rst := by obtain ⟨g, c, h⟩ := s.elapse_shape k; rw [h]
@[simp] theorem Block.elapse_mode (s : Block) (k : Nat) : (s.elapse k).mode = s.mode := by obtain ⟨g, c, h⟩ := s.elapse_shape k; rw [h]
@[simp] theorem Block.elapse_evq (s : Block) (k : Nat) : (s.elapse k).evq = s.evq := by obtain ⟨g, c, h⟩ := s.elapse_shape k; rw [h]
@[simp] theorem Block.elapse_ringq (s : Block) (k : Nat) : (s.elapse k).ringq = s.ringq := by obtain ⟨g, c, h⟩ := s.elapse_shape k; rw [h]
@[simp] theorem Block.elapse_firn (s : Block) (k : Nat) : (s.elapse k).firn = s.firn := by obtain ⟨g, c, h⟩ := s.elapse_shape k; rw [h]
@[simp] theorem Block.elapse_host (s : Block) (k : Nat) : (s.elapse k).host = s.host := by obtain ⟨g, c, h⟩ := s.elapse_shape k; rw [h]
@[simp] theorem Block.elapse_dio (s : Block) (k : Nat) : (s.elapse k).dio = s.dio := by obtain ⟨g, c, h⟩ := s.elapse_shape k; rw [h]
@[simp] theorem Block.elapse_valve (s : Block) (k : Nat) : (s.elapse k).valve = s.valve := by obtain ⟨g, c, h⟩ := s.elapse_shape k; rw [h]
@[simp] theorem Block.elapse_fe (s : Block) (k : Nat) : (s.elapse k).fe = s.fe := by obtain ⟨g, c, h⟩ := s.elapse_shape k; rw [h]
@[simp] theorem Block.elapse_enc (s : Block) (k : Nat) : (s.elapse k).enc = s.enc := by obtain ⟨g, c, h⟩ := s.elapse_shape k; rw [h]
@[simp] theorem Block.elapse_axis (s : Block) (k : Nat) : (s.elapse k).axis = s.axis := by obtain ⟨g, c, h⟩ := s.elapse_shape k; rw [h]
@[simp] theorem Block.elapse_remote (s : Block) (k : Nat) : (s.elapse k).remote = s.remote := by obtain ⟨g, c, h⟩ := s.elapse_shape k; rw [h]
@[simp] theorem Block.elapse_serac (s : Block) (k : Nat) : (s.elapse k).serac = s.serac := by obtain ⟨g, c, h⟩ := s.elapse_shape k; rw [h]
@[simp] theorem Block.elapse_echo (s : Block) (k : Nat) : (s.elapse k).echo = s.echo := by obtain ⟨g, c, h⟩ := s.elapse_shape k; rw [h]
@[simp] theorem Block.elapse_tomo (s : Block) (k : Nat) : (s.elapse k).tomo = s.tomo := by obtain ⟨g, c, h⟩ := s.elapse_shape k; rw [h]
@[simp] theorem Block.elapse_net (s : Block) (k : Nat) : (s.elapse k).net = s.net := by obtain ⟨g, c, h⟩ := s.elapse_shape k; rw [h]
@[simp] theorem Block.elapse_line (s : Block) (k : Nat) : (s.elapse k).line = s.line := by obtain ⟨g, c, h⟩ := s.elapse_shape k; rw [h]
@[simp] theorem Block.elapse_floe (s : Block) (k : Nat) : (s.elapse k).floe = s.floe := by obtain ⟨g, c, h⟩ := s.elapse_shape k; rw [h]
@[simp] theorem Block.elapse_pair (s : Block) (k : Nat) : (s.elapse k).pair = s.pair := by obtain ⟨g, c, h⟩ := s.elapse_shape k; rw [h]
@[simp] theorem Block.elapse_therm (s : Block) (k : Nat) : (s.elapse k).therm = s.therm := by obtain ⟨g, c, h⟩ := s.elapse_shape k; rw [h]
@[simp] theorem Block.elapse_late (s : Block) (k : Nat) : (s.elapse k).late = s.late := by obtain ⟨g, c, h⟩ := s.elapse_shape k; rw [h]
@[simp] theorem Block.elapse_vol (s : Block) (k : Nat) : (s.elapse k).vol = s.vol := by obtain ⟨g, c, h⟩ := s.elapse_shape k; rw [h]
@[simp] theorem Block.elapse_fresh (s : Block) (k : Nat) : (s.elapse k).fresh = s.fresh := by obtain ⟨g, c, h⟩ := s.elapse_shape k; rw [h]

@[simp] theorem Block.advanceTo_tabs (s : Block) (t : Nat) : (s.advanceTo t).tabs = s.tabs := by obtain ⟨g, c, h⟩ := s.advanceTo_shape t; rw [h]
@[simp] theorem Block.advanceTo_phase (s : Block) (t : Nat) : (s.advanceTo t).phase = s.phase := by obtain ⟨g, c, h⟩ := s.advanceTo_shape t; rw [h]
@[simp] theorem Block.advanceTo_time (s : Block) (t : Nat) : (s.advanceTo t).time = s.time := by obtain ⟨g, c, h⟩ := s.advanceTo_shape t; rw [h]
@[simp] theorem Block.advanceTo_supply (s : Block) (t : Nat) : (s.advanceTo t).supply = s.supply := by obtain ⟨g, c, h⟩ := s.advanceTo_shape t; rw [h]
@[simp] theorem Block.advanceTo_key (s : Block) (t : Nat) : (s.advanceTo t).key = s.key := by obtain ⟨g, c, h⟩ := s.advanceTo_shape t; rw [h]
@[simp] theorem Block.advanceTo_mram (s : Block) (t : Nat) : (s.advanceTo t).mram = s.mram := by obtain ⟨g, c, h⟩ := s.advanceTo_shape t; rw [h]
@[simp] theorem Block.advanceTo_img (s : Block) (t : Nat) : (s.advanceTo t).img = s.img := by obtain ⟨g, c, h⟩ := s.advanceTo_shape t; rw [h]
@[simp] theorem Block.advanceTo_stage (s : Block) (t : Nat) : (s.advanceTo t).stage = s.stage := by obtain ⟨g, c, h⟩ := s.advanceTo_shape t; rw [h]
@[simp] theorem Block.advanceTo_rst (s : Block) (t : Nat) : (s.advanceTo t).rst = s.rst := by obtain ⟨g, c, h⟩ := s.advanceTo_shape t; rw [h]
@[simp] theorem Block.advanceTo_mode (s : Block) (t : Nat) : (s.advanceTo t).mode = s.mode := by obtain ⟨g, c, h⟩ := s.advanceTo_shape t; rw [h]
@[simp] theorem Block.advanceTo_evq (s : Block) (t : Nat) : (s.advanceTo t).evq = s.evq := by obtain ⟨g, c, h⟩ := s.advanceTo_shape t; rw [h]
@[simp] theorem Block.advanceTo_ringq (s : Block) (t : Nat) : (s.advanceTo t).ringq = s.ringq := by obtain ⟨g, c, h⟩ := s.advanceTo_shape t; rw [h]
@[simp] theorem Block.advanceTo_firn (s : Block) (t : Nat) : (s.advanceTo t).firn = s.firn := by obtain ⟨g, c, h⟩ := s.advanceTo_shape t; rw [h]
@[simp] theorem Block.advanceTo_host (s : Block) (t : Nat) : (s.advanceTo t).host = s.host := by obtain ⟨g, c, h⟩ := s.advanceTo_shape t; rw [h]
@[simp] theorem Block.advanceTo_dio (s : Block) (t : Nat) : (s.advanceTo t).dio = s.dio := by obtain ⟨g, c, h⟩ := s.advanceTo_shape t; rw [h]
@[simp] theorem Block.advanceTo_valve (s : Block) (t : Nat) : (s.advanceTo t).valve = s.valve := by obtain ⟨g, c, h⟩ := s.advanceTo_shape t; rw [h]
@[simp] theorem Block.advanceTo_fe (s : Block) (t : Nat) : (s.advanceTo t).fe = s.fe := by obtain ⟨g, c, h⟩ := s.advanceTo_shape t; rw [h]
@[simp] theorem Block.advanceTo_enc (s : Block) (t : Nat) : (s.advanceTo t).enc = s.enc := by obtain ⟨g, c, h⟩ := s.advanceTo_shape t; rw [h]
@[simp] theorem Block.advanceTo_axis (s : Block) (t : Nat) : (s.advanceTo t).axis = s.axis := by obtain ⟨g, c, h⟩ := s.advanceTo_shape t; rw [h]
@[simp] theorem Block.advanceTo_remote (s : Block) (t : Nat) : (s.advanceTo t).remote = s.remote := by obtain ⟨g, c, h⟩ := s.advanceTo_shape t; rw [h]
@[simp] theorem Block.advanceTo_serac (s : Block) (t : Nat) : (s.advanceTo t).serac = s.serac := by obtain ⟨g, c, h⟩ := s.advanceTo_shape t; rw [h]
@[simp] theorem Block.advanceTo_echo (s : Block) (t : Nat) : (s.advanceTo t).echo = s.echo := by obtain ⟨g, c, h⟩ := s.advanceTo_shape t; rw [h]
@[simp] theorem Block.advanceTo_tomo (s : Block) (t : Nat) : (s.advanceTo t).tomo = s.tomo := by obtain ⟨g, c, h⟩ := s.advanceTo_shape t; rw [h]
@[simp] theorem Block.advanceTo_net (s : Block) (t : Nat) : (s.advanceTo t).net = s.net := by obtain ⟨g, c, h⟩ := s.advanceTo_shape t; rw [h]
@[simp] theorem Block.advanceTo_line (s : Block) (t : Nat) : (s.advanceTo t).line = s.line := by obtain ⟨g, c, h⟩ := s.advanceTo_shape t; rw [h]
@[simp] theorem Block.advanceTo_floe (s : Block) (t : Nat) : (s.advanceTo t).floe = s.floe := by obtain ⟨g, c, h⟩ := s.advanceTo_shape t; rw [h]
@[simp] theorem Block.advanceTo_pair (s : Block) (t : Nat) : (s.advanceTo t).pair = s.pair := by obtain ⟨g, c, h⟩ := s.advanceTo_shape t; rw [h]
@[simp] theorem Block.advanceTo_therm (s : Block) (t : Nat) : (s.advanceTo t).therm = s.therm := by obtain ⟨g, c, h⟩ := s.advanceTo_shape t; rw [h]
@[simp] theorem Block.advanceTo_late (s : Block) (t : Nat) : (s.advanceTo t).late = s.late := by obtain ⟨g, c, h⟩ := s.advanceTo_shape t; rw [h]
@[simp] theorem Block.advanceTo_vol (s : Block) (t : Nat) : (s.advanceTo t).vol = s.vol := by obtain ⟨g, c, h⟩ := s.advanceTo_shape t; rw [h]
@[simp] theorem Block.advanceTo_fresh (s : Block) (t : Nat) : (s.advanceTo t).fresh = s.fresh := by obtain ⟨g, c, h⟩ := s.advanceTo_shape t; rw [h]

@[simp] theorem Block.advanceTb_tabs (s : Block) (t : Nat) : (s.advanceTb t).tabs = s.tabs := by obtain ⟨g, c, h⟩ := s.advanceTb_shape t; rw [h]
@[simp] theorem Block.advanceTb_phase (s : Block) (t : Nat) : (s.advanceTb t).phase = s.phase := by obtain ⟨g, c, h⟩ := s.advanceTb_shape t; rw [h]
@[simp] theorem Block.advanceTb_time (s : Block) (t : Nat) : (s.advanceTb t).time = s.time := by obtain ⟨g, c, h⟩ := s.advanceTb_shape t; rw [h]
@[simp] theorem Block.advanceTb_supply (s : Block) (t : Nat) : (s.advanceTb t).supply = s.supply := by obtain ⟨g, c, h⟩ := s.advanceTb_shape t; rw [h]
@[simp] theorem Block.advanceTb_key (s : Block) (t : Nat) : (s.advanceTb t).key = s.key := by obtain ⟨g, c, h⟩ := s.advanceTb_shape t; rw [h]
@[simp] theorem Block.advanceTb_mram (s : Block) (t : Nat) : (s.advanceTb t).mram = s.mram := by obtain ⟨g, c, h⟩ := s.advanceTb_shape t; rw [h]
@[simp] theorem Block.advanceTb_img (s : Block) (t : Nat) : (s.advanceTb t).img = s.img := by obtain ⟨g, c, h⟩ := s.advanceTb_shape t; rw [h]
@[simp] theorem Block.advanceTb_stage (s : Block) (t : Nat) : (s.advanceTb t).stage = s.stage := by obtain ⟨g, c, h⟩ := s.advanceTb_shape t; rw [h]
@[simp] theorem Block.advanceTb_rst (s : Block) (t : Nat) : (s.advanceTb t).rst = s.rst := by obtain ⟨g, c, h⟩ := s.advanceTb_shape t; rw [h]
@[simp] theorem Block.advanceTb_mode (s : Block) (t : Nat) : (s.advanceTb t).mode = s.mode := by obtain ⟨g, c, h⟩ := s.advanceTb_shape t; rw [h]
@[simp] theorem Block.advanceTb_evq (s : Block) (t : Nat) : (s.advanceTb t).evq = s.evq := by obtain ⟨g, c, h⟩ := s.advanceTb_shape t; rw [h]
@[simp] theorem Block.advanceTb_ringq (s : Block) (t : Nat) : (s.advanceTb t).ringq = s.ringq := by obtain ⟨g, c, h⟩ := s.advanceTb_shape t; rw [h]
@[simp] theorem Block.advanceTb_firn (s : Block) (t : Nat) : (s.advanceTb t).firn = s.firn := by obtain ⟨g, c, h⟩ := s.advanceTb_shape t; rw [h]
@[simp] theorem Block.advanceTb_host (s : Block) (t : Nat) : (s.advanceTb t).host = s.host := by obtain ⟨g, c, h⟩ := s.advanceTb_shape t; rw [h]
@[simp] theorem Block.advanceTb_dio (s : Block) (t : Nat) : (s.advanceTb t).dio = s.dio := by obtain ⟨g, c, h⟩ := s.advanceTb_shape t; rw [h]
@[simp] theorem Block.advanceTb_valve (s : Block) (t : Nat) : (s.advanceTb t).valve = s.valve := by obtain ⟨g, c, h⟩ := s.advanceTb_shape t; rw [h]
@[simp] theorem Block.advanceTb_fe (s : Block) (t : Nat) : (s.advanceTb t).fe = s.fe := by obtain ⟨g, c, h⟩ := s.advanceTb_shape t; rw [h]
@[simp] theorem Block.advanceTb_enc (s : Block) (t : Nat) : (s.advanceTb t).enc = s.enc := by obtain ⟨g, c, h⟩ := s.advanceTb_shape t; rw [h]
@[simp] theorem Block.advanceTb_axis (s : Block) (t : Nat) : (s.advanceTb t).axis = s.axis := by obtain ⟨g, c, h⟩ := s.advanceTb_shape t; rw [h]
@[simp] theorem Block.advanceTb_remote (s : Block) (t : Nat) : (s.advanceTb t).remote = s.remote := by obtain ⟨g, c, h⟩ := s.advanceTb_shape t; rw [h]
@[simp] theorem Block.advanceTb_serac (s : Block) (t : Nat) : (s.advanceTb t).serac = s.serac := by obtain ⟨g, c, h⟩ := s.advanceTb_shape t; rw [h]
@[simp] theorem Block.advanceTb_echo (s : Block) (t : Nat) : (s.advanceTb t).echo = s.echo := by obtain ⟨g, c, h⟩ := s.advanceTb_shape t; rw [h]
@[simp] theorem Block.advanceTb_tomo (s : Block) (t : Nat) : (s.advanceTb t).tomo = s.tomo := by obtain ⟨g, c, h⟩ := s.advanceTb_shape t; rw [h]
@[simp] theorem Block.advanceTb_net (s : Block) (t : Nat) : (s.advanceTb t).net = s.net := by obtain ⟨g, c, h⟩ := s.advanceTb_shape t; rw [h]
@[simp] theorem Block.advanceTb_line (s : Block) (t : Nat) : (s.advanceTb t).line = s.line := by obtain ⟨g, c, h⟩ := s.advanceTb_shape t; rw [h]
@[simp] theorem Block.advanceTb_floe (s : Block) (t : Nat) : (s.advanceTb t).floe = s.floe := by obtain ⟨g, c, h⟩ := s.advanceTb_shape t; rw [h]
@[simp] theorem Block.advanceTb_pair (s : Block) (t : Nat) : (s.advanceTb t).pair = s.pair := by obtain ⟨g, c, h⟩ := s.advanceTb_shape t; rw [h]
@[simp] theorem Block.advanceTb_therm (s : Block) (t : Nat) : (s.advanceTb t).therm = s.therm := by obtain ⟨g, c, h⟩ := s.advanceTb_shape t; rw [h]
@[simp] theorem Block.advanceTb_late (s : Block) (t : Nat) : (s.advanceTb t).late = s.late := by obtain ⟨g, c, h⟩ := s.advanceTb_shape t; rw [h]
@[simp] theorem Block.advanceTb_vol (s : Block) (t : Nat) : (s.advanceTb t).vol = s.vol := by obtain ⟨g, c, h⟩ := s.advanceTb_shape t; rw [h]
@[simp] theorem Block.advanceTb_fresh (s : Block) (t : Nat) : (s.advanceTb t).fresh = s.fresh := by obtain ⟨g, c, h⟩ := s.advanceTb_shape t; rw [h]

@[simp] theorem Block.idle_tabs (s : Block) : (s.idle).tabs = s.tabs := by obtain ⟨g, c, h⟩ := s.idle_shape ; rw [h]
@[simp] theorem Block.idle_phase (s : Block) : (s.idle).phase = s.phase := by obtain ⟨g, c, h⟩ := s.idle_shape ; rw [h]
@[simp] theorem Block.idle_time (s : Block) : (s.idle).time = s.time := by obtain ⟨g, c, h⟩ := s.idle_shape ; rw [h]
@[simp] theorem Block.idle_supply (s : Block) : (s.idle).supply = s.supply := by obtain ⟨g, c, h⟩ := s.idle_shape ; rw [h]
@[simp] theorem Block.idle_key (s : Block) : (s.idle).key = s.key := by obtain ⟨g, c, h⟩ := s.idle_shape ; rw [h]
@[simp] theorem Block.idle_mram (s : Block) : (s.idle).mram = s.mram := by obtain ⟨g, c, h⟩ := s.idle_shape ; rw [h]
@[simp] theorem Block.idle_img (s : Block) : (s.idle).img = s.img := by obtain ⟨g, c, h⟩ := s.idle_shape ; rw [h]
@[simp] theorem Block.idle_stage (s : Block) : (s.idle).stage = s.stage := by obtain ⟨g, c, h⟩ := s.idle_shape ; rw [h]
@[simp] theorem Block.idle_rst (s : Block) : (s.idle).rst = s.rst := by obtain ⟨g, c, h⟩ := s.idle_shape ; rw [h]
@[simp] theorem Block.idle_mode (s : Block) : (s.idle).mode = s.mode := by obtain ⟨g, c, h⟩ := s.idle_shape ; rw [h]
@[simp] theorem Block.idle_evq (s : Block) : (s.idle).evq = s.evq := by obtain ⟨g, c, h⟩ := s.idle_shape ; rw [h]
@[simp] theorem Block.idle_ringq (s : Block) : (s.idle).ringq = s.ringq := by obtain ⟨g, c, h⟩ := s.idle_shape ; rw [h]
@[simp] theorem Block.idle_firn (s : Block) : (s.idle).firn = s.firn := by obtain ⟨g, c, h⟩ := s.idle_shape ; rw [h]
@[simp] theorem Block.idle_host (s : Block) : (s.idle).host = s.host := by obtain ⟨g, c, h⟩ := s.idle_shape ; rw [h]
@[simp] theorem Block.idle_dio (s : Block) : (s.idle).dio = s.dio := by obtain ⟨g, c, h⟩ := s.idle_shape ; rw [h]
@[simp] theorem Block.idle_valve (s : Block) : (s.idle).valve = s.valve := by obtain ⟨g, c, h⟩ := s.idle_shape ; rw [h]
@[simp] theorem Block.idle_fe (s : Block) : (s.idle).fe = s.fe := by obtain ⟨g, c, h⟩ := s.idle_shape ; rw [h]
@[simp] theorem Block.idle_enc (s : Block) : (s.idle).enc = s.enc := by obtain ⟨g, c, h⟩ := s.idle_shape ; rw [h]
@[simp] theorem Block.idle_axis (s : Block) : (s.idle).axis = s.axis := by obtain ⟨g, c, h⟩ := s.idle_shape ; rw [h]
@[simp] theorem Block.idle_remote (s : Block) : (s.idle).remote = s.remote := by obtain ⟨g, c, h⟩ := s.idle_shape ; rw [h]
@[simp] theorem Block.idle_serac (s : Block) : (s.idle).serac = s.serac := by obtain ⟨g, c, h⟩ := s.idle_shape ; rw [h]
@[simp] theorem Block.idle_echo (s : Block) : (s.idle).echo = s.echo := by obtain ⟨g, c, h⟩ := s.idle_shape ; rw [h]
@[simp] theorem Block.idle_tomo (s : Block) : (s.idle).tomo = s.tomo := by obtain ⟨g, c, h⟩ := s.idle_shape ; rw [h]
@[simp] theorem Block.idle_net (s : Block) : (s.idle).net = s.net := by obtain ⟨g, c, h⟩ := s.idle_shape ; rw [h]
@[simp] theorem Block.idle_line (s : Block) : (s.idle).line = s.line := by obtain ⟨g, c, h⟩ := s.idle_shape ; rw [h]
@[simp] theorem Block.idle_floe (s : Block) : (s.idle).floe = s.floe := by obtain ⟨g, c, h⟩ := s.idle_shape ; rw [h]
@[simp] theorem Block.idle_pair (s : Block) : (s.idle).pair = s.pair := by obtain ⟨g, c, h⟩ := s.idle_shape ; rw [h]
@[simp] theorem Block.idle_therm (s : Block) : (s.idle).therm = s.therm := by obtain ⟨g, c, h⟩ := s.idle_shape ; rw [h]
@[simp] theorem Block.idle_late (s : Block) : (s.idle).late = s.late := by obtain ⟨g, c, h⟩ := s.idle_shape ; rw [h]
@[simp] theorem Block.idle_vol (s : Block) : (s.idle).vol = s.vol := by obtain ⟨g, c, h⟩ := s.idle_shape ; rw [h]
@[simp] theorem Block.idle_fresh (s : Block) : (s.idle).fresh = s.fresh := by obtain ⟨g, c, h⟩ := s.idle_shape ; rw [h]

@[simp] theorem Block.draw_snd_regs (s : Block) : (s.draw.2).regs = s.regs := rfl
@[simp] theorem Block.draw_snd_tabs (s : Block) : (s.draw.2).tabs = s.tabs := rfl
@[simp] theorem Block.draw_snd_phase (s : Block) : (s.draw.2).phase = s.phase := rfl
@[simp] theorem Block.draw_snd_clk (s : Block) : (s.draw.2).clk = s.clk := rfl
@[simp] theorem Block.draw_snd_time (s : Block) : (s.draw.2).time = s.time := rfl
@[simp] theorem Block.draw_snd_supply (s : Block) : (s.draw.2).supply = s.supply := rfl
@[simp] theorem Block.draw_snd_key (s : Block) : (s.draw.2).key = s.key := rfl
@[simp] theorem Block.draw_snd_mram (s : Block) : (s.draw.2).mram = s.mram := rfl
@[simp] theorem Block.draw_snd_img (s : Block) : (s.draw.2).img = s.img := rfl
@[simp] theorem Block.draw_snd_stage (s : Block) : (s.draw.2).stage = s.stage := rfl
@[simp] theorem Block.draw_snd_rst (s : Block) : (s.draw.2).rst = s.rst := rfl
@[simp] theorem Block.draw_snd_mode (s : Block) : (s.draw.2).mode = s.mode := rfl
@[simp] theorem Block.draw_snd_evq (s : Block) : (s.draw.2).evq = s.evq := rfl
@[simp] theorem Block.draw_snd_ringq (s : Block) : (s.draw.2).ringq = s.ringq := rfl
@[simp] theorem Block.draw_snd_firn (s : Block) : (s.draw.2).firn = s.firn := rfl
@[simp] theorem Block.draw_snd_host (s : Block) : (s.draw.2).host = s.host := rfl
@[simp] theorem Block.draw_snd_dio (s : Block) : (s.draw.2).dio = s.dio := rfl
@[simp] theorem Block.draw_snd_valve (s : Block) : (s.draw.2).valve = s.valve := rfl
@[simp] theorem Block.draw_snd_fe (s : Block) : (s.draw.2).fe = s.fe := rfl
@[simp] theorem Block.draw_snd_enc (s : Block) : (s.draw.2).enc = s.enc := rfl
@[simp] theorem Block.draw_snd_axis (s : Block) : (s.draw.2).axis = s.axis := rfl
@[simp] theorem Block.draw_snd_remote (s : Block) : (s.draw.2).remote = s.remote := rfl
@[simp] theorem Block.draw_snd_serac (s : Block) : (s.draw.2).serac = s.serac := rfl
@[simp] theorem Block.draw_snd_echo (s : Block) : (s.draw.2).echo = s.echo := rfl
@[simp] theorem Block.draw_snd_tomo (s : Block) : (s.draw.2).tomo = s.tomo := rfl
@[simp] theorem Block.draw_snd_net (s : Block) : (s.draw.2).net = s.net := rfl
@[simp] theorem Block.draw_snd_line (s : Block) : (s.draw.2).line = s.line := rfl
@[simp] theorem Block.draw_snd_floe (s : Block) : (s.draw.2).floe = s.floe := rfl
@[simp] theorem Block.draw_snd_pair (s : Block) : (s.draw.2).pair = s.pair := rfl
@[simp] theorem Block.draw_snd_therm (s : Block) : (s.draw.2).therm = s.therm := rfl
@[simp] theorem Block.draw_snd_late (s : Block) : (s.draw.2).late = s.late := rfl
@[simp] theorem Block.draw_snd_vol (s : Block) : (s.draw.2).vol = s.vol := rfl

@[simp] theorem Block.queueEv_tabs (s : Block) (r : EvRec) : (s.queueEv r).tabs = s.tabs := by obtain ⟨g, q, h⟩ := s.queueEv_shape r; rw [h]
@[simp] theorem Block.queueEv_phase (s : Block) (r : EvRec) : (s.queueEv r).phase = s.phase := by obtain ⟨g, q, h⟩ := s.queueEv_shape r; rw [h]
@[simp] theorem Block.queueEv_clk (s : Block) (r : EvRec) : (s.queueEv r).clk = s.clk := by obtain ⟨g, q, h⟩ := s.queueEv_shape r; rw [h]
@[simp] theorem Block.queueEv_time (s : Block) (r : EvRec) : (s.queueEv r).time = s.time := by obtain ⟨g, q, h⟩ := s.queueEv_shape r; rw [h]
@[simp] theorem Block.queueEv_supply (s : Block) (r : EvRec) : (s.queueEv r).supply = s.supply := by obtain ⟨g, q, h⟩ := s.queueEv_shape r; rw [h]
@[simp] theorem Block.queueEv_key (s : Block) (r : EvRec) : (s.queueEv r).key = s.key := by obtain ⟨g, q, h⟩ := s.queueEv_shape r; rw [h]
@[simp] theorem Block.queueEv_mram (s : Block) (r : EvRec) : (s.queueEv r).mram = s.mram := by obtain ⟨g, q, h⟩ := s.queueEv_shape r; rw [h]
@[simp] theorem Block.queueEv_img (s : Block) (r : EvRec) : (s.queueEv r).img = s.img := by obtain ⟨g, q, h⟩ := s.queueEv_shape r; rw [h]
@[simp] theorem Block.queueEv_stage (s : Block) (r : EvRec) : (s.queueEv r).stage = s.stage := by obtain ⟨g, q, h⟩ := s.queueEv_shape r; rw [h]
@[simp] theorem Block.queueEv_rst (s : Block) (r : EvRec) : (s.queueEv r).rst = s.rst := by obtain ⟨g, q, h⟩ := s.queueEv_shape r; rw [h]
@[simp] theorem Block.queueEv_mode (s : Block) (r : EvRec) : (s.queueEv r).mode = s.mode := by obtain ⟨g, q, h⟩ := s.queueEv_shape r; rw [h]
@[simp] theorem Block.queueEv_ringq (s : Block) (r : EvRec) : (s.queueEv r).ringq = s.ringq := by obtain ⟨g, q, h⟩ := s.queueEv_shape r; rw [h]
@[simp] theorem Block.queueEv_firn (s : Block) (r : EvRec) : (s.queueEv r).firn = s.firn := by obtain ⟨g, q, h⟩ := s.queueEv_shape r; rw [h]
@[simp] theorem Block.queueEv_host (s : Block) (r : EvRec) : (s.queueEv r).host = s.host := by obtain ⟨g, q, h⟩ := s.queueEv_shape r; rw [h]
@[simp] theorem Block.queueEv_dio (s : Block) (r : EvRec) : (s.queueEv r).dio = s.dio := by obtain ⟨g, q, h⟩ := s.queueEv_shape r; rw [h]
@[simp] theorem Block.queueEv_valve (s : Block) (r : EvRec) : (s.queueEv r).valve = s.valve := by obtain ⟨g, q, h⟩ := s.queueEv_shape r; rw [h]
@[simp] theorem Block.queueEv_fe (s : Block) (r : EvRec) : (s.queueEv r).fe = s.fe := by obtain ⟨g, q, h⟩ := s.queueEv_shape r; rw [h]
@[simp] theorem Block.queueEv_enc (s : Block) (r : EvRec) : (s.queueEv r).enc = s.enc := by obtain ⟨g, q, h⟩ := s.queueEv_shape r; rw [h]
@[simp] theorem Block.queueEv_axis (s : Block) (r : EvRec) : (s.queueEv r).axis = s.axis := by obtain ⟨g, q, h⟩ := s.queueEv_shape r; rw [h]
@[simp] theorem Block.queueEv_remote (s : Block) (r : EvRec) : (s.queueEv r).remote = s.remote := by obtain ⟨g, q, h⟩ := s.queueEv_shape r; rw [h]
@[simp] theorem Block.queueEv_serac (s : Block) (r : EvRec) : (s.queueEv r).serac = s.serac := by obtain ⟨g, q, h⟩ := s.queueEv_shape r; rw [h]
@[simp] theorem Block.queueEv_echo (s : Block) (r : EvRec) : (s.queueEv r).echo = s.echo := by obtain ⟨g, q, h⟩ := s.queueEv_shape r; rw [h]
@[simp] theorem Block.queueEv_tomo (s : Block) (r : EvRec) : (s.queueEv r).tomo = s.tomo := by obtain ⟨g, q, h⟩ := s.queueEv_shape r; rw [h]
@[simp] theorem Block.queueEv_net (s : Block) (r : EvRec) : (s.queueEv r).net = s.net := by obtain ⟨g, q, h⟩ := s.queueEv_shape r; rw [h]
@[simp] theorem Block.queueEv_line (s : Block) (r : EvRec) : (s.queueEv r).line = s.line := by obtain ⟨g, q, h⟩ := s.queueEv_shape r; rw [h]
@[simp] theorem Block.queueEv_floe (s : Block) (r : EvRec) : (s.queueEv r).floe = s.floe := by obtain ⟨g, q, h⟩ := s.queueEv_shape r; rw [h]
@[simp] theorem Block.queueEv_pair (s : Block) (r : EvRec) : (s.queueEv r).pair = s.pair := by obtain ⟨g, q, h⟩ := s.queueEv_shape r; rw [h]
@[simp] theorem Block.queueEv_therm (s : Block) (r : EvRec) : (s.queueEv r).therm = s.therm := by obtain ⟨g, q, h⟩ := s.queueEv_shape r; rw [h]
@[simp] theorem Block.queueEv_late (s : Block) (r : EvRec) : (s.queueEv r).late = s.late := by obtain ⟨g, q, h⟩ := s.queueEv_shape r; rw [h]
@[simp] theorem Block.queueEv_vol (s : Block) (r : EvRec) : (s.queueEv r).vol = s.vol := by obtain ⟨g, q, h⟩ := s.queueEv_shape r; rw [h]
@[simp] theorem Block.queueEv_fresh (s : Block) (r : EvRec) : (s.queueEv r).fresh = s.fresh := by obtain ⟨g, q, h⟩ := s.queueEv_shape r; rw [h]

@[simp] theorem Block.raiseAt_tabs (s : Block) (ts src sev code : Nat) (o : Attr) (d : Nat) : (s.raiseAt ts src sev code o d).tabs = s.tabs := by obtain ⟨g, q, h⟩ := s.raiseAt_shape ts src sev code o d; rw [h]
@[simp] theorem Block.raiseAt_phase (s : Block) (ts src sev code : Nat) (o : Attr) (d : Nat) : (s.raiseAt ts src sev code o d).phase = s.phase := by obtain ⟨g, q, h⟩ := s.raiseAt_shape ts src sev code o d; rw [h]
@[simp] theorem Block.raiseAt_clk (s : Block) (ts src sev code : Nat) (o : Attr) (d : Nat) : (s.raiseAt ts src sev code o d).clk = s.clk := by obtain ⟨g, q, h⟩ := s.raiseAt_shape ts src sev code o d; rw [h]
@[simp] theorem Block.raiseAt_time (s : Block) (ts src sev code : Nat) (o : Attr) (d : Nat) : (s.raiseAt ts src sev code o d).time = s.time := by obtain ⟨g, q, h⟩ := s.raiseAt_shape ts src sev code o d; rw [h]
@[simp] theorem Block.raiseAt_supply (s : Block) (ts src sev code : Nat) (o : Attr) (d : Nat) : (s.raiseAt ts src sev code o d).supply = s.supply := by obtain ⟨g, q, h⟩ := s.raiseAt_shape ts src sev code o d; rw [h]
@[simp] theorem Block.raiseAt_key (s : Block) (ts src sev code : Nat) (o : Attr) (d : Nat) : (s.raiseAt ts src sev code o d).key = s.key := by obtain ⟨g, q, h⟩ := s.raiseAt_shape ts src sev code o d; rw [h]
@[simp] theorem Block.raiseAt_mram (s : Block) (ts src sev code : Nat) (o : Attr) (d : Nat) : (s.raiseAt ts src sev code o d).mram = s.mram := by obtain ⟨g, q, h⟩ := s.raiseAt_shape ts src sev code o d; rw [h]
@[simp] theorem Block.raiseAt_img (s : Block) (ts src sev code : Nat) (o : Attr) (d : Nat) : (s.raiseAt ts src sev code o d).img = s.img := by obtain ⟨g, q, h⟩ := s.raiseAt_shape ts src sev code o d; rw [h]
@[simp] theorem Block.raiseAt_stage (s : Block) (ts src sev code : Nat) (o : Attr) (d : Nat) : (s.raiseAt ts src sev code o d).stage = s.stage := by obtain ⟨g, q, h⟩ := s.raiseAt_shape ts src sev code o d; rw [h]
@[simp] theorem Block.raiseAt_rst (s : Block) (ts src sev code : Nat) (o : Attr) (d : Nat) : (s.raiseAt ts src sev code o d).rst = s.rst := by obtain ⟨g, q, h⟩ := s.raiseAt_shape ts src sev code o d; rw [h]
@[simp] theorem Block.raiseAt_mode (s : Block) (ts src sev code : Nat) (o : Attr) (d : Nat) : (s.raiseAt ts src sev code o d).mode = s.mode := by obtain ⟨g, q, h⟩ := s.raiseAt_shape ts src sev code o d; rw [h]
@[simp] theorem Block.raiseAt_ringq (s : Block) (ts src sev code : Nat) (o : Attr) (d : Nat) : (s.raiseAt ts src sev code o d).ringq = s.ringq := by obtain ⟨g, q, h⟩ := s.raiseAt_shape ts src sev code o d; rw [h]
@[simp] theorem Block.raiseAt_firn (s : Block) (ts src sev code : Nat) (o : Attr) (d : Nat) : (s.raiseAt ts src sev code o d).firn = s.firn := by obtain ⟨g, q, h⟩ := s.raiseAt_shape ts src sev code o d; rw [h]
@[simp] theorem Block.raiseAt_host (s : Block) (ts src sev code : Nat) (o : Attr) (d : Nat) : (s.raiseAt ts src sev code o d).host = s.host := by obtain ⟨g, q, h⟩ := s.raiseAt_shape ts src sev code o d; rw [h]
@[simp] theorem Block.raiseAt_dio (s : Block) (ts src sev code : Nat) (o : Attr) (d : Nat) : (s.raiseAt ts src sev code o d).dio = s.dio := by obtain ⟨g, q, h⟩ := s.raiseAt_shape ts src sev code o d; rw [h]
@[simp] theorem Block.raiseAt_valve (s : Block) (ts src sev code : Nat) (o : Attr) (d : Nat) : (s.raiseAt ts src sev code o d).valve = s.valve := by obtain ⟨g, q, h⟩ := s.raiseAt_shape ts src sev code o d; rw [h]
@[simp] theorem Block.raiseAt_fe (s : Block) (ts src sev code : Nat) (o : Attr) (d : Nat) : (s.raiseAt ts src sev code o d).fe = s.fe := by obtain ⟨g, q, h⟩ := s.raiseAt_shape ts src sev code o d; rw [h]
@[simp] theorem Block.raiseAt_enc (s : Block) (ts src sev code : Nat) (o : Attr) (d : Nat) : (s.raiseAt ts src sev code o d).enc = s.enc := by obtain ⟨g, q, h⟩ := s.raiseAt_shape ts src sev code o d; rw [h]
@[simp] theorem Block.raiseAt_axis (s : Block) (ts src sev code : Nat) (o : Attr) (d : Nat) : (s.raiseAt ts src sev code o d).axis = s.axis := by obtain ⟨g, q, h⟩ := s.raiseAt_shape ts src sev code o d; rw [h]
@[simp] theorem Block.raiseAt_remote (s : Block) (ts src sev code : Nat) (o : Attr) (d : Nat) : (s.raiseAt ts src sev code o d).remote = s.remote := by obtain ⟨g, q, h⟩ := s.raiseAt_shape ts src sev code o d; rw [h]
@[simp] theorem Block.raiseAt_serac (s : Block) (ts src sev code : Nat) (o : Attr) (d : Nat) : (s.raiseAt ts src sev code o d).serac = s.serac := by obtain ⟨g, q, h⟩ := s.raiseAt_shape ts src sev code o d; rw [h]
@[simp] theorem Block.raiseAt_echo (s : Block) (ts src sev code : Nat) (o : Attr) (d : Nat) : (s.raiseAt ts src sev code o d).echo = s.echo := by obtain ⟨g, q, h⟩ := s.raiseAt_shape ts src sev code o d; rw [h]
@[simp] theorem Block.raiseAt_tomo (s : Block) (ts src sev code : Nat) (o : Attr) (d : Nat) : (s.raiseAt ts src sev code o d).tomo = s.tomo := by obtain ⟨g, q, h⟩ := s.raiseAt_shape ts src sev code o d; rw [h]
@[simp] theorem Block.raiseAt_net (s : Block) (ts src sev code : Nat) (o : Attr) (d : Nat) : (s.raiseAt ts src sev code o d).net = s.net := by obtain ⟨g, q, h⟩ := s.raiseAt_shape ts src sev code o d; rw [h]
@[simp] theorem Block.raiseAt_line (s : Block) (ts src sev code : Nat) (o : Attr) (d : Nat) : (s.raiseAt ts src sev code o d).line = s.line := by obtain ⟨g, q, h⟩ := s.raiseAt_shape ts src sev code o d; rw [h]
@[simp] theorem Block.raiseAt_floe (s : Block) (ts src sev code : Nat) (o : Attr) (d : Nat) : (s.raiseAt ts src sev code o d).floe = s.floe := by obtain ⟨g, q, h⟩ := s.raiseAt_shape ts src sev code o d; rw [h]
@[simp] theorem Block.raiseAt_pair (s : Block) (ts src sev code : Nat) (o : Attr) (d : Nat) : (s.raiseAt ts src sev code o d).pair = s.pair := by obtain ⟨g, q, h⟩ := s.raiseAt_shape ts src sev code o d; rw [h]
@[simp] theorem Block.raiseAt_therm (s : Block) (ts src sev code : Nat) (o : Attr) (d : Nat) : (s.raiseAt ts src sev code o d).therm = s.therm := by obtain ⟨g, q, h⟩ := s.raiseAt_shape ts src sev code o d; rw [h]
@[simp] theorem Block.raiseAt_late (s : Block) (ts src sev code : Nat) (o : Attr) (d : Nat) : (s.raiseAt ts src sev code o d).late = s.late := by obtain ⟨g, q, h⟩ := s.raiseAt_shape ts src sev code o d; rw [h]
@[simp] theorem Block.raiseAt_vol (s : Block) (ts src sev code : Nat) (o : Attr) (d : Nat) : (s.raiseAt ts src sev code o d).vol = s.vol := by obtain ⟨g, q, h⟩ := s.raiseAt_shape ts src sev code o d; rw [h]
@[simp] theorem Block.raiseAt_fresh (s : Block) (ts src sev code : Nat) (o : Attr) (d : Nat) : (s.raiseAt ts src sev code o d).fresh = s.fresh := by obtain ⟨g, q, h⟩ := s.raiseAt_shape ts src sev code o d; rw [h]

@[simp] theorem Block.raise_tabs (s : Block) (src sev : Nat) (o : Attr) (d : Nat) : (s.raise src sev o d).tabs = s.tabs := by obtain ⟨g, q, h⟩ := s.raise_shape src sev o d; rw [h]
@[simp] theorem Block.raise_phase (s : Block) (src sev : Nat) (o : Attr) (d : Nat) : (s.raise src sev o d).phase = s.phase := by obtain ⟨g, q, h⟩ := s.raise_shape src sev o d; rw [h]
@[simp] theorem Block.raise_clk (s : Block) (src sev : Nat) (o : Attr) (d : Nat) : (s.raise src sev o d).clk = s.clk := by obtain ⟨g, q, h⟩ := s.raise_shape src sev o d; rw [h]
@[simp] theorem Block.raise_time (s : Block) (src sev : Nat) (o : Attr) (d : Nat) : (s.raise src sev o d).time = s.time := by obtain ⟨g, q, h⟩ := s.raise_shape src sev o d; rw [h]
@[simp] theorem Block.raise_supply (s : Block) (src sev : Nat) (o : Attr) (d : Nat) : (s.raise src sev o d).supply = s.supply := by obtain ⟨g, q, h⟩ := s.raise_shape src sev o d; rw [h]
@[simp] theorem Block.raise_key (s : Block) (src sev : Nat) (o : Attr) (d : Nat) : (s.raise src sev o d).key = s.key := by obtain ⟨g, q, h⟩ := s.raise_shape src sev o d; rw [h]
@[simp] theorem Block.raise_mram (s : Block) (src sev : Nat) (o : Attr) (d : Nat) : (s.raise src sev o d).mram = s.mram := by obtain ⟨g, q, h⟩ := s.raise_shape src sev o d; rw [h]
@[simp] theorem Block.raise_img (s : Block) (src sev : Nat) (o : Attr) (d : Nat) : (s.raise src sev o d).img = s.img := by obtain ⟨g, q, h⟩ := s.raise_shape src sev o d; rw [h]
@[simp] theorem Block.raise_stage (s : Block) (src sev : Nat) (o : Attr) (d : Nat) : (s.raise src sev o d).stage = s.stage := by obtain ⟨g, q, h⟩ := s.raise_shape src sev o d; rw [h]
@[simp] theorem Block.raise_rst (s : Block) (src sev : Nat) (o : Attr) (d : Nat) : (s.raise src sev o d).rst = s.rst := by obtain ⟨g, q, h⟩ := s.raise_shape src sev o d; rw [h]
@[simp] theorem Block.raise_mode (s : Block) (src sev : Nat) (o : Attr) (d : Nat) : (s.raise src sev o d).mode = s.mode := by obtain ⟨g, q, h⟩ := s.raise_shape src sev o d; rw [h]
@[simp] theorem Block.raise_ringq (s : Block) (src sev : Nat) (o : Attr) (d : Nat) : (s.raise src sev o d).ringq = s.ringq := by obtain ⟨g, q, h⟩ := s.raise_shape src sev o d; rw [h]
@[simp] theorem Block.raise_firn (s : Block) (src sev : Nat) (o : Attr) (d : Nat) : (s.raise src sev o d).firn = s.firn := by obtain ⟨g, q, h⟩ := s.raise_shape src sev o d; rw [h]
@[simp] theorem Block.raise_host (s : Block) (src sev : Nat) (o : Attr) (d : Nat) : (s.raise src sev o d).host = s.host := by obtain ⟨g, q, h⟩ := s.raise_shape src sev o d; rw [h]
@[simp] theorem Block.raise_dio (s : Block) (src sev : Nat) (o : Attr) (d : Nat) : (s.raise src sev o d).dio = s.dio := by obtain ⟨g, q, h⟩ := s.raise_shape src sev o d; rw [h]
@[simp] theorem Block.raise_valve (s : Block) (src sev : Nat) (o : Attr) (d : Nat) : (s.raise src sev o d).valve = s.valve := by obtain ⟨g, q, h⟩ := s.raise_shape src sev o d; rw [h]
@[simp] theorem Block.raise_fe (s : Block) (src sev : Nat) (o : Attr) (d : Nat) : (s.raise src sev o d).fe = s.fe := by obtain ⟨g, q, h⟩ := s.raise_shape src sev o d; rw [h]
@[simp] theorem Block.raise_enc (s : Block) (src sev : Nat) (o : Attr) (d : Nat) : (s.raise src sev o d).enc = s.enc := by obtain ⟨g, q, h⟩ := s.raise_shape src sev o d; rw [h]
@[simp] theorem Block.raise_axis (s : Block) (src sev : Nat) (o : Attr) (d : Nat) : (s.raise src sev o d).axis = s.axis := by obtain ⟨g, q, h⟩ := s.raise_shape src sev o d; rw [h]
@[simp] theorem Block.raise_remote (s : Block) (src sev : Nat) (o : Attr) (d : Nat) : (s.raise src sev o d).remote = s.remote := by obtain ⟨g, q, h⟩ := s.raise_shape src sev o d; rw [h]
@[simp] theorem Block.raise_serac (s : Block) (src sev : Nat) (o : Attr) (d : Nat) : (s.raise src sev o d).serac = s.serac := by obtain ⟨g, q, h⟩ := s.raise_shape src sev o d; rw [h]
@[simp] theorem Block.raise_echo (s : Block) (src sev : Nat) (o : Attr) (d : Nat) : (s.raise src sev o d).echo = s.echo := by obtain ⟨g, q, h⟩ := s.raise_shape src sev o d; rw [h]
@[simp] theorem Block.raise_tomo (s : Block) (src sev : Nat) (o : Attr) (d : Nat) : (s.raise src sev o d).tomo = s.tomo := by obtain ⟨g, q, h⟩ := s.raise_shape src sev o d; rw [h]
@[simp] theorem Block.raise_net (s : Block) (src sev : Nat) (o : Attr) (d : Nat) : (s.raise src sev o d).net = s.net := by obtain ⟨g, q, h⟩ := s.raise_shape src sev o d; rw [h]
@[simp] theorem Block.raise_line (s : Block) (src sev : Nat) (o : Attr) (d : Nat) : (s.raise src sev o d).line = s.line := by obtain ⟨g, q, h⟩ := s.raise_shape src sev o d; rw [h]
@[simp] theorem Block.raise_floe (s : Block) (src sev : Nat) (o : Attr) (d : Nat) : (s.raise src sev o d).floe = s.floe := by obtain ⟨g, q, h⟩ := s.raise_shape src sev o d; rw [h]
@[simp] theorem Block.raise_pair (s : Block) (src sev : Nat) (o : Attr) (d : Nat) : (s.raise src sev o d).pair = s.pair := by obtain ⟨g, q, h⟩ := s.raise_shape src sev o d; rw [h]
@[simp] theorem Block.raise_therm (s : Block) (src sev : Nat) (o : Attr) (d : Nat) : (s.raise src sev o d).therm = s.therm := by obtain ⟨g, q, h⟩ := s.raise_shape src sev o d; rw [h]
@[simp] theorem Block.raise_late (s : Block) (src sev : Nat) (o : Attr) (d : Nat) : (s.raise src sev o d).late = s.late := by obtain ⟨g, q, h⟩ := s.raise_shape src sev o d; rw [h]
@[simp] theorem Block.raise_vol (s : Block) (src sev : Nat) (o : Attr) (d : Nat) : (s.raise src sev o d).vol = s.vol := by obtain ⟨g, q, h⟩ := s.raise_shape src sev o d; rw [h]
@[simp] theorem Block.raise_fresh (s : Block) (src sev : Nat) (o : Attr) (d : Nat) : (s.raise src sev o d).fresh = s.fresh := by obtain ⟨g, q, h⟩ := s.raise_shape src sev o d; rw [h]

@[simp] theorem Block.raiseC_tabs (s : Block) (src sev code : Nat) (o : Attr) (d : Nat) : (s.raiseC src sev code o d).tabs = s.tabs := by obtain ⟨g, q, h⟩ := s.raiseC_shape src sev code o d; rw [h]
@[simp] theorem Block.raiseC_phase (s : Block) (src sev code : Nat) (o : Attr) (d : Nat) : (s.raiseC src sev code o d).phase = s.phase := by obtain ⟨g, q, h⟩ := s.raiseC_shape src sev code o d; rw [h]
@[simp] theorem Block.raiseC_clk (s : Block) (src sev code : Nat) (o : Attr) (d : Nat) : (s.raiseC src sev code o d).clk = s.clk := by obtain ⟨g, q, h⟩ := s.raiseC_shape src sev code o d; rw [h]
@[simp] theorem Block.raiseC_time (s : Block) (src sev code : Nat) (o : Attr) (d : Nat) : (s.raiseC src sev code o d).time = s.time := by obtain ⟨g, q, h⟩ := s.raiseC_shape src sev code o d; rw [h]
@[simp] theorem Block.raiseC_supply (s : Block) (src sev code : Nat) (o : Attr) (d : Nat) : (s.raiseC src sev code o d).supply = s.supply := by obtain ⟨g, q, h⟩ := s.raiseC_shape src sev code o d; rw [h]
@[simp] theorem Block.raiseC_key (s : Block) (src sev code : Nat) (o : Attr) (d : Nat) : (s.raiseC src sev code o d).key = s.key := by obtain ⟨g, q, h⟩ := s.raiseC_shape src sev code o d; rw [h]
@[simp] theorem Block.raiseC_mram (s : Block) (src sev code : Nat) (o : Attr) (d : Nat) : (s.raiseC src sev code o d).mram = s.mram := by obtain ⟨g, q, h⟩ := s.raiseC_shape src sev code o d; rw [h]
@[simp] theorem Block.raiseC_img (s : Block) (src sev code : Nat) (o : Attr) (d : Nat) : (s.raiseC src sev code o d).img = s.img := by obtain ⟨g, q, h⟩ := s.raiseC_shape src sev code o d; rw [h]
@[simp] theorem Block.raiseC_stage (s : Block) (src sev code : Nat) (o : Attr) (d : Nat) : (s.raiseC src sev code o d).stage = s.stage := by obtain ⟨g, q, h⟩ := s.raiseC_shape src sev code o d; rw [h]
@[simp] theorem Block.raiseC_rst (s : Block) (src sev code : Nat) (o : Attr) (d : Nat) : (s.raiseC src sev code o d).rst = s.rst := by obtain ⟨g, q, h⟩ := s.raiseC_shape src sev code o d; rw [h]
@[simp] theorem Block.raiseC_mode (s : Block) (src sev code : Nat) (o : Attr) (d : Nat) : (s.raiseC src sev code o d).mode = s.mode := by obtain ⟨g, q, h⟩ := s.raiseC_shape src sev code o d; rw [h]
@[simp] theorem Block.raiseC_ringq (s : Block) (src sev code : Nat) (o : Attr) (d : Nat) : (s.raiseC src sev code o d).ringq = s.ringq := by obtain ⟨g, q, h⟩ := s.raiseC_shape src sev code o d; rw [h]
@[simp] theorem Block.raiseC_firn (s : Block) (src sev code : Nat) (o : Attr) (d : Nat) : (s.raiseC src sev code o d).firn = s.firn := by obtain ⟨g, q, h⟩ := s.raiseC_shape src sev code o d; rw [h]
@[simp] theorem Block.raiseC_host (s : Block) (src sev code : Nat) (o : Attr) (d : Nat) : (s.raiseC src sev code o d).host = s.host := by obtain ⟨g, q, h⟩ := s.raiseC_shape src sev code o d; rw [h]
@[simp] theorem Block.raiseC_dio (s : Block) (src sev code : Nat) (o : Attr) (d : Nat) : (s.raiseC src sev code o d).dio = s.dio := by obtain ⟨g, q, h⟩ := s.raiseC_shape src sev code o d; rw [h]
@[simp] theorem Block.raiseC_valve (s : Block) (src sev code : Nat) (o : Attr) (d : Nat) : (s.raiseC src sev code o d).valve = s.valve := by obtain ⟨g, q, h⟩ := s.raiseC_shape src sev code o d; rw [h]
@[simp] theorem Block.raiseC_fe (s : Block) (src sev code : Nat) (o : Attr) (d : Nat) : (s.raiseC src sev code o d).fe = s.fe := by obtain ⟨g, q, h⟩ := s.raiseC_shape src sev code o d; rw [h]
@[simp] theorem Block.raiseC_enc (s : Block) (src sev code : Nat) (o : Attr) (d : Nat) : (s.raiseC src sev code o d).enc = s.enc := by obtain ⟨g, q, h⟩ := s.raiseC_shape src sev code o d; rw [h]
@[simp] theorem Block.raiseC_axis (s : Block) (src sev code : Nat) (o : Attr) (d : Nat) : (s.raiseC src sev code o d).axis = s.axis := by obtain ⟨g, q, h⟩ := s.raiseC_shape src sev code o d; rw [h]
@[simp] theorem Block.raiseC_remote (s : Block) (src sev code : Nat) (o : Attr) (d : Nat) : (s.raiseC src sev code o d).remote = s.remote := by obtain ⟨g, q, h⟩ := s.raiseC_shape src sev code o d; rw [h]
@[simp] theorem Block.raiseC_serac (s : Block) (src sev code : Nat) (o : Attr) (d : Nat) : (s.raiseC src sev code o d).serac = s.serac := by obtain ⟨g, q, h⟩ := s.raiseC_shape src sev code o d; rw [h]
@[simp] theorem Block.raiseC_echo (s : Block) (src sev code : Nat) (o : Attr) (d : Nat) : (s.raiseC src sev code o d).echo = s.echo := by obtain ⟨g, q, h⟩ := s.raiseC_shape src sev code o d; rw [h]
@[simp] theorem Block.raiseC_tomo (s : Block) (src sev code : Nat) (o : Attr) (d : Nat) : (s.raiseC src sev code o d).tomo = s.tomo := by obtain ⟨g, q, h⟩ := s.raiseC_shape src sev code o d; rw [h]
@[simp] theorem Block.raiseC_net (s : Block) (src sev code : Nat) (o : Attr) (d : Nat) : (s.raiseC src sev code o d).net = s.net := by obtain ⟨g, q, h⟩ := s.raiseC_shape src sev code o d; rw [h]
@[simp] theorem Block.raiseC_line (s : Block) (src sev code : Nat) (o : Attr) (d : Nat) : (s.raiseC src sev code o d).line = s.line := by obtain ⟨g, q, h⟩ := s.raiseC_shape src sev code o d; rw [h]
@[simp] theorem Block.raiseC_floe (s : Block) (src sev code : Nat) (o : Attr) (d : Nat) : (s.raiseC src sev code o d).floe = s.floe := by obtain ⟨g, q, h⟩ := s.raiseC_shape src sev code o d; rw [h]
@[simp] theorem Block.raiseC_pair (s : Block) (src sev code : Nat) (o : Attr) (d : Nat) : (s.raiseC src sev code o d).pair = s.pair := by obtain ⟨g, q, h⟩ := s.raiseC_shape src sev code o d; rw [h]
@[simp] theorem Block.raiseC_therm (s : Block) (src sev code : Nat) (o : Attr) (d : Nat) : (s.raiseC src sev code o d).therm = s.therm := by obtain ⟨g, q, h⟩ := s.raiseC_shape src sev code o d; rw [h]
@[simp] theorem Block.raiseC_late (s : Block) (src sev code : Nat) (o : Attr) (d : Nat) : (s.raiseC src sev code o d).late = s.late := by obtain ⟨g, q, h⟩ := s.raiseC_shape src sev code o d; rw [h]
@[simp] theorem Block.raiseC_vol (s : Block) (src sev code : Nat) (o : Attr) (d : Nat) : (s.raiseC src sev code o d).vol = s.vol := by obtain ⟨g, q, h⟩ := s.raiseC_shape src sev code o d; rw [h]
@[simp] theorem Block.raiseC_fresh (s : Block) (src sev code : Nat) (o : Attr) (d : Nat) : (s.raiseC src sev code o d).fresh = s.fresh := by obtain ⟨g, q, h⟩ := s.raiseC_shape src sev code o d; rw [h]

@[simp] theorem Block.setSess_regs (s : Block) (i : Nat) (x : Sess) : (s.setSess i x).regs = s.regs := rfl
@[simp] theorem Block.setSess_tabs (s : Block) (i : Nat) (x : Sess) : (s.setSess i x).tabs = s.tabs := rfl
@[simp] theorem Block.setSess_phase (s : Block) (i : Nat) (x : Sess) : (s.setSess i x).phase = s.phase := rfl
@[simp] theorem Block.setSess_clk (s : Block) (i : Nat) (x : Sess) : (s.setSess i x).clk = s.clk := rfl
@[simp] theorem Block.setSess_time (s : Block) (i : Nat) (x : Sess) : (s.setSess i x).time = s.time := rfl
@[simp] theorem Block.setSess_supply (s : Block) (i : Nat) (x : Sess) : (s.setSess i x).supply = s.supply := rfl
@[simp] theorem Block.setSess_key (s : Block) (i : Nat) (x : Sess) : (s.setSess i x).key = s.key := rfl
@[simp] theorem Block.setSess_mram (s : Block) (i : Nat) (x : Sess) : (s.setSess i x).mram = s.mram := rfl
@[simp] theorem Block.setSess_img (s : Block) (i : Nat) (x : Sess) : (s.setSess i x).img = s.img := rfl
@[simp] theorem Block.setSess_stage (s : Block) (i : Nat) (x : Sess) : (s.setSess i x).stage = s.stage := rfl
@[simp] theorem Block.setSess_rst (s : Block) (i : Nat) (x : Sess) : (s.setSess i x).rst = s.rst := rfl
@[simp] theorem Block.setSess_mode (s : Block) (i : Nat) (x : Sess) : (s.setSess i x).mode = s.mode := rfl
@[simp] theorem Block.setSess_evq (s : Block) (i : Nat) (x : Sess) : (s.setSess i x).evq = s.evq := rfl
@[simp] theorem Block.setSess_ringq (s : Block) (i : Nat) (x : Sess) : (s.setSess i x).ringq = s.ringq := rfl
@[simp] theorem Block.setSess_firn (s : Block) (i : Nat) (x : Sess) : (s.setSess i x).firn = s.firn := rfl
@[simp] theorem Block.setSess_dio (s : Block) (i : Nat) (x : Sess) : (s.setSess i x).dio = s.dio := rfl
@[simp] theorem Block.setSess_valve (s : Block) (i : Nat) (x : Sess) : (s.setSess i x).valve = s.valve := rfl
@[simp] theorem Block.setSess_fe (s : Block) (i : Nat) (x : Sess) : (s.setSess i x).fe = s.fe := rfl
@[simp] theorem Block.setSess_enc (s : Block) (i : Nat) (x : Sess) : (s.setSess i x).enc = s.enc := rfl
@[simp] theorem Block.setSess_axis (s : Block) (i : Nat) (x : Sess) : (s.setSess i x).axis = s.axis := rfl
@[simp] theorem Block.setSess_remote (s : Block) (i : Nat) (x : Sess) : (s.setSess i x).remote = s.remote := rfl
@[simp] theorem Block.setSess_serac (s : Block) (i : Nat) (x : Sess) : (s.setSess i x).serac = s.serac := rfl
@[simp] theorem Block.setSess_echo (s : Block) (i : Nat) (x : Sess) : (s.setSess i x).echo = s.echo := rfl
@[simp] theorem Block.setSess_tomo (s : Block) (i : Nat) (x : Sess) : (s.setSess i x).tomo = s.tomo := rfl
@[simp] theorem Block.setSess_net (s : Block) (i : Nat) (x : Sess) : (s.setSess i x).net = s.net := rfl
@[simp] theorem Block.setSess_line (s : Block) (i : Nat) (x : Sess) : (s.setSess i x).line = s.line := rfl
@[simp] theorem Block.setSess_floe (s : Block) (i : Nat) (x : Sess) : (s.setSess i x).floe = s.floe := rfl
@[simp] theorem Block.setSess_pair (s : Block) (i : Nat) (x : Sess) : (s.setSess i x).pair = s.pair := rfl
@[simp] theorem Block.setSess_therm (s : Block) (i : Nat) (x : Sess) : (s.setSess i x).therm = s.therm := rfl
@[simp] theorem Block.setSess_late (s : Block) (i : Nat) (x : Sess) : (s.setSess i x).late = s.late := rfl
@[simp] theorem Block.setSess_vol (s : Block) (i : Nat) (x : Sess) : (s.setSess i x).vol = s.vol := rfl
@[simp] theorem Block.setSess_fresh (s : Block) (i : Nat) (x : Sess) : (s.setSess i x).fresh = s.fresh := rfl

@[simp] theorem Block.send_regs (s : Block) (m : HostMsg) : (s.send m).regs = s.regs := rfl
@[simp] theorem Block.send_tabs (s : Block) (m : HostMsg) : (s.send m).tabs = s.tabs := rfl
@[simp] theorem Block.send_phase (s : Block) (m : HostMsg) : (s.send m).phase = s.phase := rfl
@[simp] theorem Block.send_clk (s : Block) (m : HostMsg) : (s.send m).clk = s.clk := rfl
@[simp] theorem Block.send_time (s : Block) (m : HostMsg) : (s.send m).time = s.time := rfl
@[simp] theorem Block.send_supply (s : Block) (m : HostMsg) : (s.send m).supply = s.supply := rfl
@[simp] theorem Block.send_key (s : Block) (m : HostMsg) : (s.send m).key = s.key := rfl
@[simp] theorem Block.send_mram (s : Block) (m : HostMsg) : (s.send m).mram = s.mram := rfl
@[simp] theorem Block.send_img (s : Block) (m : HostMsg) : (s.send m).img = s.img := rfl
@[simp] theorem Block.send_stage (s : Block) (m : HostMsg) : (s.send m).stage = s.stage := rfl
@[simp] theorem Block.send_rst (s : Block) (m : HostMsg) : (s.send m).rst = s.rst := rfl
@[simp] theorem Block.send_mode (s : Block) (m : HostMsg) : (s.send m).mode = s.mode := rfl
@[simp] theorem Block.send_evq (s : Block) (m : HostMsg) : (s.send m).evq = s.evq := rfl
@[simp] theorem Block.send_ringq (s : Block) (m : HostMsg) : (s.send m).ringq = s.ringq := rfl
@[simp] theorem Block.send_firn (s : Block) (m : HostMsg) : (s.send m).firn = s.firn := rfl
@[simp] theorem Block.send_dio (s : Block) (m : HostMsg) : (s.send m).dio = s.dio := rfl
@[simp] theorem Block.send_valve (s : Block) (m : HostMsg) : (s.send m).valve = s.valve := rfl
@[simp] theorem Block.send_fe (s : Block) (m : HostMsg) : (s.send m).fe = s.fe := rfl
@[simp] theorem Block.send_enc (s : Block) (m : HostMsg) : (s.send m).enc = s.enc := rfl
@[simp] theorem Block.send_axis (s : Block) (m : HostMsg) : (s.send m).axis = s.axis := rfl
@[simp] theorem Block.send_remote (s : Block) (m : HostMsg) : (s.send m).remote = s.remote := rfl
@[simp] theorem Block.send_serac (s : Block) (m : HostMsg) : (s.send m).serac = s.serac := rfl
@[simp] theorem Block.send_echo (s : Block) (m : HostMsg) : (s.send m).echo = s.echo := rfl
@[simp] theorem Block.send_tomo (s : Block) (m : HostMsg) : (s.send m).tomo = s.tomo := rfl
@[simp] theorem Block.send_net (s : Block) (m : HostMsg) : (s.send m).net = s.net := rfl
@[simp] theorem Block.send_line (s : Block) (m : HostMsg) : (s.send m).line = s.line := rfl
@[simp] theorem Block.send_floe (s : Block) (m : HostMsg) : (s.send m).floe = s.floe := rfl
@[simp] theorem Block.send_pair (s : Block) (m : HostMsg) : (s.send m).pair = s.pair := rfl
@[simp] theorem Block.send_therm (s : Block) (m : HostMsg) : (s.send m).therm = s.therm := rfl
@[simp] theorem Block.send_late (s : Block) (m : HostMsg) : (s.send m).late = s.late := rfl
@[simp] theorem Block.send_vol (s : Block) (m : HostMsg) : (s.send m).vol = s.vol := rfl
@[simp] theorem Block.send_fresh (s : Block) (m : HostMsg) : (s.send m).fresh = s.fresh := rfl

@[simp] theorem Block.emit_regs (s : Block) (m : NetMsg) : (s.emit m).regs = s.regs := rfl
@[simp] theorem Block.emit_tabs (s : Block) (m : NetMsg) : (s.emit m).tabs = s.tabs := rfl
@[simp] theorem Block.emit_phase (s : Block) (m : NetMsg) : (s.emit m).phase = s.phase := rfl
@[simp] theorem Block.emit_clk (s : Block) (m : NetMsg) : (s.emit m).clk = s.clk := rfl
@[simp] theorem Block.emit_time (s : Block) (m : NetMsg) : (s.emit m).time = s.time := rfl
@[simp] theorem Block.emit_supply (s : Block) (m : NetMsg) : (s.emit m).supply = s.supply := rfl
@[simp] theorem Block.emit_key (s : Block) (m : NetMsg) : (s.emit m).key = s.key := rfl
@[simp] theorem Block.emit_mram (s : Block) (m : NetMsg) : (s.emit m).mram = s.mram := rfl
@[simp] theorem Block.emit_img (s : Block) (m : NetMsg) : (s.emit m).img = s.img := rfl
@[simp] theorem Block.emit_stage (s : Block) (m : NetMsg) : (s.emit m).stage = s.stage := rfl
@[simp] theorem Block.emit_rst (s : Block) (m : NetMsg) : (s.emit m).rst = s.rst := rfl
@[simp] theorem Block.emit_mode (s : Block) (m : NetMsg) : (s.emit m).mode = s.mode := rfl
@[simp] theorem Block.emit_evq (s : Block) (m : NetMsg) : (s.emit m).evq = s.evq := rfl
@[simp] theorem Block.emit_ringq (s : Block) (m : NetMsg) : (s.emit m).ringq = s.ringq := rfl
@[simp] theorem Block.emit_firn (s : Block) (m : NetMsg) : (s.emit m).firn = s.firn := rfl
@[simp] theorem Block.emit_host (s : Block) (m : NetMsg) : (s.emit m).host = s.host := rfl
@[simp] theorem Block.emit_dio (s : Block) (m : NetMsg) : (s.emit m).dio = s.dio := rfl
@[simp] theorem Block.emit_valve (s : Block) (m : NetMsg) : (s.emit m).valve = s.valve := rfl
@[simp] theorem Block.emit_fe (s : Block) (m : NetMsg) : (s.emit m).fe = s.fe := rfl
@[simp] theorem Block.emit_enc (s : Block) (m : NetMsg) : (s.emit m).enc = s.enc := rfl
@[simp] theorem Block.emit_axis (s : Block) (m : NetMsg) : (s.emit m).axis = s.axis := rfl
@[simp] theorem Block.emit_remote (s : Block) (m : NetMsg) : (s.emit m).remote = s.remote := rfl
@[simp] theorem Block.emit_serac (s : Block) (m : NetMsg) : (s.emit m).serac = s.serac := rfl
@[simp] theorem Block.emit_echo (s : Block) (m : NetMsg) : (s.emit m).echo = s.echo := rfl
@[simp] theorem Block.emit_tomo (s : Block) (m : NetMsg) : (s.emit m).tomo = s.tomo := rfl
@[simp] theorem Block.emit_line (s : Block) (m : NetMsg) : (s.emit m).line = s.line := rfl
@[simp] theorem Block.emit_floe (s : Block) (m : NetMsg) : (s.emit m).floe = s.floe := rfl
@[simp] theorem Block.emit_pair (s : Block) (m : NetMsg) : (s.emit m).pair = s.pair := rfl
@[simp] theorem Block.emit_therm (s : Block) (m : NetMsg) : (s.emit m).therm = s.therm := rfl
@[simp] theorem Block.emit_late (s : Block) (m : NetMsg) : (s.emit m).late = s.late := rfl
@[simp] theorem Block.emit_vol (s : Block) (m : NetMsg) : (s.emit m).vol = s.vol := rfl
@[simp] theorem Block.emit_fresh (s : Block) (m : NetMsg) : (s.emit m).fresh = s.fresh := rfl

@[simp] theorem Block.auditRefused_tabs (s : Block) (o c h : Nat) : (s.auditRefused o c h).tabs = s.tabs := by obtain ⟨g, q, h⟩ := s.auditRefused_shape o c h; rw [h]
@[simp] theorem Block.auditRefused_phase (s : Block) (o c h : Nat) : (s.auditRefused o c h).phase = s.phase := by obtain ⟨g, q, h⟩ := s.auditRefused_shape o c h; rw [h]
@[simp] theorem Block.auditRefused_clk (s : Block) (o c h : Nat) : (s.auditRefused o c h).clk = s.clk := by obtain ⟨g, q, h⟩ := s.auditRefused_shape o c h; rw [h]
@[simp] theorem Block.auditRefused_time (s : Block) (o c h : Nat) : (s.auditRefused o c h).time = s.time := by obtain ⟨g, q, h⟩ := s.auditRefused_shape o c h; rw [h]
@[simp] theorem Block.auditRefused_supply (s : Block) (o c h : Nat) : (s.auditRefused o c h).supply = s.supply := by obtain ⟨g, q, h⟩ := s.auditRefused_shape o c h; rw [h]
@[simp] theorem Block.auditRefused_key (s : Block) (o c h : Nat) : (s.auditRefused o c h).key = s.key := by obtain ⟨g, q, h⟩ := s.auditRefused_shape o c h; rw [h]
@[simp] theorem Block.auditRefused_mram (s : Block) (o c h : Nat) : (s.auditRefused o c h).mram = s.mram := by obtain ⟨g, q, h⟩ := s.auditRefused_shape o c h; rw [h]
@[simp] theorem Block.auditRefused_img (s : Block) (o c h : Nat) : (s.auditRefused o c h).img = s.img := by obtain ⟨g, q, h⟩ := s.auditRefused_shape o c h; rw [h]
@[simp] theorem Block.auditRefused_stage (s : Block) (o c h : Nat) : (s.auditRefused o c h).stage = s.stage := by obtain ⟨g, q, h⟩ := s.auditRefused_shape o c h; rw [h]
@[simp] theorem Block.auditRefused_rst (s : Block) (o c h : Nat) : (s.auditRefused o c h).rst = s.rst := by obtain ⟨g, q, h⟩ := s.auditRefused_shape o c h; rw [h]
@[simp] theorem Block.auditRefused_mode (s : Block) (o c h : Nat) : (s.auditRefused o c h).mode = s.mode := by obtain ⟨g, q, h⟩ := s.auditRefused_shape o c h; rw [h]
@[simp] theorem Block.auditRefused_ringq (s : Block) (o c h : Nat) : (s.auditRefused o c h).ringq = s.ringq := by obtain ⟨g, q, h⟩ := s.auditRefused_shape o c h; rw [h]
@[simp] theorem Block.auditRefused_firn (s : Block) (o c h : Nat) : (s.auditRefused o c h).firn = s.firn := by obtain ⟨g, q, h⟩ := s.auditRefused_shape o c h; rw [h]
@[simp] theorem Block.auditRefused_host (s : Block) (o c h : Nat) : (s.auditRefused o c h).host = s.host := by obtain ⟨g, q, h⟩ := s.auditRefused_shape o c h; rw [h]
@[simp] theorem Block.auditRefused_dio (s : Block) (o c h : Nat) : (s.auditRefused o c h).dio = s.dio := by obtain ⟨g, q, h⟩ := s.auditRefused_shape o c h; rw [h]
@[simp] theorem Block.auditRefused_valve (s : Block) (o c h : Nat) : (s.auditRefused o c h).valve = s.valve := by obtain ⟨g, q, h⟩ := s.auditRefused_shape o c h; rw [h]
@[simp] theorem Block.auditRefused_fe (s : Block) (o c h : Nat) : (s.auditRefused o c h).fe = s.fe := by obtain ⟨g, q, h⟩ := s.auditRefused_shape o c h; rw [h]
@[simp] theorem Block.auditRefused_enc (s : Block) (o c h : Nat) : (s.auditRefused o c h).enc = s.enc := by obtain ⟨g, q, h⟩ := s.auditRefused_shape o c h; rw [h]
@[simp] theorem Block.auditRefused_axis (s : Block) (o c h : Nat) : (s.auditRefused o c h).axis = s.axis := by obtain ⟨g, q, h⟩ := s.auditRefused_shape o c h; rw [h]
@[simp] theorem Block.auditRefused_remote (s : Block) (o c h : Nat) : (s.auditRefused o c h).remote = s.remote := by obtain ⟨g, q, h⟩ := s.auditRefused_shape o c h; rw [h]
@[simp] theorem Block.auditRefused_serac (s : Block) (o c h : Nat) : (s.auditRefused o c h).serac = s.serac := by obtain ⟨g, q, h⟩ := s.auditRefused_shape o c h; rw [h]
@[simp] theorem Block.auditRefused_echo (s : Block) (o c h : Nat) : (s.auditRefused o c h).echo = s.echo := by obtain ⟨g, q, h⟩ := s.auditRefused_shape o c h; rw [h]
@[simp] theorem Block.auditRefused_tomo (s : Block) (o c h : Nat) : (s.auditRefused o c h).tomo = s.tomo := by obtain ⟨g, q, h⟩ := s.auditRefused_shape o c h; rw [h]
@[simp] theorem Block.auditRefused_net (s : Block) (o c h : Nat) : (s.auditRefused o c h).net = s.net := by obtain ⟨g, q, h⟩ := s.auditRefused_shape o c h; rw [h]
@[simp] theorem Block.auditRefused_line (s : Block) (o c h : Nat) : (s.auditRefused o c h).line = s.line := by obtain ⟨g, q, h⟩ := s.auditRefused_shape o c h; rw [h]
@[simp] theorem Block.auditRefused_floe (s : Block) (o c h : Nat) : (s.auditRefused o c h).floe = s.floe := by obtain ⟨g, q, h⟩ := s.auditRefused_shape o c h; rw [h]
@[simp] theorem Block.auditRefused_pair (s : Block) (o c h : Nat) : (s.auditRefused o c h).pair = s.pair := by obtain ⟨g, q, h⟩ := s.auditRefused_shape o c h; rw [h]
@[simp] theorem Block.auditRefused_therm (s : Block) (o c h : Nat) : (s.auditRefused o c h).therm = s.therm := by obtain ⟨g, q, h⟩ := s.auditRefused_shape o c h; rw [h]
@[simp] theorem Block.auditRefused_late (s : Block) (o c h : Nat) : (s.auditRefused o c h).late = s.late := by obtain ⟨g, q, h⟩ := s.auditRefused_shape o c h; rw [h]
@[simp] theorem Block.auditRefused_vol (s : Block) (o c h : Nat) : (s.auditRefused o c h).vol = s.vol := by obtain ⟨g, q, h⟩ := s.auditRefused_shape o c h; rw [h]
@[simp] theorem Block.auditRefused_fresh (s : Block) (o c h : Nat) : (s.auditRefused o c h).fresh = s.fresh := by obtain ⟨g, q, h⟩ := s.auditRefused_shape o c h; rw [h]

@[simp] theorem Block.auditWrite_tabs (s : Block) (o h : Nat) : (s.auditWrite o h).tabs = s.tabs := by obtain ⟨g, q, h⟩ := s.auditWrite_shape o h; rw [h]
@[simp] theorem Block.auditWrite_phase (s : Block) (o h : Nat) : (s.auditWrite o h).phase = s.phase := by obtain ⟨g, q, h⟩ := s.auditWrite_shape o h; rw [h]
@[simp] theorem Block.auditWrite_clk (s : Block) (o h : Nat) : (s.auditWrite o h).clk = s.clk := by obtain ⟨g, q, h⟩ := s.auditWrite_shape o h; rw [h]
@[simp] theorem Block.auditWrite_time (s : Block) (o h : Nat) : (s.auditWrite o h).time = s.time := by obtain ⟨g, q, h⟩ := s.auditWrite_shape o h; rw [h]
@[simp] theorem Block.auditWrite_supply (s : Block) (o h : Nat) : (s.auditWrite o h).supply = s.supply := by obtain ⟨g, q, h⟩ := s.auditWrite_shape o h; rw [h]
@[simp] theorem Block.auditWrite_key (s : Block) (o h : Nat) : (s.auditWrite o h).key = s.key := by obtain ⟨g, q, h⟩ := s.auditWrite_shape o h; rw [h]
@[simp] theorem Block.auditWrite_mram (s : Block) (o h : Nat) : (s.auditWrite o h).mram = s.mram := by obtain ⟨g, q, h⟩ := s.auditWrite_shape o h; rw [h]
@[simp] theorem Block.auditWrite_img (s : Block) (o h : Nat) : (s.auditWrite o h).img = s.img := by obtain ⟨g, q, h⟩ := s.auditWrite_shape o h; rw [h]
@[simp] theorem Block.auditWrite_stage (s : Block) (o h : Nat) : (s.auditWrite o h).stage = s.stage := by obtain ⟨g, q, h⟩ := s.auditWrite_shape o h; rw [h]
@[simp] theorem Block.auditWrite_rst (s : Block) (o h : Nat) : (s.auditWrite o h).rst = s.rst := by obtain ⟨g, q, h⟩ := s.auditWrite_shape o h; rw [h]
@[simp] theorem Block.auditWrite_mode (s : Block) (o h : Nat) : (s.auditWrite o h).mode = s.mode := by obtain ⟨g, q, h⟩ := s.auditWrite_shape o h; rw [h]
@[simp] theorem Block.auditWrite_ringq (s : Block) (o h : Nat) : (s.auditWrite o h).ringq = s.ringq := by obtain ⟨g, q, h⟩ := s.auditWrite_shape o h; rw [h]
@[simp] theorem Block.auditWrite_firn (s : Block) (o h : Nat) : (s.auditWrite o h).firn = s.firn := by obtain ⟨g, q, h⟩ := s.auditWrite_shape o h; rw [h]
@[simp] theorem Block.auditWrite_host (s : Block) (o h : Nat) : (s.auditWrite o h).host = s.host := by obtain ⟨g, q, h⟩ := s.auditWrite_shape o h; rw [h]
@[simp] theorem Block.auditWrite_dio (s : Block) (o h : Nat) : (s.auditWrite o h).dio = s.dio := by obtain ⟨g, q, h⟩ := s.auditWrite_shape o h; rw [h]
@[simp] theorem Block.auditWrite_valve (s : Block) (o h : Nat) : (s.auditWrite o h).valve = s.valve := by obtain ⟨g, q, h⟩ := s.auditWrite_shape o h; rw [h]
@[simp] theorem Block.auditWrite_fe (s : Block) (o h : Nat) : (s.auditWrite o h).fe = s.fe := by obtain ⟨g, q, h⟩ := s.auditWrite_shape o h; rw [h]
@[simp] theorem Block.auditWrite_enc (s : Block) (o h : Nat) : (s.auditWrite o h).enc = s.enc := by obtain ⟨g, q, h⟩ := s.auditWrite_shape o h; rw [h]
@[simp] theorem Block.auditWrite_axis (s : Block) (o h : Nat) : (s.auditWrite o h).axis = s.axis := by obtain ⟨g, q, h⟩ := s.auditWrite_shape o h; rw [h]
@[simp] theorem Block.auditWrite_remote (s : Block) (o h : Nat) : (s.auditWrite o h).remote = s.remote := by obtain ⟨g, q, h⟩ := s.auditWrite_shape o h; rw [h]
@[simp] theorem Block.auditWrite_serac (s : Block) (o h : Nat) : (s.auditWrite o h).serac = s.serac := by obtain ⟨g, q, h⟩ := s.auditWrite_shape o h; rw [h]
@[simp] theorem Block.auditWrite_echo (s : Block) (o h : Nat) : (s.auditWrite o h).echo = s.echo := by obtain ⟨g, q, h⟩ := s.auditWrite_shape o h; rw [h]
@[simp] theorem Block.auditWrite_tomo (s : Block) (o h : Nat) : (s.auditWrite o h).tomo = s.tomo := by obtain ⟨g, q, h⟩ := s.auditWrite_shape o h; rw [h]
@[simp] theorem Block.auditWrite_net (s : Block) (o h : Nat) : (s.auditWrite o h).net = s.net := by obtain ⟨g, q, h⟩ := s.auditWrite_shape o h; rw [h]
@[simp] theorem Block.auditWrite_line (s : Block) (o h : Nat) : (s.auditWrite o h).line = s.line := by obtain ⟨g, q, h⟩ := s.auditWrite_shape o h; rw [h]
@[simp] theorem Block.auditWrite_floe (s : Block) (o h : Nat) : (s.auditWrite o h).floe = s.floe := by obtain ⟨g, q, h⟩ := s.auditWrite_shape o h; rw [h]
@[simp] theorem Block.auditWrite_pair (s : Block) (o h : Nat) : (s.auditWrite o h).pair = s.pair := by obtain ⟨g, q, h⟩ := s.auditWrite_shape o h; rw [h]
@[simp] theorem Block.auditWrite_therm (s : Block) (o h : Nat) : (s.auditWrite o h).therm = s.therm := by obtain ⟨g, q, h⟩ := s.auditWrite_shape o h; rw [h]
@[simp] theorem Block.auditWrite_late (s : Block) (o h : Nat) : (s.auditWrite o h).late = s.late := by obtain ⟨g, q, h⟩ := s.auditWrite_shape o h; rw [h]
@[simp] theorem Block.auditWrite_vol (s : Block) (o h : Nat) : (s.auditWrite o h).vol = s.vol := by obtain ⟨g, q, h⟩ := s.auditWrite_shape o h; rw [h]
@[simp] theorem Block.auditWrite_fresh (s : Block) (o h : Nat) : (s.auditWrite o h).fresh = s.fresh := by obtain ⟨g, q, h⟩ := s.auditWrite_shape o h; rw [h]

@[simp] theorem Block.refuseCmd_tabs (s : Block) (i : Nat) (a : Attr) (c : Nat) : (s.refuseCmd i a c).tabs = s.tabs := by obtain ⟨g, q, p, h⟩ := s.refuseCmd_shape i a c; rw [h]
@[simp] theorem Block.refuseCmd_phase (s : Block) (i : Nat) (a : Attr) (c : Nat) : (s.refuseCmd i a c).phase = s.phase := by obtain ⟨g, q, p, h⟩ := s.refuseCmd_shape i a c; rw [h]
@[simp] theorem Block.refuseCmd_clk (s : Block) (i : Nat) (a : Attr) (c : Nat) : (s.refuseCmd i a c).clk = s.clk := by obtain ⟨g, q, p, h⟩ := s.refuseCmd_shape i a c; rw [h]
@[simp] theorem Block.refuseCmd_time (s : Block) (i : Nat) (a : Attr) (c : Nat) : (s.refuseCmd i a c).time = s.time := by obtain ⟨g, q, p, h⟩ := s.refuseCmd_shape i a c; rw [h]
@[simp] theorem Block.refuseCmd_supply (s : Block) (i : Nat) (a : Attr) (c : Nat) : (s.refuseCmd i a c).supply = s.supply := by obtain ⟨g, q, p, h⟩ := s.refuseCmd_shape i a c; rw [h]
@[simp] theorem Block.refuseCmd_key (s : Block) (i : Nat) (a : Attr) (c : Nat) : (s.refuseCmd i a c).key = s.key := by obtain ⟨g, q, p, h⟩ := s.refuseCmd_shape i a c; rw [h]
@[simp] theorem Block.refuseCmd_mram (s : Block) (i : Nat) (a : Attr) (c : Nat) : (s.refuseCmd i a c).mram = s.mram := by obtain ⟨g, q, p, h⟩ := s.refuseCmd_shape i a c; rw [h]
@[simp] theorem Block.refuseCmd_img (s : Block) (i : Nat) (a : Attr) (c : Nat) : (s.refuseCmd i a c).img = s.img := by obtain ⟨g, q, p, h⟩ := s.refuseCmd_shape i a c; rw [h]
@[simp] theorem Block.refuseCmd_stage (s : Block) (i : Nat) (a : Attr) (c : Nat) : (s.refuseCmd i a c).stage = s.stage := by obtain ⟨g, q, p, h⟩ := s.refuseCmd_shape i a c; rw [h]
@[simp] theorem Block.refuseCmd_rst (s : Block) (i : Nat) (a : Attr) (c : Nat) : (s.refuseCmd i a c).rst = s.rst := by obtain ⟨g, q, p, h⟩ := s.refuseCmd_shape i a c; rw [h]
@[simp] theorem Block.refuseCmd_mode (s : Block) (i : Nat) (a : Attr) (c : Nat) : (s.refuseCmd i a c).mode = s.mode := by obtain ⟨g, q, p, h⟩ := s.refuseCmd_shape i a c; rw [h]
@[simp] theorem Block.refuseCmd_ringq (s : Block) (i : Nat) (a : Attr) (c : Nat) : (s.refuseCmd i a c).ringq = s.ringq := by obtain ⟨g, q, p, h⟩ := s.refuseCmd_shape i a c; rw [h]
@[simp] theorem Block.refuseCmd_firn (s : Block) (i : Nat) (a : Attr) (c : Nat) : (s.refuseCmd i a c).firn = s.firn := by obtain ⟨g, q, p, h⟩ := s.refuseCmd_shape i a c; rw [h]
@[simp] theorem Block.refuseCmd_dio (s : Block) (i : Nat) (a : Attr) (c : Nat) : (s.refuseCmd i a c).dio = s.dio := by obtain ⟨g, q, p, h⟩ := s.refuseCmd_shape i a c; rw [h]
@[simp] theorem Block.refuseCmd_valve (s : Block) (i : Nat) (a : Attr) (c : Nat) : (s.refuseCmd i a c).valve = s.valve := by obtain ⟨g, q, p, h⟩ := s.refuseCmd_shape i a c; rw [h]
@[simp] theorem Block.refuseCmd_fe (s : Block) (i : Nat) (a : Attr) (c : Nat) : (s.refuseCmd i a c).fe = s.fe := by obtain ⟨g, q, p, h⟩ := s.refuseCmd_shape i a c; rw [h]
@[simp] theorem Block.refuseCmd_enc (s : Block) (i : Nat) (a : Attr) (c : Nat) : (s.refuseCmd i a c).enc = s.enc := by obtain ⟨g, q, p, h⟩ := s.refuseCmd_shape i a c; rw [h]
@[simp] theorem Block.refuseCmd_axis (s : Block) (i : Nat) (a : Attr) (c : Nat) : (s.refuseCmd i a c).axis = s.axis := by obtain ⟨g, q, p, h⟩ := s.refuseCmd_shape i a c; rw [h]
@[simp] theorem Block.refuseCmd_remote (s : Block) (i : Nat) (a : Attr) (c : Nat) : (s.refuseCmd i a c).remote = s.remote := by obtain ⟨g, q, p, h⟩ := s.refuseCmd_shape i a c; rw [h]
@[simp] theorem Block.refuseCmd_serac (s : Block) (i : Nat) (a : Attr) (c : Nat) : (s.refuseCmd i a c).serac = s.serac := by obtain ⟨g, q, p, h⟩ := s.refuseCmd_shape i a c; rw [h]
@[simp] theorem Block.refuseCmd_echo (s : Block) (i : Nat) (a : Attr) (c : Nat) : (s.refuseCmd i a c).echo = s.echo := by obtain ⟨g, q, p, h⟩ := s.refuseCmd_shape i a c; rw [h]
@[simp] theorem Block.refuseCmd_tomo (s : Block) (i : Nat) (a : Attr) (c : Nat) : (s.refuseCmd i a c).tomo = s.tomo := by obtain ⟨g, q, p, h⟩ := s.refuseCmd_shape i a c; rw [h]
@[simp] theorem Block.refuseCmd_net (s : Block) (i : Nat) (a : Attr) (c : Nat) : (s.refuseCmd i a c).net = s.net := by obtain ⟨g, q, p, h⟩ := s.refuseCmd_shape i a c; rw [h]
@[simp] theorem Block.refuseCmd_line (s : Block) (i : Nat) (a : Attr) (c : Nat) : (s.refuseCmd i a c).line = s.line := by obtain ⟨g, q, p, h⟩ := s.refuseCmd_shape i a c; rw [h]
@[simp] theorem Block.refuseCmd_floe (s : Block) (i : Nat) (a : Attr) (c : Nat) : (s.refuseCmd i a c).floe = s.floe := by obtain ⟨g, q, p, h⟩ := s.refuseCmd_shape i a c; rw [h]
@[simp] theorem Block.refuseCmd_pair (s : Block) (i : Nat) (a : Attr) (c : Nat) : (s.refuseCmd i a c).pair = s.pair := by obtain ⟨g, q, p, h⟩ := s.refuseCmd_shape i a c; rw [h]
@[simp] theorem Block.refuseCmd_therm (s : Block) (i : Nat) (a : Attr) (c : Nat) : (s.refuseCmd i a c).therm = s.therm := by obtain ⟨g, q, p, h⟩ := s.refuseCmd_shape i a c; rw [h]
@[simp] theorem Block.refuseCmd_late (s : Block) (i : Nat) (a : Attr) (c : Nat) : (s.refuseCmd i a c).late = s.late := by obtain ⟨g, q, p, h⟩ := s.refuseCmd_shape i a c; rw [h]
@[simp] theorem Block.refuseCmd_vol (s : Block) (i : Nat) (a : Attr) (c : Nat) : (s.refuseCmd i a c).vol = s.vol := by obtain ⟨g, q, p, h⟩ := s.refuseCmd_shape i a c; rw [h]
@[simp] theorem Block.refuseCmd_fresh (s : Block) (i : Nat) (a : Attr) (c : Nat) : (s.refuseCmd i a c).fresh = s.fresh := by obtain ⟨g, q, p, h⟩ := s.refuseCmd_shape i a c; rw [h]

@[simp] theorem Block.acceptCmd_tabs (s : Block) (i : Nat) (a : Attr) : (s.acceptCmd i a).tabs = s.tabs := by obtain ⟨g, q, p, h⟩ := s.acceptCmd_shape i a; rw [h]
@[simp] theorem Block.acceptCmd_phase (s : Block) (i : Nat) (a : Attr) : (s.acceptCmd i a).phase = s.phase := by obtain ⟨g, q, p, h⟩ := s.acceptCmd_shape i a; rw [h]
@[simp] theorem Block.acceptCmd_clk (s : Block) (i : Nat) (a : Attr) : (s.acceptCmd i a).clk = s.clk := by obtain ⟨g, q, p, h⟩ := s.acceptCmd_shape i a; rw [h]
@[simp] theorem Block.acceptCmd_time (s : Block) (i : Nat) (a : Attr) : (s.acceptCmd i a).time = s.time := by obtain ⟨g, q, p, h⟩ := s.acceptCmd_shape i a; rw [h]
@[simp] theorem Block.acceptCmd_supply (s : Block) (i : Nat) (a : Attr) : (s.acceptCmd i a).supply = s.supply := by obtain ⟨g, q, p, h⟩ := s.acceptCmd_shape i a; rw [h]
@[simp] theorem Block.acceptCmd_key (s : Block) (i : Nat) (a : Attr) : (s.acceptCmd i a).key = s.key := by obtain ⟨g, q, p, h⟩ := s.acceptCmd_shape i a; rw [h]
@[simp] theorem Block.acceptCmd_mram (s : Block) (i : Nat) (a : Attr) : (s.acceptCmd i a).mram = s.mram := by obtain ⟨g, q, p, h⟩ := s.acceptCmd_shape i a; rw [h]
@[simp] theorem Block.acceptCmd_img (s : Block) (i : Nat) (a : Attr) : (s.acceptCmd i a).img = s.img := by obtain ⟨g, q, p, h⟩ := s.acceptCmd_shape i a; rw [h]
@[simp] theorem Block.acceptCmd_stage (s : Block) (i : Nat) (a : Attr) : (s.acceptCmd i a).stage = s.stage := by obtain ⟨g, q, p, h⟩ := s.acceptCmd_shape i a; rw [h]
@[simp] theorem Block.acceptCmd_rst (s : Block) (i : Nat) (a : Attr) : (s.acceptCmd i a).rst = s.rst := by obtain ⟨g, q, p, h⟩ := s.acceptCmd_shape i a; rw [h]
@[simp] theorem Block.acceptCmd_mode (s : Block) (i : Nat) (a : Attr) : (s.acceptCmd i a).mode = s.mode := by obtain ⟨g, q, p, h⟩ := s.acceptCmd_shape i a; rw [h]
@[simp] theorem Block.acceptCmd_ringq (s : Block) (i : Nat) (a : Attr) : (s.acceptCmd i a).ringq = s.ringq := by obtain ⟨g, q, p, h⟩ := s.acceptCmd_shape i a; rw [h]
@[simp] theorem Block.acceptCmd_firn (s : Block) (i : Nat) (a : Attr) : (s.acceptCmd i a).firn = s.firn := by obtain ⟨g, q, p, h⟩ := s.acceptCmd_shape i a; rw [h]
@[simp] theorem Block.acceptCmd_dio (s : Block) (i : Nat) (a : Attr) : (s.acceptCmd i a).dio = s.dio := by obtain ⟨g, q, p, h⟩ := s.acceptCmd_shape i a; rw [h]
@[simp] theorem Block.acceptCmd_valve (s : Block) (i : Nat) (a : Attr) : (s.acceptCmd i a).valve = s.valve := by obtain ⟨g, q, p, h⟩ := s.acceptCmd_shape i a; rw [h]
@[simp] theorem Block.acceptCmd_fe (s : Block) (i : Nat) (a : Attr) : (s.acceptCmd i a).fe = s.fe := by obtain ⟨g, q, p, h⟩ := s.acceptCmd_shape i a; rw [h]
@[simp] theorem Block.acceptCmd_enc (s : Block) (i : Nat) (a : Attr) : (s.acceptCmd i a).enc = s.enc := by obtain ⟨g, q, p, h⟩ := s.acceptCmd_shape i a; rw [h]
@[simp] theorem Block.acceptCmd_axis (s : Block) (i : Nat) (a : Attr) : (s.acceptCmd i a).axis = s.axis := by obtain ⟨g, q, p, h⟩ := s.acceptCmd_shape i a; rw [h]
@[simp] theorem Block.acceptCmd_remote (s : Block) (i : Nat) (a : Attr) : (s.acceptCmd i a).remote = s.remote := by obtain ⟨g, q, p, h⟩ := s.acceptCmd_shape i a; rw [h]
@[simp] theorem Block.acceptCmd_serac (s : Block) (i : Nat) (a : Attr) : (s.acceptCmd i a).serac = s.serac := by obtain ⟨g, q, p, h⟩ := s.acceptCmd_shape i a; rw [h]
@[simp] theorem Block.acceptCmd_echo (s : Block) (i : Nat) (a : Attr) : (s.acceptCmd i a).echo = s.echo := by obtain ⟨g, q, p, h⟩ := s.acceptCmd_shape i a; rw [h]
@[simp] theorem Block.acceptCmd_tomo (s : Block) (i : Nat) (a : Attr) : (s.acceptCmd i a).tomo = s.tomo := by obtain ⟨g, q, p, h⟩ := s.acceptCmd_shape i a; rw [h]
@[simp] theorem Block.acceptCmd_net (s : Block) (i : Nat) (a : Attr) : (s.acceptCmd i a).net = s.net := by obtain ⟨g, q, p, h⟩ := s.acceptCmd_shape i a; rw [h]
@[simp] theorem Block.acceptCmd_line (s : Block) (i : Nat) (a : Attr) : (s.acceptCmd i a).line = s.line := by obtain ⟨g, q, p, h⟩ := s.acceptCmd_shape i a; rw [h]
@[simp] theorem Block.acceptCmd_floe (s : Block) (i : Nat) (a : Attr) : (s.acceptCmd i a).floe = s.floe := by obtain ⟨g, q, p, h⟩ := s.acceptCmd_shape i a; rw [h]
@[simp] theorem Block.acceptCmd_pair (s : Block) (i : Nat) (a : Attr) : (s.acceptCmd i a).pair = s.pair := by obtain ⟨g, q, p, h⟩ := s.acceptCmd_shape i a; rw [h]
@[simp] theorem Block.acceptCmd_therm (s : Block) (i : Nat) (a : Attr) : (s.acceptCmd i a).therm = s.therm := by obtain ⟨g, q, p, h⟩ := s.acceptCmd_shape i a; rw [h]
@[simp] theorem Block.acceptCmd_late (s : Block) (i : Nat) (a : Attr) : (s.acceptCmd i a).late = s.late := by obtain ⟨g, q, p, h⟩ := s.acceptCmd_shape i a; rw [h]
@[simp] theorem Block.acceptCmd_vol (s : Block) (i : Nat) (a : Attr) : (s.acceptCmd i a).vol = s.vol := by obtain ⟨g, q, p, h⟩ := s.acceptCmd_shape i a; rw [h]
@[simp] theorem Block.acceptCmd_fresh (s : Block) (i : Nat) (a : Attr) : (s.acceptCmd i a).fresh = s.fresh := by obtain ⟨g, q, p, h⟩ := s.acceptCmd_shape i a; rw [h]

@[simp] theorem Block.markVol_regs (s : Block) (a : Attr) : (s.markVol a).regs = s.regs := by unfold Block.markVol; split <;> rfl
@[simp] theorem Block.markVol_tabs (s : Block) (a : Attr) : (s.markVol a).tabs = s.tabs := by unfold Block.markVol; split <;> rfl
@[simp] theorem Block.markVol_phase (s : Block) (a : Attr) : (s.markVol a).phase = s.phase := by unfold Block.markVol; split <;> rfl
@[simp] theorem Block.markVol_clk (s : Block) (a : Attr) : (s.markVol a).clk = s.clk := by unfold Block.markVol; split <;> rfl
@[simp] theorem Block.markVol_time (s : Block) (a : Attr) : (s.markVol a).time = s.time := by unfold Block.markVol; split <;> rfl
@[simp] theorem Block.markVol_supply (s : Block) (a : Attr) : (s.markVol a).supply = s.supply := by unfold Block.markVol; split <;> rfl
@[simp] theorem Block.markVol_key (s : Block) (a : Attr) : (s.markVol a).key = s.key := by unfold Block.markVol; split <;> rfl
@[simp] theorem Block.markVol_mram (s : Block) (a : Attr) : (s.markVol a).mram = s.mram := by unfold Block.markVol; split <;> rfl
@[simp] theorem Block.markVol_img (s : Block) (a : Attr) : (s.markVol a).img = s.img := by unfold Block.markVol; split <;> rfl
@[simp] theorem Block.markVol_stage (s : Block) (a : Attr) : (s.markVol a).stage = s.stage := by unfold Block.markVol; split <;> rfl
@[simp] theorem Block.markVol_rst (s : Block) (a : Attr) : (s.markVol a).rst = s.rst := by unfold Block.markVol; split <;> rfl
@[simp] theorem Block.markVol_mode (s : Block) (a : Attr) : (s.markVol a).mode = s.mode := by unfold Block.markVol; split <;> rfl
@[simp] theorem Block.markVol_evq (s : Block) (a : Attr) : (s.markVol a).evq = s.evq := by unfold Block.markVol; split <;> rfl
@[simp] theorem Block.markVol_ringq (s : Block) (a : Attr) : (s.markVol a).ringq = s.ringq := by unfold Block.markVol; split <;> rfl
@[simp] theorem Block.markVol_firn (s : Block) (a : Attr) : (s.markVol a).firn = s.firn := by unfold Block.markVol; split <;> rfl
@[simp] theorem Block.markVol_host (s : Block) (a : Attr) : (s.markVol a).host = s.host := by unfold Block.markVol; split <;> rfl
@[simp] theorem Block.markVol_dio (s : Block) (a : Attr) : (s.markVol a).dio = s.dio := by unfold Block.markVol; split <;> rfl
@[simp] theorem Block.markVol_valve (s : Block) (a : Attr) : (s.markVol a).valve = s.valve := by unfold Block.markVol; split <;> rfl
@[simp] theorem Block.markVol_fe (s : Block) (a : Attr) : (s.markVol a).fe = s.fe := by unfold Block.markVol; split <;> rfl
@[simp] theorem Block.markVol_enc (s : Block) (a : Attr) : (s.markVol a).enc = s.enc := by unfold Block.markVol; split <;> rfl
@[simp] theorem Block.markVol_axis (s : Block) (a : Attr) : (s.markVol a).axis = s.axis := by unfold Block.markVol; split <;> rfl
@[simp] theorem Block.markVol_remote (s : Block) (a : Attr) : (s.markVol a).remote = s.remote := by unfold Block.markVol; split <;> rfl
@[simp] theorem Block.markVol_serac (s : Block) (a : Attr) : (s.markVol a).serac = s.serac := by unfold Block.markVol; split <;> rfl
@[simp] theorem Block.markVol_echo (s : Block) (a : Attr) : (s.markVol a).echo = s.echo := by unfold Block.markVol; split <;> rfl
@[simp] theorem Block.markVol_tomo (s : Block) (a : Attr) : (s.markVol a).tomo = s.tomo := by unfold Block.markVol; split <;> rfl
@[simp] theorem Block.markVol_net (s : Block) (a : Attr) : (s.markVol a).net = s.net := by unfold Block.markVol; split <;> rfl
@[simp] theorem Block.markVol_line (s : Block) (a : Attr) : (s.markVol a).line = s.line := by unfold Block.markVol; split <;> rfl
@[simp] theorem Block.markVol_floe (s : Block) (a : Attr) : (s.markVol a).floe = s.floe := by unfold Block.markVol; split <;> rfl
@[simp] theorem Block.markVol_pair (s : Block) (a : Attr) : (s.markVol a).pair = s.pair := by unfold Block.markVol; split <;> rfl
@[simp] theorem Block.markVol_therm (s : Block) (a : Attr) : (s.markVol a).therm = s.therm := by unfold Block.markVol; split <;> rfl
@[simp] theorem Block.markVol_late (s : Block) (a : Attr) : (s.markVol a).late = s.late := by unfold Block.markVol; split <;> rfl
@[simp] theorem Block.markVol_fresh (s : Block) (a : Attr) : (s.markVol a).fresh = s.fresh := by unfold Block.markVol; split <;> rfl

end Sys2Proof.Machine
end

