-- ==== Sys2Proof/Laws/Widths.lean ====
section
/-! SUPPORT. Laws/Widths.lean: the width of each named attribute, so that no later proof looks it up in the field tables. -/

namespace Sys2Proof.Machine

@[simp] theorem widthOf_devSupply : widthOf devSupply = 32 := rfl
@[simp] theorem widthOf_devUsMv : widthOf devUsMv = 16 := rfl
@[simp] theorem widthOf_devHoldMv : widthOf devHoldMv = 16 := rfl
@[simp] theorem widthOf_devVrefMv : widthOf devVrefMv = 16 := rfl
@[simp] theorem widthOf_devVboostMv : widthOf devVboostMv = 16 := rfl
@[simp] theorem widthOf_devEsupEn : widthOf devEsupEn = 8 := rfl
@[simp] theorem widthOf_devPfCount : widthOf devPfCount = 32 := rfl
@[simp] theorem widthOf_devPfLast : widthOf devPfLast = 64 := rfl
@[simp] theorem widthOf_devIdent : widthOf devIdent = 128 := rfl
@[simp] theorem widthOf_timeState : widthOf timeState = 32 := rfl
@[simp] theorem widthOf_timeNow : widthOf timeNow = 64 := rfl
@[simp] theorem widthOf_timeOffset : widthOf timeOffset = 32 := rfl
@[simp] theorem widthOf_timeSet : widthOf timeSet = 64 := rfl
@[simp] theorem widthOf_timeRefSel : widthOf timeRefSel = 8 := rfl
@[simp] theorem widthOf_timeHold : widthOf timeHold = 16 := rfl
@[simp] theorem widthOf_timeRtc : widthOf timeRtc = 64 := rfl
@[simp] theorem widthOf_imgStatus : widthOf imgStatus = 32 := rfl
@[simp] theorem widthOf_imgHash : widthOf imgHash = 256 := rfl
@[simp] theorem widthOf_imgErrCount : widthOf imgErrCount = 16 := rfl
@[simp] theorem widthOf_imgErrList : widthOf imgErrList = 6144 := rfl
@[simp] theorem widthOf_imgKeyInfo : widthOf imgKeyInfo = 64 := rfl
@[simp] theorem widthOf_imgStageCtrl : widthOf imgStageCtrl = 64 := rfl
@[simp] theorem widthOf_imgStage : widthOf imgStage = 64 := rfl
@[simp] theorem widthOf_imgKeyCmd : widthOf imgKeyCmd = 320 := rfl
@[simp] theorem widthOf_imgSvnFloor : widthOf imgSvnFloor = 16 := rfl
@[simp] theorem widthOf_modeState : widthOf modeState = 32 := rfl
@[simp] theorem widthOf_modeLast : widthOf modeLast = 128 := rfl
@[simp] theorem widthOf_modeRstCause : widthOf modeRstCause = 32 := rfl
@[simp] theorem widthOf_modeRstCount : widthOf modeRstCount = 192 := rfl
@[simp] theorem widthOf_modeReady : widthOf modeReady = 16 := rfl
@[simp] theorem widthOf_modeFailed : widthOf modeFailed = 16 := rfl
@[simp] theorem widthOf_modeCmd : widthOf modeCmd = 32 := rfl
@[simp] theorem widthOf_modeAutoResume : widthOf modeAutoResume = 8 := rfl
@[simp] theorem widthOf_modeHoldFan : widthOf modeHoldFan = 8 := rfl
@[simp] theorem widthOf_modeWake : widthOf modeWake = 64 := rfl
@[simp] theorem widthOf_modePersistCmd : widthOf modePersistCmd = 64 := rfl
@[simp] theorem widthOf_modePersist : widthOf modePersist = 320 := rfl
@[simp] theorem widthOf_evtStat : widthOf evtStat = 32 := rfl
@[simp] theorem widthOf_evtLost : widthOf evtLost = 32 := rfl
@[simp] theorem widthOf_evtOldest : widthOf evtOldest = 64 := rfl
@[simp] theorem widthOf_hostStat : widthOf hostStat = 32 := rfl
@[simp] theorem widthOf_hostSessions : widthOf hostSessions = 512 := rfl
@[simp] theorem widthOf_hostCount : widthOf hostCount = 256 := rfl
@[simp] theorem widthOf_hostCfg : widthOf hostCfg = 128 := rfl
@[simp] theorem widthOf_hostWd : widthOf hostWd = 32 := rfl
@[simp] theorem widthOf_hostWdStat : widthOf hostWdStat = 96 := rfl
@[simp] theorem widthOf_hostAuthCmd : widthOf hostAuthCmd = 320 := rfl
@[simp] theorem widthOf_hostMbMap : widthOf hostMbMap = 4096 := rfl
@[simp] theorem widthOf_firnStat : widthOf firnStat = 32 := rfl
@[simp] theorem widthOf_firnPart : widthOf firnPart = 512 := rfl
@[simp] theorem widthOf_firnTrend : widthOf firnTrend = 32768 := rfl
@[simp] theorem widthOf_dioStat (n : Nat) : widthOf (dioStat n) = 32 := rfl
@[simp] theorem widthOf_dioValue (n : Nat) : widthOf (dioValue n) = 192 := rfl
@[simp] theorem widthOf_dioCount (n : Nat) : widthOf (dioCount n) = 32 := rfl
@[simp] theorem widthOf_dioCfg (n : Nat) : widthOf (dioCfg n) = 64 := rfl
@[simp] theorem widthOf_dioSp (n : Nat) : widthOf (dioSp n) = 32 := rfl
@[simp] theorem widthOf_dioMan (n : Nat) : widthOf (dioMan n) = 32 := rfl
@[simp] theorem widthOf_dgStat (g : Nat) : widthOf (dgStat g) = 32 := rfl
@[simp] theorem widthOf_dgValues (g : Nat) : widthOf (dgValues g) = 192 := rfl
@[simp] theorem widthOf_dgCount (g : Nat) : widthOf (dgCount g) = 64 := rfl
@[simp] theorem widthOf_dgCfg (g : Nat) : widthOf (dgCfg g) = 64 := rfl
@[simp] theorem widthOf_dgMask (g : Nat) : widthOf (dgMask g) = 32 := rfl
@[simp] theorem widthOf_dgProbe (g : Nat) : widthOf (dgProbe g) = 32 := rfl
@[simp] theorem widthOf_dgCmd (g : Nat) : widthOf (dgCmd g) = 32 := rfl
@[simp] theorem widthOf_swStat (k : Nat) : widthOf (swStat k) = 32 := rfl
@[simp] theorem widthOf_swCfg (k : Nat) : widthOf (swCfg k) = 64 := rfl
@[simp] theorem widthOf_swPoints (k : Nat) : widthOf (swPoints k) = 64 := rfl
@[simp] theorem widthOf_vlvStat (n : Nat) : widthOf (vlvStat n) = 32 := rfl
@[simp] theorem widthOf_vlvValues (n : Nat) : widthOf (vlvValues n) = 160 := rfl
@[simp] theorem widthOf_vlvCount (n : Nat) : widthOf (vlvCount n) = 128 := rfl
@[simp] theorem widthOf_vlvCfg (n : Nat) : widthOf (vlvCfg n) = 64 := rfl
@[simp] theorem widthOf_vlvShape (n : Nat) : widthOf (vlvShape n) = 96 := rfl
@[simp] theorem widthOf_vlvSp (n : Nat) : widthOf (vlvSp n) = 32 := rfl
@[simp] theorem widthOf_vlvMan (n : Nat) : widthOf (vlvMan n) = 32 := rfl
@[simp] theorem widthOf_vlvCmd (n : Nat) : widthOf (vlvCmd n) = 32 := rfl
@[simp] theorem widthOf_bnkStat (b : Nat) : widthOf (bnkStat b) = 32 := rfl
@[simp] theorem widthOf_bnkValues (b : Nat) : widthOf (bnkValues b) = 160 := rfl
@[simp] theorem widthOf_bnkCfg (b : Nat) : widthOf (bnkCfg b) = 64 := rfl
@[simp] theorem widthOf_bnkCmd (b : Nat) : widthOf (bnkCmd b) = 32 := rfl
@[simp] theorem widthOf_vlvPool : widthOf vlvPool = 64 := rfl
@[simp] theorem widthOf_thStat (k : Nat) : widthOf (thStat k) = 32 := rfl
@[simp] theorem widthOf_thValue (k : Nat) : widthOf (thValue k) = 96 := rfl
@[simp] theorem widthOf_tzStat (z : Nat) : widthOf (tzStat z) = 32 := rfl
@[simp] theorem widthOf_tzCount (z : Nat) : widthOf (tzCount z) = 96 := rfl
@[simp] theorem widthOf_tzSdLast (z : Nat) : widthOf (tzSdLast z) = 512 := rfl
@[simp] theorem widthOf_tzCfg (z : Nat) : widthOf (tzCfg z) = 64 := rfl
@[simp] theorem widthOf_tzCmd (z : Nat) : widthOf (tzCmd z) = 32 := rfl
@[simp] theorem widthOf_tzSdModule : widthOf tzSdModule = 512 := rfl
@[simp] theorem widthOf_feStat (n : Nat) : widthOf (feStat n) = 32 := rfl
@[simp] theorem widthOf_feValue (n : Nat) : widthOf (feValue n) = 192 := rfl
@[simp] theorem widthOf_feLast (n : Nat) : widthOf (feLast n) = 192 := rfl
@[simp] theorem widthOf_feIq (n : Nat) : widthOf (feIq n) = 1024 := rfl
@[simp] theorem widthOf_feCnt (n : Nat) : widthOf (feCnt n) = 32 := rfl
@[simp] theorem widthOf_feType (n : Nat) : widthOf (feType n) = 8 := rfl
@[simp] theorem widthOf_feDrive (n : Nat) : widthOf (feDrive n) = 32 := rfl
@[simp] theorem widthOf_feTones (n : Nat) : widthOf (feTones n) = 1024 := rfl
@[simp] theorem widthOf_feRate (n : Nat) : widthOf (feRate n) = 8 := rfl
@[simp] theorem widthOf_feMon (n : Nat) : widthOf (feMon n) = 32 := rfl
@[simp] theorem widthOf_feLin (n : Nat) : widthOf (feLin n) = 32 := rfl
@[simp] theorem widthOf_feNorm (n : Nat) : widthOf (feNorm n) = 128 := rfl
@[simp] theorem widthOf_feCell (n : Nat) : widthOf (feCell n) = 96 := rfl
@[simp] theorem widthOf_feLimits (n : Nat) : widthOf (feLimits n) = 64 := rfl
@[simp] theorem widthOf_feCal (n : Nat) : widthOf (feCal n) = 8 := rfl
@[simp] theorem widthOf_fgStat (g : Nat) : widthOf (fgStat g) = 32 := rfl
@[simp] theorem widthOf_fgRestart (g : Nat) : widthOf (fgRestart g) = 8 := rfl
@[simp] theorem widthOf_aoStat (n : Nat) : widthOf (aoStat n) = 32 := rfl
@[simp] theorem widthOf_aoCfg (n : Nat) : widthOf (aoCfg n) = 32 := rfl
@[simp] theorem widthOf_aoSpan (n : Nat) : widthOf (aoSpan n) = 64 := rfl
@[simp] theorem widthOf_cropStat (c : Nat) : widthOf (cropStat c) = 32 := rfl
@[simp] theorem widthOf_encStat (n : Nat) : widthOf (encStat n) = 32 := rfl
@[simp] theorem widthOf_encValues (n : Nat) : widthOf (encValues n) = 256 := rfl
@[simp] theorem widthOf_encIdx (n : Nat) : widthOf (encIdx n) = 160 := rfl
@[simp] theorem widthOf_encCount (n : Nat) : widthOf (encCount n) = 128 := rfl
@[simp] theorem widthOf_encCfg (n : Nat) : widthOf (encCfg n) = 64 := rfl
@[simp] theorem widthOf_encTiming (n : Nat) : widthOf (encTiming n) = 96 := rfl
@[simp] theorem widthOf_encPreset (n : Nat) : widthOf (encPreset n) = 64 := rfl
@[simp] theorem widthOf_encCmd (n : Nat) : widthOf (encCmd n) = 32 := rfl
@[simp] theorem widthOf_emuStat (n : Nat) : widthOf (emuStat n) = 32 := rfl
@[simp] theorem widthOf_emuValues (n : Nat) : widthOf (emuValues n) = 192 := rfl
@[simp] theorem widthOf_emuCount (n : Nat) : widthOf (emuCount n) = 64 := rfl
@[simp] theorem widthOf_emuCfg (n : Nat) : widthOf (emuCfg n) = 64 := rfl
@[simp] theorem widthOf_emuRatio (n : Nat) : widthOf (emuRatio n) = 64 := rfl
@[simp] theorem widthOf_emuLimit (n : Nat) : widthOf (emuLimit n) = 32 := rfl
@[simp] theorem widthOf_emuCmd (n : Nat) : widthOf (emuCmd n) = 32 := rfl
@[simp] theorem widthOf_clsStat (n : Nat) : widthOf (clsStat n) = 32 := rfl
@[simp] theorem widthOf_clsCount (n : Nat) : widthOf (clsCount n) = 64 := rfl
@[simp] theorem widthOf_clsTime (n : Nat) : widthOf (clsTime n) = 32 := rfl
@[simp] theorem widthOf_clsCfg (n : Nat) : widthOf (clsCfg n) = 64 := rfl
@[simp] theorem widthOf_clsCmd (n : Nat) : widthOf (clsCmd n) = 32 := rfl
@[simp] theorem widthOf_axStat (n : Nat) : widthOf (axStat n) = 32 := rfl
@[simp] theorem widthOf_axValues (n : Nat) : widthOf (axValues n) = 256 := rfl
@[simp] theorem widthOf_axAir (n : Nat) : widthOf (axAir n) = 160 := rfl
@[simp] theorem widthOf_axCount (n : Nat) : widthOf (axCount n) = 128 := rfl
@[simp] theorem widthOf_axHours (n : Nat) : widthOf (axHours n) = 32 := rfl
@[simp] theorem widthOf_axCurLimit (n : Nat) : widthOf (axCurLimit n) = 32 := rfl
@[simp] theorem widthOf_axCfg (n : Nat) : widthOf (axCfg n) = 64 := rfl
@[simp] theorem widthOf_axPwm (n : Nat) : widthOf (axPwm n) = 64 := rfl
@[simp] theorem widthOf_axScale (n : Nat) : widthOf (axScale n) = 128 := rfl
@[simp] theorem widthOf_axMotor (n : Nat) : widthOf (axMotor n) = 256 := rfl
@[simp] theorem widthOf_axSpeed (n : Nat) : widthOf (axSpeed n) = 192 := rfl
@[simp] theorem widthOf_axCtrl (n : Nat) : widthOf (axCtrl n) = 64 := rfl
@[simp] theorem widthOf_axStart (n : Nat) : widthOf (axStart n) = 128 := rfl
@[simp] theorem widthOf_axProt (n : Nat) : widthOf (axProt n) = 128 := rfl
@[simp] theorem widthOf_axAirCfg (n : Nat) : widthOf (axAirCfg n) = 128 := rfl
@[simp] theorem widthOf_axSp (n : Nat) : widthOf (axSp n) = 32 := rfl
@[simp] theorem widthOf_axMan (n : Nat) : widthOf (axMan n) = 32 := rfl
@[simp] theorem widthOf_axCmd (n : Nat) : widthOf (axCmd n) = 32 := rfl
@[simp] theorem widthOf_axsStat : widthOf axsStat = 32 := rfl
@[simp] theorem widthOf_axsBaro : widthOf axsBaro = 128 := rfl
@[simp] theorem widthOf_axsBaroDef : widthOf axsBaroDef = 32 := rfl
@[simp] theorem widthOf_lpStat (n : Nat) : widthOf (lpStat n) = 32 := rfl
@[simp] theorem widthOf_lpValues (n : Nat) : widthOf (lpValues n) = 256 := rfl
@[simp] theorem widthOf_lpOut (n : Nat) : widthOf (lpOut n) = 96 := rfl
@[simp] theorem widthOf_lpCount (n : Nat) : widthOf (lpCount n) = 96 := rfl
@[simp] theorem widthOf_lpCfg (n : Nat) : widthOf (lpCfg n) = 64 := rfl
@[simp] theorem widthOf_lpInputs (n : Nat) : widthOf (lpInputs n) = 256 := rfl
@[simp] theorem widthOf_lpScale (n : Nat) : widthOf (lpScale n) = 128 := rfl
@[simp] theorem widthOf_lpLimits (n : Nat) : widthOf (lpLimits n) = 128 := rfl
@[simp] theorem widthOf_lpRates (n : Nat) : widthOf (lpRates n) = 64 := rfl
@[simp] theorem widthOf_lpSp (n : Nat) : widthOf (lpSp n) = 32 := rfl
@[simp] theorem widthOf_lpSpSrc (n : Nat) : widthOf (lpSpSrc n) = 64 := rfl
@[simp] theorem widthOf_lpTrackSrc (n : Nat) : widthOf (lpTrackSrc n) = 64 := rfl
@[simp] theorem widthOf_lpMode (n : Nat) : widthOf (lpMode n) = 8 := rfl
@[simp] theorem widthOf_lpManOut (n : Nat) : widthOf (lpManOut n) = 32 := rfl
@[simp] theorem widthOf_lpRoute (n : Nat) : widthOf (lpRoute n) = 256 := rfl
@[simp] theorem widthOf_lpBankCmd (n : Nat) : widthOf (lpBankCmd n) = 32 := rfl
@[simp] theorem widthOf_lpPlaus (n : Nat) : widthOf (lpPlaus n) = 64 := rfl
@[simp] theorem widthOf_lpCmd (n : Nat) : widthOf (lpCmd n) = 32 := rfl
@[simp] theorem widthOf_lnStat (n : Nat) : widthOf (lnStat n) = 32 := rfl
@[simp] theorem widthOf_lnValues (n : Nat) : widthOf (lnValues n) = 320 := rfl
@[simp] theorem widthOf_lnParcels (n : Nat) : widthOf (lnParcels n) = 262144 := rfl
@[simp] theorem widthOf_lnFlow (n : Nat) : widthOf (lnFlow n) = 96 := rfl
@[simp] theorem widthOf_lnCount (n : Nat) : widthOf (lnCount n) = 128 := rfl
@[simp] theorem widthOf_lnCfg (n : Nat) : widthOf (lnCfg n) = 64 := rfl
@[simp] theorem widthOf_coreStat (n : Nat) : widthOf (coreStat n) = 32 := rfl
@[simp] theorem widthOf_tmStat (n : Nat) : widthOf (tmStat n) = 32 := rfl
@[simp] theorem widthOf_tmSummary (n : Nat) : widthOf (tmSummary n) = 256 := rfl
@[simp] theorem widthOf_tmMap (n : Nat) : widthOf (tmMap n) = 12992 := rfl
@[simp] theorem widthOf_tmPerm (n : Nat) : widthOf (tmPerm n) = 12992 := rfl
@[simp] theorem widthOf_tmAdm (n : Nat) : widthOf (tmAdm n) = 7680 := rfl
@[simp] theorem widthOf_tmCount (n : Nat) : widthOf (tmCount n) = 128 := rfl
@[simp] theorem widthOf_tmCfg (n : Nat) : widthOf (tmCfg n) = 64 := rfl
@[simp] theorem widthOf_tmElec (n : Nat) : widthOf (tmElec n) = 128 := rfl
@[simp] theorem widthOf_tmBand (n : Nat) : widthOf (tmBand n) = 64 := rfl
@[simp] theorem widthOf_tmPhases (n : Nat) : widthOf (tmPhases n) = 256 := rfl
@[simp] theorem widthOf_tmFrame (n : Nat) : widthOf (tmFrame n) = 64 := rfl
@[simp] theorem widthOf_tmRecon (n : Nat) : widthOf (tmRecon n) = 96 := rfl
@[simp] theorem widthOf_tmCheck (n : Nat) : widthOf (tmCheck n) = 16 := rfl
@[simp] theorem widthOf_tmTemps (n : Nat) : widthOf (tmTemps n) = 40 := rfl
@[simp] theorem widthOf_tmFill (n : Nat) : widthOf (tmFill n) = 72 := rfl
@[simp] theorem widthOf_tmEps (n : Nat) : widthOf (tmEps n) = 64 := rfl
@[simp] theorem widthOf_tmCalE (n : Nat) : widthOf (tmCalE n) = 3840 := rfl
@[simp] theorem widthOf_tmCalF (n : Nat) : widthOf (tmCalF n) = 3840 := rfl
@[simp] theorem widthOf_tmNorm2 (n : Nat) : widthOf (tmNorm2 n) = 64 := rfl
@[simp] theorem widthOf_tmCmd (n : Nat) : widthOf (tmCmd n) = 32 := rfl
@[simp] theorem widthOf_tmCalStat (n : Nat) : widthOf (tmCalStat n) = 32 := rfl
@[simp] theorem widthOf_floeRing : widthOf floeRing = 64 := rfl
@[simp] theorem widthOf_floeBudget : widthOf floeBudget = 64 := rfl
@[simp] theorem widthOf_floeCycleNow : widthOf floeCycleNow = 32 := rfl
@[simp] theorem widthOf_rmStat : widthOf rmStat = 32 := rfl
@[simp] theorem widthOf_rmCount : widthOf rmCount = 96 := rfl
@[simp] theorem widthOf_rmCfg : widthOf rmCfg = 32 := rfl
@[simp] theorem widthOf_floeCount : widthOf floeCount = 192 := rfl
@[simp] theorem widthOf_floeCfg : widthOf floeCfg = 96 := rfl
@[simp] theorem widthOf_floePublish : widthOf floePublish = 8192 := rfl
@[simp] theorem widthOf_pairStat : widthOf pairStat = 32 := rfl
@[simp] theorem widthOf_pairClaim : widthOf pairClaim = 64 := rfl
@[simp] theorem widthOf_pairEpoch : widthOf pairEpoch = 24 := rfl
@[simp] theorem widthOf_pairStage : widthOf pairStage = 96 := rfl
@[simp] theorem widthOf_pairCount : widthOf pairCount = 256 := rfl
@[simp] theorem widthOf_pairDrill : widthOf pairDrill = 128 := rfl
@[simp] theorem widthOf_pairCfg : widthOf pairCfg = 64 := rfl
@[simp] theorem widthOf_pairCmd : widthOf pairCmd = 32 := rfl
@[simp] theorem widthOf_lnGeom (l : Nat) : widthOf (lnGeom l) = 128 := rfl
@[simp] theorem widthOf_lnAmbient (l : Nat) : widthOf (lnAmbient l) = 128 := rfl
@[simp] theorem widthOf_lnInlet (l : Nat) : widthOf (lnInlet l) = 128 := rfl
@[simp] theorem widthOf_lnObs (l : Nat) : widthOf (lnObs l) = 256 := rfl
@[simp] theorem widthOf_lnDisch (l : Nat) : widthOf (lnDisch l) = 192 := rfl
@[simp] theorem widthOf_lnBatch (l : Nat) : widthOf (lnBatch l) = 128 := rfl
@[simp] theorem widthOf_lnFlowCfg (l : Nat) : widthOf (lnFlowCfg l) = 64 := rfl
@[simp] theorem widthOf_lnStore (l : Nat) : widthOf (lnStore l) = 256 := rfl
@[simp] theorem widthOf_lnSrc (l : Nat) : widthOf (lnSrc l) = 768 := rfl
@[simp] theorem widthOf_lnCmd (l : Nat) : widthOf (lnCmd l) = 64 := rfl

end Sys2Proof.Machine
end

