-- ==== Sys2Proof/Laws/Ops.lean ====
section
/-! SUPPORT. Laws/Ops.lean: what the shared operations do, said once: fields and bits of a register, the passing of time, event
records, and the answer to a host command. -/

namespace Sys2Proof.Machine

/-- A field read after it is set. -/
theorem fld_setFld_self (v hi lo x : Nat) (h : lo ≤ hi) : fld (setFld v hi lo x) hi lo = x % 2 ^ (hi + 1 - lo) := by
  unfold fld setFld
  obtain ⟨w, hw⟩ : ∃ w, hi + 1 = lo + w := ⟨hi + 1 - lo, by omega⟩
  have e1 : hi + 1 - lo = w := by omega
  rw [e1, hw]
  have e : v / 2 ^ (lo + w) * 2 ^ (lo + w) + x % 2 ^ w * 2 ^ lo + v % 2 ^ lo
      = 2 ^ lo * (2 ^ w * (v / 2 ^ (lo + w)) + x % 2 ^ w) + v % 2 ^ lo := by
    rw [Nat.pow_add]; ring
  rw [e, Nat.mul_add_div (Nat.two_pow_pos lo), Nat.div_eq_of_lt (Nat.mod_lt _ (Nat.two_pow_pos lo)), Nat.add_zero,
    Nat.mul_add_mod, Nat.mod_mod]

/-- A field below or above the one set keeps its value. -/
theorem fld_setFld_below (v hi lo x hi' lo' : Nat) (h : lo ≤ hi) (k : hi' < lo) (l : lo' ≤ hi') :
    fld (setFld v hi lo x) hi' lo' = fld v hi' lo' := by
  unfold fld setFld
  obtain ⟨w, hw⟩ : ∃ w, hi + 1 = lo + w := ⟨hi + 1 - lo, by omega⟩
  obtain ⟨n, hn⟩ : ∃ n, hi' + 1 = lo' + n := ⟨hi' + 1 - lo', by omega⟩
  obtain ⟨d, hd⟩ : ∃ d, lo = lo' + n + d := ⟨lo - (lo' + n), by omega⟩
  have e1 : hi + 1 - lo = w := by omega
  have e2 : hi' + 1 - lo' = n := by omega
  rw [e1, e2, hw, hd]
  have e : v / 2 ^ (lo' + n + d + w) * 2 ^ (lo' + n + d + w) + x % 2 ^ w * 2 ^ (lo' + n + d) + v % 2 ^ (lo' + n + d)
      = v % 2 ^ (lo' + n + d) + 2 ^ (lo' + n) * (2 ^ d * (v / 2 ^ (lo' + n + d + w) * 2 ^ w + x % 2 ^ w)) := by
    rw [Nat.pow_add 2 (lo' + n + d) w, Nat.pow_add 2 (lo' + n) d]; ring
  rw [e]
  have m : ∀ y : Nat, y / 2 ^ lo' % 2 ^ n = y % 2 ^ (lo' + n) / 2 ^ lo' := by
    intro y
    rw [Nat.pow_add, Nat.mod_mul_right_div_self]
  rw [m, m, Nat.add_mul_mod_self_left, Nat.mod_mod_of_dvd _ (Nat.pow_dvd_pow 2 (by omega))]

theorem fld_setFld_above (v hi lo x hi' lo' : Nat) (h : lo ≤ hi) (k : hi < lo') :
    fld (setFld v hi lo x) hi' lo' = fld v hi' lo' := by
  unfold fld setFld
  obtain ⟨w, hw⟩ : ∃ w, hi + 1 = lo + w := ⟨hi + 1 - lo, by omega⟩
  obtain ⟨d, hd⟩ : ∃ d, lo' = hi + 1 + d := ⟨lo' - (hi + 1), by omega⟩
  have e1 : hi + 1 - lo = w := by omega
  have s2 : ∀ y : Nat, y / 2 ^ (hi + 1 + d) = y / 2 ^ (hi + 1) / 2 ^ d := by
    intro y; rw [Nat.pow_add, Nat.div_div_eq_div_mul]
  rw [e1, hd, s2, s2]
  congr 2
  have lt : x % 2 ^ w * 2 ^ lo + v % 2 ^ lo < 2 ^ (hi + 1) := by
    rw [hw, Nat.pow_add]
    have a1 : x % 2 ^ w + 1 ≤ 2 ^ w := Nat.mod_lt _ (Nat.two_pow_pos w)
    have a2 : v % 2 ^ lo < 2 ^ lo := Nat.mod_lt _ (Nat.two_pow_pos lo)
    nlinarith [Nat.mul_le_mul_right (2 ^ lo) a1]
  rw [Nat.add_assoc, Nat.mul_comm, Nat.mul_add_div (Nat.two_pow_pos _), Nat.div_eq_of_lt lt, Nat.add_zero]

/-- Cutting a word to a width leaves the fields within it. -/
theorem fld_mod (v w hi lo : Nat) (h : hi < w) (l : lo ≤ hi) : fld (v % 2 ^ w) hi lo = fld v hi lo := by
  unfold fld
  obtain ⟨n, hn⟩ : ∃ n, hi + 1 = lo + n := ⟨hi + 1 - lo, by omega⟩
  have e2 : hi + 1 - lo = n := by omega
  rw [e2]
  have m : ∀ y : Nat, y / 2 ^ lo % 2 ^ n = y % 2 ^ (lo + n) / 2 ^ lo := by
    intro y
    rw [Nat.pow_add, Nat.mod_mul_right_div_self]
  rw [m, m, Nat.mod_mod_of_dvd _ (Nat.pow_dvd_pow 2 (by omega))]

theorem bitAt_eq_fld (v k : Nat) : bitAt v k = (fld v k k == 1) := by
  unfold bitAt fld; rw [Nat.add_sub_cancel_left, Nat.pow_one]

theorem bitAt_mod (v w k : Nat) (h : k < w) : bitAt (v % 2 ^ w) k = bitAt v k := by
  rw [bitAt_eq_fld, bitAt_eq_fld, fld_mod v w k k h (Nat.le_refl k)]

theorem bitAt_setBit_self (v k : Nat) (b : Bool) : bitAt (setBit v k b) k = b := by
  rw [bitAt_eq_fld, setBit, fld_setFld_self _ _ _ _ (Nat.le_refl k)]
  cases b <;> simp [b2n]

theorem bitAt_setFld_out (v hi lo x k : Nat) (h : lo ≤ hi) (o : k < lo ∨ hi < k) : bitAt (setFld v hi lo x) k = bitAt v k := by
  rw [bitAt_eq_fld, bitAt_eq_fld]
  rcases o with o | o
  · rw [fld_setFld_below _ _ _ _ _ _ h o (Nat.le_refl k)]
  · rw [fld_setFld_above _ _ _ _ _ _ h o]

theorem bitAt_setBit_ne (v j k : Nat) (b : Bool) (h : j ≠ k) : bitAt (setBit v k b) j = bitAt v j :=
  bitAt_setFld_out _ _ _ _ _ (Nat.le_refl k) (by omega)

/-- A field of a register read after it is written. -/
theorem Block.fget_fput_self (s : Block) (a : Attr) (hi lo x : Nat) (h : lo ≤ hi) (w : hi < widthOf a) :
    (s.fput a hi lo x).fget a hi lo = x % 2 ^ (hi + 1 - lo) := by
  unfold Block.fput Block.fget
  rw [Block.get_put_self, fld_mod _ _ _ _ w h, fld_setFld_self _ _ _ _ h]

theorem Block.fget_fput_below (s : Block) (a : Attr) (hi lo x hi' lo' : Nat) (h : lo ≤ hi) (w : hi < widthOf a) (k : hi' < lo)
    (l : lo' ≤ hi') : (s.fput a hi lo x).fget a hi' lo' = s.fget a hi' lo' := by
  unfold Block.fput Block.fget
  rw [Block.get_put_self, fld_mod _ _ _ _ (by omega) l, fld_setFld_below _ _ _ _ _ _ h k l]

theorem Block.fget_fput_above (s : Block) (a : Attr) (hi lo x hi' lo' : Nat) (h : lo ≤ hi) (w : hi' < widthOf a) (k : hi < lo')
    (l : lo' ≤ hi') : (s.fput a hi lo x).fget a hi' lo' = s.fget a hi' lo' := by
  unfold Block.fput Block.fget
  rw [Block.get_put_self, fld_mod _ _ _ _ w l, fld_setFld_above _ _ _ _ _ _ h k]

/-- Reading a register of a block given field by field. -/
@[simp] theorem Block.get_mk (r : AMap Nat) {x1 x2 x3 x4 x5 x6 x7 x8 x9 x10 x11 x12 x13 x14 x15 x16 x17 x18 x19 x20 x21 x22 x23 x24 x25 x26 x27 x28 x29 x30 x31 x32} (a : Attr) :
    (Block.mk r x1 x2 x3 x4 x5 x6 x7 x8 x9 x10 x11 x12 x13 x14 x15 x16 x17 x18 x19 x20 x21 x22 x23 x24 x25 x26 x27 x28 x29 x30 x31 x32).get a = regsGet r a := rfl

@[simp] theorem regsGet_regs (s : Block) (a : Attr) : regsGet s.regs a = s.get a := rfl

/-- A register read after any write. -/
theorem Block.get_put (s : Block) (a b : Attr) (v : Nat) :
    (s.put a v).get b = if a = b then v % 2 ^ widthOf a else s.get b := regsGet_put s.regs a b v

/-- Writing a field of a register leaves every other register. -/
theorem Block.get_fput_ne (s : Block) {a b : Attr} (hi lo x : Nat) (h : a ≠ b) : (s.fput a hi lo x).get b = s.get b :=
  Block.get_put_ne _ _ h

theorem Block.get_putBit_ne (s : Block) {a b : Attr} (k : Nat) (x : Bool) (h : a ≠ b) : (s.putBit a k x).get b = s.get b :=
  Block.get_put_ne _ _ h

theorem Block.get_countUp_ne (s : Block) {a b : Attr} (hi lo : Nat) (h : a ≠ b) : (s.countUp a hi lo).get b = s.get b :=
  Block.get_put_ne _ _ h

/-- A bit of a register read after it is written. -/
theorem Block.bit_putBit_self (s : Block) (a : Attr) (k : Nat) (b : Bool) (w : k < widthOf a) : (s.putBit a k b).bit a k = b := by
  unfold Block.putBit Block.fput Block.bit
  rw [Block.get_put_self, bitAt_mod _ _ _ w]
  exact bitAt_setBit_self _ _ _

theorem Block.bit_putBit_ne (s : Block) (a : Attr) (j k : Nat) (b : Bool) (w : j < widthOf a) (h : j ≠ k) :
    (s.putBit a k b).bit a j = s.bit a j := by
  unfold Block.putBit Block.fput Block.bit
  rw [Block.get_put_self, bitAt_mod _ _ _ w]
  exact bitAt_setBit_ne _ _ _ _ h

/-- Time's passing changes no register but the RTC. -/
theorem Block.get_rtcElapse (s : Block) (dt : Nat) {a : Attr} (h : a ≠ timeRtc) : (s.rtcElapse dt).get a = s.get a := by
  unfold Block.rtcElapse
  by_cases k : s.get timeRtc = 0
  · rw [if_pos k]
  · rw [if_neg k]; exact Block.get_put_ne _ _ (Ne.symm h)

theorem Block.get_elapse (s : Block) (k : Nat) {a : Attr} (h : a ≠ timeRtc) : (s.elapse k).get a = s.get a :=
  Block.get_rtcElapse _ _ h

theorem Block.get_advanceTo (s : Block) (t : Nat) {a : Attr} (h : a ≠ timeRtc) : (s.advanceTo t).get a = s.get a := by
  unfold Block.advanceTo
  by_cases k : s.clk.raw < t
  · rw [if_pos k]; exact s.get_elapse _ h
  · rw [if_neg k]

theorem Block.get_advanceTb (s : Block) (t : Nat) {a : Attr} (h : a ≠ timeRtc) : (s.advanceTb t).get a = s.get a := by
  unfold Block.advanceTb
  by_cases k : s.clk.tb < t
  · rw [if_pos k]; exact s.get_elapse _ h
  · rw [if_neg k]

/-- The clocks after an RTC update: only its fraction of a second has moved. -/
theorem Block.rtcElapse_clk (s : Block) (dt : Nat) : ∃ x, (s.rtcElapse dt).clk = { s.clk with rtcSub := x } := by
  unfold Block.rtcElapse
  by_cases k : s.get timeRtc = 0
  · rw [if_pos k]; exact ⟨s.clk.rtcSub, rfl⟩
  · rw [if_neg k]; exact ⟨_, rfl⟩

theorem Block.elapse_raw (s : Block) (k : Nat) : (s.elapse k).clk.raw = s.clk.raw + 4 * k := by
  obtain ⟨x, h⟩ := ({ s with clk := clkElapse s.clk k } : Block).rtcElapse_clk (4 * k)
  unfold Block.elapse
  rw [h]; rfl

theorem Block.elapse_tb (s : Block) (k : Nat) : (s.elapse k).clk.tb = (clkElapse s.clk k).tb := by
  obtain ⟨x, h⟩ := ({ s with clk := clkElapse s.clk k } : Block).rtcElapse_clk (4 * k)
  unfold Block.elapse
  rw [h]

/-- The raw time after a wait for an instant: the first tick at or after it. -/
theorem Block.advanceTo_raw (s : Block) (t : Nat) : (s.advanceTo t).clk.raw = s.clk.raw + 4 * ((t - s.clk.raw + 3) / 4) := by
  unfold Block.advanceTo
  by_cases k : s.clk.raw < t
  · rw [if_pos k, Block.elapse_raw]
  · rw [if_neg k]; omega

/-- Bisection answers a number with the property, where the upper bound has it. -/
theorem leastFrom_spec (p : Nat → Bool) (f lo hi : Nat) (h : p hi = true) : p (leastFrom p f lo hi) = true := by
  induction f generalizing lo hi with
  | zero => exact h
  | succ f ih =>
    unfold leastFrom
    split
    · exact h
    · split
      · next hm => exact ih _ _ hm
      · exact ih _ _ h

/-- The timebase moves by at least 1 ns each tick, where the servo has kept its distance (R87). -/
theorem clkElapse_tb_ge (c : Clk) (k : Nat) (h : c.gap ≤ 999) : c.tb + k ≤ (clkElapse c k).tb := by
  have e : (slewSteps c k : Nat) ≤ (c.gap + k) / 1000 := Nat.min_le_right _ _
  have g : (clkElapse c k).tb = ((c.tb + 4 * k : Nat) + slewSign c * (slewSteps c k : Nat) : Int).toNat := rfl
  rw [g]
  unfold slewSign
  split <;> omega

/-- The timebase after a wait for one of its values has reached it (R376). -/
theorem Block.advanceTb_ge (s : Block) (t : Nat) (h : s.clk.gap ≤ 999) : t ≤ (s.advanceTb t).clk.tb := by
  unfold Block.advanceTb
  by_cases k : s.clk.tb < t
  · rw [if_pos k, Block.elapse_tb]
    have e := clkElapse_tb_ge s.clk (t - s.clk.tb) h
    have d : decide (t ≤ (clkElapse s.clk (t - s.clk.tb)).tb) = true := decide_eq_true (by omega)
    have := leastFrom_spec (fun k => t ≤ (clkElapse s.clk k).tb) ((t - s.clk.tb).log2 + 1) 0 _ d
    exact of_decide_eq_true this
  · rw [if_neg k]; omega

/-- A record queued changes no register but EVT.LOST. -/
theorem Block.get_queueEv (s : Block) (r : EvRec) {a : Attr} (h : a ≠ evtLost) : (s.queueEv r).get a = s.get a := by
  unfold Block.queueEv
  by_cases k : s.evq.q.length < evDepth
  · rw [if_pos k]; rfl
  · rw [if_neg k]; exact Block.get_put_ne _ _ (Ne.symm h)

theorem Block.get_raiseAt (s : Block) (ts src sev code : Nat) (o : Attr) (d : Nat) {a : Attr} (h : a ≠ evtLost) :
    (s.raiseAt ts src sev code o d).get a = s.get a := s.get_queueEv _ h

theorem Block.get_raise (s : Block) (src sev : Nat) (o : Attr) (d : Nat) {a : Attr} (h : a ≠ evtLost) :
    (s.raise src sev o d).get a = s.get a := s.get_queueEv _ h

theorem Block.get_raiseC (s : Block) (src sev code : Nat) (o : Attr) (d : Nat) {a : Attr} (h : a ≠ evtLost) :
    (s.raiseC src sev code o d).get a = s.get a := s.get_queueEv _ h

theorem Block.get_auditWrite (s : Block) (o h : Nat) {a : Attr} (k : a ≠ evtLost) : (s.auditWrite o h).get a = s.get a := by
  unfold Block.auditWrite
  split
  · exact s.get_raise _ _ _ _ k
  · rfl

theorem Block.get_auditRefused (s : Block) (o c h : Nat) {a : Attr} (k : a ≠ evtLost) :
    (s.auditRefused o c h).get a = s.get a := by
  unfold Block.auditRefused
  split
  · rfl
  · exact s.get_raise _ _ _ _ k

theorem Block.get_send (s : Block) (m : HostMsg) (a : Attr) : (s.send m).get a = s.get a := rfl

theorem Block.get_acceptCmd (s : Block) (i : Nat) (b : Attr) {a : Attr} (k : a ≠ evtLost) :
    (s.acceptCmd i b).get a = s.get a := (s.send (.cmdResp i 0)).get_auditWrite _ _ k

theorem Block.get_refuseCmd (s : Block) (i : Nat) (b : Attr) (c : Nat) {a : Attr} (k : a ≠ evtLost) (h : a ≠ hostCount) :
    (s.refuseCmd i b c).get a = s.get a := by
  unfold Block.refuseCmd
  rw [Block.get_auditRefused _ _ _ _ k, Block.get_send]
  exact Block.get_countUp_ne s 63 32 (Ne.symm h)

/-- The queue's newest record is the one queued, even where a full queue discards one for it (R94). -/
theorem Block.newest_queueEv (s : Block) (r : EvRec) : (s.queueEv r).newest = some r := by
  obtain ⟨g, e⟩ : ∃ g, s.queueEv r = { s with regs := g, evq := evPush s.evq r s.clk.raw } := by
    unfold Block.queueEv
    by_cases h : s.evq.q.length < evDepth
    · exact ⟨s.regs, if_pos h⟩
    · exact ⟨_, if_neg h⟩
  rw [e]
  unfold Block.newest evPush
  by_cases h : s.evq.q.length < evDepth
  · simp [h]
  · simp [h]

/-- The newest record after an event is raised. -/
theorem Block.reports_raiseAt (s : Block) (ts src sev code : Nat) (o : Attr) (d : Nat) :
    (s.raiseAt ts src sev code o d).reports src sev code o d :=
  ⟨_, s.newest_queueEv _, rfl, rfl, rfl, rfl, rfl⟩

theorem Block.reports_raise (s : Block) (src sev : Nat) (o : Attr) (d : Nat) : (s.raise src sev o d).reports src sev 0 o d :=
  s.reports_raiseAt ..

theorem Block.reports_raiseC (s : Block) (src sev code : Nat) (o : Attr) (d : Nat) :
    (s.raiseC src sev code o d).reports src sev code o d := s.reports_raiseAt ..

/-- A command's effect answers a next state exactly when its effect on the block does, and leaves the queue. -/
theorem onBlock_next (s : State) (f : Block → BRes) (t : State) :
    onBlock s f = .next t ↔ ∃ b, f s.toBlock = .next b ∧ t = { s with toBlock := b } := by
  unfold onBlock
  constructor
  · intro h
    split at h
    · next b hb => exact ⟨b, hb, by injection h with h; exact h.symm⟩
    · cases h
    · cases h
  · rintro ⟨b, hb, rfl⟩
    rw [hb]

theorem onBlock_pending (s : State) (f : Block → BRes) (t : State) (h : onBlock s f = .next t) : t.pending = s.pending := by
  obtain ⟨b, -, rfl⟩ := (onBlock_next s f t).mp h
  rfl

/-- A command that is accepted: its act, then the answer (R350, R354). -/
theorem hostCommand_accept (i : Nat) (a : Attr) (u : Bool) (check : Block → Nat) (act : Block → Block) (r : Nat → Block → Block)
    (s : Block) (h : s.hostUp = true) (g : (s.countUp hostCount 31 0).cmdGate i a u = 0) (c : check (s.countUp hostCount 31 0) = 0) :
    hostCommand i a u check act r s = .next ((act (s.countUp hostCount 31 0)).acceptCmd i a) := by
  unfold hostCommand
  simp [h, g, c, gated]

/-- A command that is refused (R354): its count, its answer, and what the command's own chapter adds. -/
theorem hostCommand_refuse (i : Nat) (a : Attr) (u : Bool) (check : Block → Nat) (act : Block → Block) (r : Nat → Block → Block)
    (s : Block) (h : s.hostUp = true) (k : Nat) (n : k ≠ 0)
    (e : k = gated ((s.countUp hostCount 31 0).cmdGate i a u) (check (s.countUp hostCount 31 0))) :
    hostCommand i a u check act r s = .next (r k ((s.countUp hostCount 31 0).refuseCmd i a k)) := by
  unfold hostCommand
  simp only [h, Bool.not_true, Bool.false_eq_true, if_false]
  rw [← e, if_pos n]

/-- A command attribute always answers a next state. -/
theorem hostCommand_next (i : Nat) (a : Attr) (u : Bool) (check : Block → Nat) (act : Block → Block) (r : Nat → Block → Block)
    (s : Block) : ∃ t, hostCommand i a u check act r s = .next t := by
  unfold hostCommand
  dsimp only
  repeat' split
  all_goals exact ⟨_, rfl⟩

/-- A command of the pair scope always answers a next state. -/
theorem pairCommand_next (i : Nat) (a : Attr) (v : AVal) (check : Block → Nat) (act : Block → Block) (r : Nat → Block → Block)
    (s : Block) : ∃ t, pairCommand i a v check act r s = .next t := by
  unfold pairCommand
  dsimp only
  split
  · exact hostCommand_next ..
  · split
    · exact hostCommand_next ..
    · repeat' split
      all_goals exact ⟨_, rfl⟩

/-- Only a head is paired. -/
theorem Block.paired_of_role (s : Block) (h : s.role ≠ 2) : s.paired = false := by
  unfold Block.paired
  simp [h]

/-- In a module that is no head a command of the pair scope is as any command (R334). -/
theorem pairCommand_elsewhere (i : Nat) (a : Attr) (v : AVal) (check : Block → Nat) (act : Block → Block)
    (r : Nat → Block → Block) (s : Block) (h : s.role ≠ 2) :
    pairCommand i a v check act r s = hostCommand i a false check act r s := by
  unfold pairCommand Block.loneHead
  simp [h, s.paired_of_role h]

/-- At a head without a partner a command of the pair scope waits for its cycle start (R334). -/
theorem pairCommand_lone (i : Nat) (a : Attr) (v : AVal) (check : Block → Nat) (act : Block → Block)
    (r : Nat → Block → Block) (s : Block) (h : s.loneHead = true) :
    pairCommand i a v check act r s = hostCommand i a false check (fun x => lateAdd a v i (lateStart x) x) r s := by
  unfold pairCommand
  simp [h]

end Sys2Proof.Machine
end

