-- ==== Sys2Proof/Tests/Slice0.lean ====
section
/-! SUPPORT. Tests/Slice0.lean: the model's own tests: ill-formed terms that WellFormed refuses, the spec's worked examples, a few
single commands, and for every statement with hypotheses a state and operands that meet them (test_meets_*). -/

namespace Sys2Proof.Tests

open Sys2Proof Sys2Proof.Machine

set_option Elab.async false
set_option maxRecDepth 100000
set_option exponentiation.threshold 5000
/-- A session open at ENGINEER. -/
def wSess : Sess := { sessFree with st := .opened, handle := 7, level := 2, lastAt := 1000 }
/-- A module in service for 1000 s in a role and a mode, node 5. -/
def wBlock (role m : Nat) : Block :=
  { Block.reset with phase := .active, clk := { clkInit with raw := 1000000000000, tb := 1000000000000 },
                     host := { hostInit with sess := [wSess, sessFree, sessFree, sessFree] },
                     img := { imgInit with role := role, node := 5 } }.fput modeState 2 0 m
/-- A machine with no command waiting. -/
def wState (b : Block) : State := { toBlock := b, pending := [] }
/-- A module alone in service in mode `m`. -/
def W (m : Nat) : State := wState (wBlock 1 m)
/-- A HEAD on the ring in cycle 999 of 1 ms. -/
def H (m : Nat) : State :=
  let b := (wBlock 2 m).put floeCfg (1000 + 300 * 2 ^ 32 + 200 * 2 ^ 64)
  wState { b with floe := { b.floe with cycle := some 999, cfg := b.get floeCfg } }
/-- A machine with registers set. -/
def wPut (s : State) (l : List (Attr × Nat)) : State := { s with toBlock := l.foldl (fun b e => b.put e.1 e.2) s.toBlock }
/-- A machine with its block changed. -/
def wUp (s : State) (f : Block → Block) : State := { s with toBlock := f s.toBlock }
/-- A key of 32 MiB with nothing on it. -/
def wKey : KeyDev :=
  { jedec := 0x1940EF, sfdpSig := 0x50444653, sfdpMaj := 1, sfdpMin := 6, dwords := 16, densLog2 := 25, fast144 := true, erase4k := true,
    erase64k := true, page256 := true, quadEn := true, fail1 := 0, fail2 := 0, readBadA := false, readBadB := false, flash := [] }
/-- A datagram of a session, with its tag, or without one where `typ` is 0. -/
def wDg (pay : List Byte) (typ seq node sess : Nat) (x : Sess) : Dgram :=
  let d0 : Dgram := ⟨0x0A000001, 5000, 0x5948, 1, sess, node, seq, 55, 0, pay.length, pay, List.replicate 32 0⟩
  if typ = 0 then d0 else { d0 with tag := hmac256 x.key (yhpHdr typ d0 ++ d0.payload) }
/-- The tag of such a datagram is right. -/
theorem wDg_tag (pay : List Byte) (typ seq node sess : Nat) (x : Sess) (h : typ ≠ 0) :
    (wDg pay typ seq node sess x).tag =
      hmac256 x.key (yhpHdr typ (wDg pay typ seq node sess x) ++ (wDg pay typ seq node sess x).payload) := by
  simp [wDg, yhpHdr, h]
/-- A key whose slot A holds a signed image of one record of 16 bytes that defines nothing, and no mark. -/
def wImgKey : KeyDev :=
  { wKey with flash := flashProg [] 0 ([0x45, 0x56, 0x46, 0x49, 1, 0, 0x80, 0, 0x90, 0, 0, 0, 1, 1, 5, 0, 1, 0, 2, 0, 0x96, 0x48, 0, 0, 7, 0, 0, 0, 0, 0, 0, 0] ++
      leBytes 32 0xe12fd29ecbb2cfd13b3243bde4eabd475e1002b6ff96509394ba2d9ea1739e ++
      leBytes 64 0x2f320f40741c59e89b97ee6d0a5e83b608a2b4bb11fcef269d972f719b101fdaf185c79451609d0c6be6989fbbe914b390554c6f434490e408b24eb9366493a ++
      [1, 0, 0, 0, 16, 0, 0, 0, 0, 0, 0, 0, 0, 0, 0, 0]) }
/-- The key store's entry 2 holds the public key that image is signed with. -/
def wKeyed (s : State) : State := wPut s [(imgKey 2, 1 + 256 * 0x1a5107f7681a02af2523a6daf372e10e3a0764c9d3fe4bd5b70ab18201985ad7)]
/-- A dry run that finds no fault in a STRICT image. -/
theorem wRun (x : Except Nat (Bool × List RecErr)) (h : (match x with | .ok p => p.1 && p.2.isEmpty | .error _ => false) = true) :
    x = .ok (true, []) := by
  match x, h with
  | .ok (true, []), _ => rfl
/-- Rows of ones, out of one list of ones. -/
theorem wRows (n : Nat) : rowsOf 812 n (List.replicate (812 * n) 1) = List.replicate n (List.replicate 812 1) := by
  induction n with
  | zero => rfl
  | succ n ih =>
    have h1 : (List.replicate (812 * (n + 1)) (1 : Int)).take 812 = List.replicate 812 1 := by
      rw [List.take_replicate]; congr 1
    have h2 : (List.replicate (812 * (n + 1)) (1 : Int)).drop 812 = List.replicate (812 * n) 1 := by
      rw [List.drop_replicate]; congr 1
    rw [rowsOf, h1, h2, ih, ← List.replicate_succ (n := n)]
/-- The column sums of rows of ones. -/
theorem wSums (n : Nat) (a : Int) :
    ((List.replicate n (List.replicate 812 1)).zip (List.replicate n 1)).foldl (fun acc x => addRow acc x.1 x.2) (List.replicate 812 a) =
      List.replicate 812 (a + n) := by
  induction n generalizing a with
  | zero => simp
  | succ n ih =>
    rw [List.replicate_succ (n := n) (a := List.replicate 812 (1 : Int)), List.replicate_succ (n := n) (a := (1 : Int)), List.zip_cons_cons, List.foldl_cons,
      show addRow (List.replicate 812 a) (List.replicate 812 1) 1 = List.replicate 812 (a + 1) by simp [addRow], ih]
    congr 1; push_cast; omega
/-- A sensitivity matrix of ones passes R135's checks. -/
theorem wSens : tmSensCheck ⟨2, 3, 120, 812, List.replicate 97440 1⟩ (wPut (W 5) [(modeState, 5 + 65536)]).counted = 0 := by
  have h : (tmWeights (rowsOf 812 120 (List.replicate 97440 1))).all (fun w => decide (0 < w)) = true := by
    rw [show (97440 : Nat) = 812 * 120 from rfl, wRows, tmWeights, matT, zeroRow, wSums]; simp
  unfold tmSensCheck
  simp only [List.length_replicate, h]
  decide +kernel

/-! ## Terms that are not well-formed -/

/-- A datagram that is well-formed, and one whose MAGIC has 17 bits. -/
def wGood : Dgram := ⟨1, 1, 0x5948, 1, 7, 5, 1, 1, 0, 0, [], List.replicate 32 0⟩
def wBad : Dgram := { wGood with magic := 2 ^ 16 }
/-- A frame header and a TIME frame. -/
def wHdr : FloeHdr := ⟨2, 0, 7, 0, 1, 1, 999, 1⟩
def wTf : TimeFrame := ⟨1, 1, 1, 0, 1, 1⟩
theorem test_wf_datagrams :
    wGood.wf = true ∧ [{ wGood with ip := 2 ^ 32 }, { wGood with port := 2 ^ 16 }, { wGood with ver := 256 }, { wGood with session := 2 ^ 16 },
      { wGood with node := 2 ^ 16 }, { wGood with seq := 2 ^ 32 }, { wGood with reqId := 2 ^ 32 }, { wGood with status := 2 ^ 16 },
      { wGood with len := 2 ^ 16 }, { wGood with payload := List.replicate 1473 0 }, { wGood with tag := [] }].all (fun d => !d.wf) = true := by
  decide
theorem test_wf_tables : (⟨1, 2, 2, 1, [5, 6]⟩ : Table).wf = true ∧
    [(⟨1, 2, 2, 2, [1, 2, 3]⟩ : Table), ⟨1, 2, 2 ^ 16, 0, []⟩, ⟨1, 2, 0, 2 ^ 16, []⟩].all (fun t => !t.wf) = true := by decide
theorem test_wf_refuses_0 : (
    [.esupOvercurrent 8, .stageOpen 1 2 1, .stageOpen 4 1 1, .stageOpen 1 1 (2 ^ 32), .stageData 4 1 [],
     .stageData 1 (2 ^ 32) [], .stageClose 4, .stageAbort 4, .keyInstall 1 4 1, .keyInstall 4 1 1, .keyInstall 1 1 (2 ^ 256),
     .keyRevoke 1 4, .keyRevoke 4 1, .svnRaise 4, .modeCmdSafe 4, .modeCmdRun 4, .modeCmdHold 4, .modeCmdFallback 4,
     .modeCmdService 4, .modeCmdPark 4, .modeCmdDeepPark 4, .modeCmdUnpark 4, .modeCmdWarm 4, .modeCmdReload 4] : List Instr).all (fun c => !c.wf) = true := by decide
theorem test_wf_refuses_1 : (
    [.modeCmdAckShutdown 4, .persistCommit 4, .persistClear 4, .persistDrop 4 1, .persistDrop 1 (2 ^ 32), .timeSet 4 1,
     .timeSet 1 (2 ^ 64), .refSelWrite 4 1, .refSelWrite 1 256, .timeFrame wTf 2, .feValue 48 [] (0, 0) (0, 0) false,
     .feValueRelease 48, .aoInvalidTimeout 48, .feTonesWrite 1 48 1, .feTonesWrite 4 1 1, .feTonesWrite 1 1 (2 ^ 1024),
     .feRateWrite 1 48 1, .feRateWrite 4 1 1, .feRateWrite 1 1 256, .feExcitationApply 48, .feGroupRestart 1 3,
     .feGroupRestart 4 1, .excitationFault 48 1 [] (0, 0) (0, 0) (0, 0), .excitationFault 1 3 [] (0, 0) (0, 0) (0, 0)] : List Instr).all (fun c => !c.wf) = true := by decide
theorem test_wf_refuses_2 : (
    [.excitationFaultClear 48, .shortTest 48, .feGroupLinkFault 3 false, .tomoFrame 12 1 1 false, .tomoKernelDone 12,
     .calEmpty 1 12 1, .calEmpty 4 1 1, .calEmpty 1 1 256, .calFull 1 12 1, .calFull 4 1 1, .calFull 1 1 256, .tomoCalDone 12,
     .tomoRestart 1 12, .tomoRestart 4 1, .tomoSensWrite 1 12 ⟨0, 0, 0, 0, []⟩, .tomoSensWrite 4 1 ⟨0, 0, 0, 0, []⟩,
     .tomoSensWrite 1 1 ⟨0, 0, 2, 2, [1, 2, 3]⟩, .tomoMapRecord 12, .tomoRimeSetup 12, .rimeSetupAck 12 1 1,
     .rimeAdmit 1 12 1 [], .rimeLinkDown 3, .rimeLinkUp 3 false, .rimeRetrain 3] : List Instr).all (fun c => !c.wf) = true := by decide
theorem test_wf_refuses_3 : (
    [.classSample 4 [], .classPublish 4 1, .classOverrun 4 1, .classOverrun 1 4, .swap 1 256, .swap 4 1,
     .bankWrite 1 256 false ⟨0, 0, 0, 0, []⟩, .bankWrite 4 1 false ⟨0, 0, 0, 0, []⟩,
     .bankWrite 1 1 false ⟨0, 0, 2, 2, [1, 2, 3]⟩, .clearPlaus 1 256, .clearPlaus 4 1, .restore 1 4, .restore 4 1,
     .coreSelfTest 4 false, .coreMemoryError 4, .staticObservation 8, .programTimerExpiry 8, .aerationWindow 8 1,
     .aerationWindow 1 2, .lineStart 1 8, .lineStart 4 1, .lineStop 1 8, .lineStop 4 1, .nextStep 1 8] : List Instr).all (fun c => !c.wf) = true := by decide
theorem test_wf_refuses_4 : (
    [.nextStep 4 1, .observe 1 8 1 1, .observe 4 1 1 1, .observe 1 1 1024 1, .observe 1 1 1 (2 ^ 32), .clearCorr 1 8,
     .clearCorr 4 1, .clearHold 1 8, .clearHold 4 1, .coolRun 1 8, .coolRun 4 1, .axisStart 12, .axisCatchDone 12 false 0,
     .axisAlignDone 12 1, .axisStartCheck 12 1 false, .axisRetryWaitEnd 12, .axisAttemptsReset 12, .axisStop 12,
     .axisRampStopDone 12, .axisTrip 12 1 1 1, .axisTrip 1 4 1 1, .bfltFault 12, .axisDcUndervoltage 12 1, .axisUvRecovery 12 1] : List Instr).all (fun c => !c.wf) = true := by decide
theorem test_wf_refuses_5 : (
    [.axisOpenPhase 12 1 1 1, .axisTripAutoClear 12, .axisClear 1 12 false, .axisClear 4 1 false, .tachLoss 12 1 1,
     .tachLoss 1 0 1, .tachLoss 1 4 1, .axisCurLim 12, .pullinEnd 24, .pullinDeadline 24,
     .valveChannelFault 24 ⟨0, 0, 0, 0, false⟩, .valveBankFault 6 1 1 1 false, .vbLow 6 1, .vbAbsent 6 1, .vbReturn 6 1,
     .valveClear 1 24 false, .valveClear 4 1 false, .valveRetry 1 24 false, .valveRetry 4 1 false, .bankClear 1 6 false,
     .bankClear 4 1 false, .barrierFrame 6 false false, .dioInputTransition 96 false, .wireBreak 96] : List Instr).all (fun c => !c.wf) = true := by decide
theorem test_wf_refuses_6 : (
    [.wireBreakClear 96, .dioOverload 96, .dioOverloadRetry 96, .readbackMismatch 96 false, .parallelMismatch 96 false,
     .linkTimeoutPattern 6, .dioLinkLost 6, .dioLinkRetrain 6 false, .lPlusUndervoltage 6, .lPlusLow 6, .lPlusRecovery 6,
     .fieldOvertemperature 6, .fieldOvertemperatureClear 6, .dioClear 1 6, .dioClear 4 1, .probeWrite 1 6 1, .probeWrite 4 1 1,
     .probeWrite 1 1 (2 ^ 32), .encoderEdge 8 1 false, .encoderEdge 1 3 false, .standstill 8, .encIndex 8,
     .encoderLineFault 8 1, .encoderLineFault 1 3] : List Instr).all (fun c => !c.wf) = true := by decide
theorem test_wf_refuses_7 : (
    [.encPreset 1 8 1, .encPreset 4 1 1, .encPreset 1 1 (2 ^ 64), .encClear 1 8 false, .encClear 4 1 false, .rebase 1 4,
     .rebase 4 1, .ratioWrite 1 4 1, .ratioWrite 4 1 1, .ratioWrite 1 1 (2 ^ 64), .emulationEdge 4, .thermSample 33 0,
     .thermStepDown 23, .thermStepRelease 23, .zoneShutdownClear 23, .sensorBroken 33 1, .sensorBroken 1 0, .sensorBroken 1 5,
     .sensorRestored 33 0, .thermClear 1 23, .thermClear 4 1, .floeLinkDown 3, .floeLinkUp 3 1,
     .floeFrameForward 3 wHdr false false 1 false none] : List Instr).all (fun c => !c.wf) = true := by decide
theorem test_wf_refuses_8 : (
    [.linkDelayProbe 3 1, .drill 4 1, .drill 1 (2 ^ 16), .drillEnd 4, .epochReset 4, .hostOpen wBad, .provisioningOpen wBad,
     .hostConfirm wBad, .confirmTimeout 4, .hostClose wBad, .sessionIdleTimeout 4, .keepalive wBad, .hostRead wBad,
     .hostWrite wBad false, .segmentBufferTimeout 5, .relayRequest false (2 ^ 12) 1 1 1 [] false,
     .relayRequest false 1 1 1 (2 ^ 32) [] false, .bulkQuery wBad, .bulkAck wBad, .bulkResend 4, .bulkQueryTimeout 4,
     .evtSub wBad, .evtAck wBad, .evtResend 4] : List Instr).all (fun c => !c.wf) = true := by decide
theorem test_wf_refuses_9 : (
    [.authInstall 1 4 1 1, .authInstall 4 1 1 1, .authInstall 1 1 4 1, .authInstall 1 1 1 (2 ^ 256), .authErase 1 4,
     .authErase 4 1, .wdWrite 4 1, .wdWrite 1 (2 ^ 32), .modbusRequest 1 256 1 1, .modbusRequest 1 1 (2 ^ 16) 1,
     .modbusRequest 1 1 1 (2 ^ 16), .trendSample 512, .bridgeNrdyClear 12, .chopPeriod 24 1 1 false, .openOffClear 24] : List Instr).all (fun c => !c.wf) = true := by decide

/-! ## Worked examples of the spec -/

/-- The example of R10 (spec/00_scope.md) and the IDs that the object tables of chapters 05 and 07 and the worked example of
chapter 16 name. -/
theorem test_object_ids :
    oidOf ⟨9, 0, 3, 0x020⟩ = 0x09003020 ∧ oidOf (feStat 12) = 0x0500C010 ∧ oidOf (lpMode 7) = 0x07007028 ∧
    oidOf (lpSp 7) = 0x07007025 ∧ attrOf 0x07007025 = lpSp 7 := by decide

/-- The 48 bytes of the *Example image body* table (spec/02_configuration_key_and_image.md). -/
def wBody : List Byte :=
  [1, 0, 0, 0, 0x30, 0, 0, 0, 2, 0, 0, 0, 0, 0, 0, 0, 0x45, 0, 0, 1, 1, 0, 0, 0, 1, 0, 0, 0, 0x0F, 0, 0, 0,
   0x45, 0, 0, 1, 2, 0, 0, 0, 2, 0, 0, 0, 0, 0x0F, 0, 0]
/-- Its records. -/
def wRecs : List ImgRec := [⟨0x01000045, 1, [0x0F], 144⟩, ⟨0x01000045, 2, [0x00, 0x0F], 160⟩]
theorem test_image_body_records : (parseSects 1 0 128 wBody).toOption = some wRecs := by decide
theorem test_image_applied :
    let x := imgApply Block.reset ⟨1, true, 0, 1, 0, 1, 176, 0⟩ wRecs
    x.2 = [] ∧ x.1.get devEsupEn = 0x0F ∧ narrowErr x.1 devEsupEn 0x03 = 0 ∧ narrowErr x.1 devEsupEn 0x10 = 0x0201 := by decide +kernel

/-- FIPS 180-4's message "abc", and RFC 4231's first test case. -/
theorem test_sha256_abc :
    sha256 [0x61, 0x62, 0x63] = (leBytes 32 0xba7816bf8f01cfea414140de5dae2223b00361a396177a9cb410ff61f20015ad).reverse := by decide +kernel
theorem test_hmac_rfc4231 :
    hmac256 (List.replicate 20 0x0B) [0x48, 0x69, 0x20, 0x54, 0x68, 0x65, 0x72, 0x65] =
      (leBytes 32 0xb0344c61d8db38535ca8afceaf0bf12b881dc200c9833da726e9376c2e32cff7).reverse := by decide +kernel
/-- The check value of the CRC-32 of R43: the nine digits 1 to 9. -/
theorem test_crc32_digits : crc32 [0x31, 0x32, 0x33, 0x34, 0x35, 0x36, 0x37, 0x38, 0x39] = 0xCBF43926 := by decide
/-- An image signed by RFC 8032's rules outside the model boots; with one header byte changed it is refused with 0x0502. -/
theorem test_signed_image : (match dryRun (wKeyed (W 5)).toBlock wImgKey 0 with | .ok p => p.1 && p.2.isEmpty | .error _ => false) = true := by
  decide +kernel
theorem test_changed_image :
    (match dryRun (wKeyed (W 5)).toBlock { wImgKey with flash := flashProg (flashErase wImgKey.flash 24 1) 24 [6] } 0 with
      | .ok _ => 0 | .error e => e) = 0x0502 := by
  decide +kernel

/-- The wheat probe of chapter 05: the polynomial gives 15.18 %, the table 15.08 %, and AO2 holds 16 974. -/
theorem test_fe_poly :
    polyAt ([716800, -76800, 0, 0, 768000, 30720] ++ List.replicate 18 0) 8000000 8000000 4000 6000 4550000 (some 3800) = (1518, false) := by
  decide
theorem test_fe_pwl : pwlAt [3000000, 800, 4000000, 1260, 5000000, 1710, 6000000, 2150] 4550000 = (1508, false) := by decide
theorem test_ao_frac :
    (aoUpdate 1518 (wPut (W 2) [(aoSpan 2, 1000 + 3000 * 2 ^ 32), (devSupply, 16)]).toBlock 2).fget (aoStat 2) 15 0 = 16974 := by decide

/-- The silo of chapter 06: PEAK, the pair of electrodes 0 and 8, r_7 and λ_7, pixel 387, and its moisture. -/
theorem test_tomo_peak : peakMv 9000 false 0 = 9378 := by decide +kernel
theorem test_tomo_pairs : tmPairs[7]? = some (0, 8) ∧ tmPairs.length = 120 := by decide
theorem test_tomo_capacitances :
    tmRecip 0 (850000, 852000) = 24 ∧ (tmLambda 0 620000 1080000 (850000, 852000) * 10000 + 2 ^ 29) / 2 ^ 30 = 5022 := by decide
theorem test_tomo_pixels : tmPixAt 0 15 = some 374 ∧ tmPixAt 13 15 = some 387 ∧ tmPixAt 0 0 = none := by decide
theorem test_tomo_moisture :
    polyAt ([729600, -76800, 0, 0, 780800, 30720] ++ List.replicate 18 0) 8000000 8000000 4000 6000 4150000 (some 1200) = (1549, false) := by
  decide

/-- The plenum loop of chapter 07: its row is accepted, and one sample later the output is 0.439 921 and s1 0.439 999 98. -/
def wRow : Sec := ⟨859208208, -858993459, 0, -1073741824, 0, 1⟩
theorem test_loop_row : secCheck wRow = 0 := by decide
theorem test_loop_sample :
    let r := secEval wRow (44 * 2 ^ 42 / 100, 0) (-99 * 2 ^ 30 / 1000000)
    (r.1 * 1000000 + 2 ^ 29) / 2 ^ 30 = 439921 ∧ (r.2.1 * 100000000 + 2 ^ 41) / 2 ^ 42 = 43999998 := by decide

/-- The fan of chapter 09: Q 38 511 m³/h, 1576 Pa, RHO 11 872, QUAL VALID. -/
def wFan : State :=
  { wPut (W 2) [(axCfg 2, 3), (axStat 2, 1 + 4 * 5), (axsStat, 1), (axsBaro, 98200 * 2 ^ 64), (axMotor 2, 300 * 2 ^ 224),
      (feLast 13, 999999999999 + 1500 * 2 ^ 64),
      (axAirCfg 2, 14800 + 12000 * 2 ^ 32 + 0x0500D011 * 2 ^ 64 + 3 * 2 ^ 108)] with
    tabs := [(axCurve 2, ⟨1, 2, 5, 3, [200000, 120000, 24000, 300000, 155000, 22500, 400000, 185000, 20500, 500000, 210000, 17500, 600000, 228000, 13500]⟩)] }
theorem test_airflow :
    let s := axAirSample 2 (wUp wFan (fun b => (b.setFch 13 { b.fch 13 with delivAt := some 5 }).setXch 2 { b.xch 2 with sumT := 1012000000000, sumN := 13320, cnt := 1 })).toBlock
    s.fget (axAir 2) 143 128 = 11872 ∧ s.fget (axAir 2) 97 96 = 0 ∧ (s.fget (axAir 2) 95 64 + 5) / 10 = 38511 ∧
    s.fget (axAir 2) 127 112 = 1576 := by decide +kernel

/-- Bank 2 of chapter 10: LS8's debit is 1632 mJ, then 2688 mJ are left and 4.5 ms later 2778 mJ. -/
theorem test_boost_account :
    let s := wUp (wPut (W 2) [(vlvShape 8, 6000 + 500 * 2 ^ 16), (vlvCfg 11, 1 + 2), (vlvShape 11, 2000 * 2 ^ 48)])
      (fun b => (b.setVch 11 { b.vch 11 with hold := true, out := 800 }))
    vDebit s.toBlock 8 = 163200000 ∧
    boostNow { s.toBlock with valve := { s.valve with acc := boostCap - 163200000, accAt := s.clk.raw - 4500000 } } = 277800000 := by
  decide +kernel

/-- The metering roll of chapter 12: 2500 counts per second over the last four edges. -/
theorem test_encoder_speed :
    let s := wUp (wPut (W 2) [(encTiming 0, 100), (encCfg 0, 1 + 4 * 2 + 2000 * 2 ^ 32)])
      (fun b => b.setEch 0 { b.ech 0 with run := (List.range 6).map (fun k => (1000000000000 - 400000 * k, (10 : Int) - k)) })
    encSpeed s.toBlock 0 = (((4 : Int), 1600000), false) := by decide +kernel

/-- Bank 4 of chapter 13: steps 1 to 4 hold 1350, 1200, 1050 and 900 mA. -/
theorem test_thermal_holds : [1, 2, 3, 4].map (vCap 1500) = [1350, 1200, 1050, 900] := by decide

/-- The ring of chapter 14: T_G 349.784 µs and T_W 349.112 µs at 249 hops. -/
theorem test_ring_budget :
    let s := wUp (wPut (H 2) [(floeRing, 249 * 2 ^ 32)]) (fun b =>
      { b with floe := { b.floe with snaps := List.replicate 249 (6, 0, 148), bc := 36852 / 2, lx := 64 } })
    (ringBudget 9800 0 s.toBlock).get floeBudget = 349784 + 349112 * 2 ^ 32 := by decide +kernel

/-- The claims of chapter 15: EPOCH 0x41 with RANK 1 and 2. -/
theorem test_claims :
    let s := fun node => wUp (wPut (H 2) [(pairEpoch, 0x41), (pairCfg, 1 + 2 * 2 ^ 16)]) (fun b => { b with img := { b.img with node := node } })
    pairOwn (s 1).toBlock = 0x4102 ∧ pairOwn (s 2).toBlock = 0x4101 := by decide

/-- The header of the *WRITE datagram* table of chapter 16. -/
theorem test_yhp_header :
    yhpHdr 0x11 ⟨0, 0, 0x5948, 1, 2, 0, 0x131, 42, 0, 16, [], []⟩ =
      [0x59, 0x48, 1, 0x11, 0, 2, 0, 0, 0, 0, 1, 0x31, 0, 0, 0, 0x2A, 0, 0, 0, 0x10, 0, 0, 0, 0] := by decide

/-! ## Single commands -/

/-- A loop's SP in a class of 10 ms, written 3 ms after a boundary (R175): 10 ms after it, on a module alone. -/
def wLate (s : State) : State :=
  wUp (wPut s [(clsCfg 2, 2500000 + 80 * 2 ^ 32 + 3 * 2 ^ 40), (lpCfg 7, 4)]) (fun b => { b with clk := { b.clk with tb := 1000003000000 } })
theorem test_loop_write_waits :
    let s := wLate (W 2)
    let d := (lateDue s.toBlock (lpSp 7)).getD 0
    d = 1000003002000 ∧ lateAt s.toBlock (lpSp 7) d = 1000010000000 ∧
    lateDue (wLate (H 2)).toBlock (lpSp 7) = some 1000004000000 ∧ lateDue s.toBlock hostWd = none := by decide +kernel
theorem test_loop_write_taken :
    (match exec (.classSample 2 []) (wUp (wLate (W 2)) (fun b => lateTake (lpSp 7) (.num 6500) 1000003002000 b)) with
     | .next t => (t.get (lpSp 7), (t.cls 2).last, t.late.length) | _ => (0, 0, 9)) = (6500, 1000010000000, 0) := by decide +kernel

/-- A class of 10 ms set to 25 ms (R175): the write takes effect at a boundary of the old period, the next sample is at 1.025 s. -/
theorem test_class_write_taken :
    (match exec (.classSample 2 []) (wUp (wLate (W 2)) (fun b => lateTake (clsCfg 2) (.num (6250000 + 80 * 2 ^ 32 + 3 * 2 ^ 40)) 1000003002000 b)) with
     | .next t => (t.cls 2).last | _ => 0) = 1000025000000 := by decide +kernel

/-- SERVICE is not reached from RUN (spec/03_bringup_modes_resets.md). -/
theorem test_service_from_run :
    (match exec (.modeCmdService 0) (W 2) with | .next t => t.modeNo | _ => 9) = 2 := by decide +kernel
/-- A step takes the command at the front. -/
theorem test_step_takes_front :
    (match step { W 2 with pending := [.refinLost, .rtcUpdate] } with | .next t => t.pending | _ => []) = [.rtcUpdate] := by decide +kernel
/-- There are axes 0 to 11: a start of another has no effect. -/
theorem test_axis_12 : exec (.axisStart 12) (W 2) = .next (W 2) := rfl
/-- The opcode table gives no bits, so no word spells a command (log entry 7). -/
theorem test_no_words : decodeTableWord 16 0 = none ∧ (State.reset.withFetchWord 16 0) = State.reset := by decide

/-! ## What meets the hypotheses of each statement -/

theorem test_meets_StepTakesFrontCommand :
    (∃ (c : Instr) (r : List Instr) (s : State), s.pending = c :: r) :=
  ⟨.snapshotLaunch, [], { H 2 with pending := [.snapshotLaunch] }, rfl⟩

theorem test_meets_IdleTick :
    (∃ (s : State), s.pending = []) :=
  ⟨W 2, (by decide +kernel)⟩

theorem test_meets_ObjectIdsRoundTrip :
    (∃ oid, oid = 0x09003020 ∧ oid < 2 ^ 32) ∧
    (∃ a : Attr, a.blk < 256 ∧ a.kind < 16 ∧ a.idx < 256 ∧ a.att < 4096) :=
  ⟨⟨_, rfl, by decide⟩,
   ⟨⟨9, 0, 3, 0x020⟩, by decide, by decide, by decide, by decide⟩⟩

def wSupplyEvents0 : State :=
  wUp (wPut (W 2) [(devSupply, 0x19)]) (fun b => { b with supply := { supplyInit with vbRestartAt := some 2000000000000 } })

theorem test_meets_SupplyEvents :
    (∃ (s : State) (bpos : Nat) (mv : Nat), s.phase = .off ∧ 9000 < mv ∧ mv < 65536 ∧ bpos < 4) ∧
    (∃ (s : State) (mv : Nat), s.phase ∈ [.active, .pending, .park, .noImage, .halted] ∧ s.bit devSupply 1 = false ∧ mv < 8500) ∧
    (∃ (s : State) (mv : Nat), s.phase ∈ [.active, .pending, .park, .noImage, .halted] ∧ s.bit devSupply 1 = true ∧ 9000 < mv ∧ mv < 65536) ∧
    (∃ (s : State) (mv : Nat), s.phase ∈ [.active, .pending, .park, .noImage, .halted] ∧ s.bit devSupply 1 = true ∧ 5500 < mv ∧ ((s.supply.usFed = false ∨ s.get devHoldMv < mv)) ∧ mv < 65536) ∧
    (∃ (s : State) (mv : Nat), s.phase ≠ .off ∧ s.phase ≠ .deepPark ∧ s.bit devSupply 1 = false ∧ s.bit devSupply 3 = false ∧ s.supply.vbLatched = false ∧ 42000 ≤ mv ∧ mv ≤ 54000) ∧
    (∃ (s : State) (mv : Nat), s.phase ∈ [.active, .pending, .park, .noImage, .halted] ∧ s.bit devSupply 1 = false ∧ s.bit devSupply 3 = false ∧ ((mv < 42000 ∨ 54000 < mv)) ∧ mv < 65536) ∧
    (∃ (s : State) (at' : Nat), s.supply.vbRestartAt = some at') ∧
    (∃ (s : State) (e : Nat), e < 8 ∧ s.phase ∈ [.active, .pending, .park, .noImage, .halted] ∧ s.bit devSupply (24 + e) = true) ∧
    (∃ (s : State) (mv : Nat), s.phase ∈ [.active, .pending, .park, .noImage, .halted] ∧ s.bit devSupply 4 = true ∧ ((mv < 900 ∨ 11000 < mv)) ∧ mv < 65536) ∧
    (∃ (s : State) (mv : Nat), s.phase ∈ [.active, .pending, .park, .noImage, .halted] ∧ s.bit devSupply 4 = false ∧ 900 ≤ mv ∧ mv ≤ 11000) ∧
    (∃ (s : State) (mv : Nat), s.phase ∈ [.active, .pending, .park, .noImage, .halted] ∧ s.bit devSupply 1 = true ∧ mv < 8500) :=
  ⟨⟨wUp (W 2) (fun b => { b with phase := .off }), 2, 24000, (by decide +kernel), (by decide +kernel), (by decide +kernel), (by decide +kernel)⟩,
   ⟨wPut (W 2) [(devSupply, 0x15)], 8000, (by decide +kernel), (by decide +kernel), (by decide +kernel)⟩,
   ⟨wPut (W 2) [(devSupply, 0x16)], 24000, (by decide +kernel), (by decide +kernel), (by decide +kernel), (by decide +kernel)⟩,
   ⟨wPut (W 2) [(devSupply, 0x16)], 24000, (by decide +kernel), (by decide +kernel), (by decide +kernel), (by decide +kernel), (by decide +kernel)⟩,
   ⟨wPut (W 2) [(devSupply, 0x11)], 48000, (by decide +kernel), (by decide +kernel), (by decide +kernel), (by decide +kernel), (by decide +kernel), (by decide +kernel), (by decide +kernel)⟩,
   ⟨wPut (W 2) [(devSupply, 0x15)], 30000, (by decide +kernel), (by decide +kernel), (by decide +kernel), (by decide +kernel), (by decide +kernel)⟩,
   ⟨wSupplyEvents0, 2000000000000, (by decide +kernel)⟩,
   ⟨wPut (W 2) [(devSupply, 0xFF000015)], 3, (by decide +kernel), (by decide +kernel), (by decide +kernel)⟩,
   ⟨wPut (W 2) [(devSupply, 0x15), (aoCfg 2, 256 + 512)], 500, (by decide +kernel), (by decide +kernel), (by decide +kernel), (by decide +kernel)⟩,
   ⟨wPut (W 2) [(devSupply, 0x05), (aoCfg 2, 256 + 512)], 10000, (by decide +kernel), (by decide +kernel), (by decide +kernel), (by decide +kernel)⟩,
   ⟨wPut (W 2) [(devSupply, 0x16)], 8000, (by decide +kernel), (by decide +kernel), (by decide +kernel)⟩⟩

theorem test_meets_ResetsKeepWhatTheyKeep :
    (∃ (s : State), s.phase ≠ .off) ∧
    (∃ (s : State), s.phase ≠ .off ∧ s.phase ≠ .held) ∧
    (∃ (s : State), s.phase = .held) ∧
    (∃ (s : State), s.phase ∈ [.pending, .noImage, .active, .park]) ∧
    (∃ (s : State), s.phase = .off) :=
  ⟨⟨wPut (W 2) [(devSupply, 0x15)], (by decide +kernel)⟩,
   ⟨wPut (W 2) [(devSupply, 0x15)], (by decide +kernel), (by decide +kernel)⟩,
   ⟨wUp (W 0) (fun b => { b with phase := .held }), (by decide +kernel)⟩,
   ⟨wPut (W 2) [(devSupply, 0x15)], (by decide +kernel)⟩,
   ⟨wUp (W 0) (fun b => { b with phase := .off }), (by decide +kernel)⟩⟩

def wControlInputs0 : State :=
  wUp (wPut (W 2) [(devSupply, 0x20)]) (fun b => { b with host := { b.host with sess := [wSess, { wSess with prov := true, handle := 9 }, sessFree, sessFree] } })

theorem test_meets_ControlInputs :
    (∃ (s : State) (l : Bool), ((s.phase ≠ .park ∧ s.phase ≠ .deepPark) ∨ l = false ∨ s.bit devSupply 6 = true)) ∧
    (∃ (s : State), s.phase = .park ∧ s.bit devSupply 6 = false) ∧
    (∃ (s : State), s.phase = .deepPark ∧ s.bit devSupply 6 = false) ∧
    (∃ (s : State), s.host.sess.length ≤ 4) ∧
    (∃ (s : State) (up : Bool), s.hostUp = true ∧ s.bit hostStat 2 ≠ up) :=
  ⟨⟨W 2, true, (by decide +kernel)⟩,
   ⟨wUp (W 1) (fun b => { b with phase := .park }), (by decide +kernel), (by decide +kernel)⟩,
   ⟨wUp (W 1) (fun b => { b with phase := .deepPark }), (by decide +kernel), (by decide +kernel)⟩,
   ⟨wControlInputs0, (by decide +kernel)⟩,
   ⟨W 2, true, (by decide +kernel), (by decide +kernel)⟩⟩

def wBootEnds0 : State :=
  wUp (W 0) (fun b => { b with phase := .pending, mram := { b.mram with sdNew := some (5, false) } })

def wBootEnds1 : State :=
  wUp (W 0) (fun b => { b with phase := .pending, rst := { b.rst with sdWait := 1000 } })

theorem test_meets_BootEnds :
    (∃ (s : State) (b : BootIn) (k : KeyDev) (x : Block) (slot : Nat) (took : Nat), s.phase = .pending ∧ s.rst.sdWait = 0 ∧ ((s.mram.sdNew = none ∨ b.sdCool = true)) ∧ ((b.tcxoOk = true ∨ b.refin = true)) ∧ (bootStart b s.toBlock).key = some k ∧ keyOk k = true ∧ bootTry k (bootBase s.toBlock) (bootStart b s.toBlock) = (x, some slot, took)) ∧
    (∃ (s : State) (b : BootIn), s.phase = .pending ∧ s.rst.sdWait = 0 ∧ ((s.mram.sdNew = none ∨ b.sdCool = true)) ∧ ((b.tcxoOk = true ∨ b.refin = true)) ∧ b.key = .absent) ∧
    (∃ (s : State) (b : BootIn) (at' : Nat × Bool), s.phase = .pending ∧ s.rst.sdWait = 0 ∧ s.mram.sdNew = some at' ∧ b.sdCool = false) ∧
    (∃ (s : State), s.phase = .pending ∧ s.rst.sdWait ≠ 0) :=
  ⟨⟨wKeyed (wUp (W 0) (fun b => { b with phase := .pending })), ⟨.dev wImgKey, true, false, false, true, [], true, true, [], []⟩, wImgKey, _, 0, _,
     (by decide +kernel), (by decide +kernel), (by decide +kernel), (by decide +kernel), (by decide +kernel), (by decide +kernel), Prod.ext rfl (Prod.ext (by decide +kernel) rfl)⟩,
   ⟨wUp (W 0) (fun b => { b with phase := .pending }), ⟨.absent, true, false, false, true, [], true, true, [], []⟩, (by decide +kernel), (by decide +kernel), (by decide +kernel), (by decide +kernel), (by decide +kernel)⟩,
   ⟨wBootEnds0, ⟨.absent, true, false, false, true, [], false, true, [], []⟩, (5, false), (by decide +kernel), (by decide +kernel), (by decide +kernel), (by decide +kernel)⟩,
   ⟨wBootEnds1, (by decide +kernel), (by decide +kernel)⟩⟩

def wFirnAndEventQueue0 : State :=
  wUp (wPut (W 2) [(firnStat, 1)]) (fun b => b.raise 0x10 sevInfo time0 5)

def wFirnAndEventQueue1 : State :=
  wUp (W 2) (fun b => { b with evq := { b.evq with lostCnt := 3, lostTs := 99 } })

def wFirnAndEventQueue2 : State :=
  wPut (W 2) [(firnTrend, 0x8000000000000000 + 2 * 2 ^ 48 + 0x02000010)]

theorem test_meets_FirnAndEventQueue :
    (∃ (s : State), s.phase = .active ∧ s.bit firnStat 0 = false ∧ s.bit firnStat 1 = false) ∧
    (∃ (s : State) (k : KeyDev), s.keyDev = some k ∧ s.phase = .active ∧ s.bit imgStatus 2 = true ∧ s.modeNo ≠ 0 ∧ (slotMark k (1 - s.fget imgStatus 1 1)).1 ∈ [0, 2]) ∧
    (∃ (s : State) (r : QRec), s.bit firnStat 0 = true ∧ s.evq.q.find? (fun r => !r.firn) = some r ∧ ((∀ x ∈ s.host.sess, x.stream = none))) ∧
    (∃ (s : State), s.evq.lostCnt ≠ 0 ∧ s.evq.q.length < 3072) ∧
    (∃ (s : State) (e : Nat), e < 512 ∧ s.phase = .active ∧ bitAt (trendEntry s.toBlock e) 63 = true ∧ fld (trendEntry s.toBlock e) 53 48 ≠ 0 ∧ ((∀ x ∈ s.firn.accs, x.entry ≠ e))) :=
  ⟨⟨W 2, (by decide +kernel), (by decide +kernel), (by decide +kernel)⟩,
   ⟨wUp (wPut (W 2) [(imgStatus, 4)]) (fun b => { b with key := some wKey }), wKey, (by decide +kernel), (by decide +kernel), (by decide +kernel), (by decide +kernel), (by decide +kernel)⟩,
   ⟨wFirnAndEventQueue0, (wFirnAndEventQueue0).evq.q.getD 0 ⟨0, ⟨0,0,0,0,false,0,0,0⟩, false, 0⟩, (by decide +kernel), (by decide +kernel), (by decide +kernel)⟩,
   ⟨wFirnAndEventQueue1, (by decide +kernel), (by decide +kernel)⟩,
   ⟨wFirnAndEventQueue2, 0, (by decide +kernel), (by decide +kernel), (by decide +kernel), (by decide +kernel), (by decide +kernel)⟩⟩

def wStaging0 : State :=
  wUp (wPut (W 5) [(imgStage, 2 + 8 + 0 * 2 ^ 32), (imgStatus, 0)]) (fun b => { b with key := some wKey, stage := { b.stage with owner := some 0, imgLen := 144, lastAt := 7  } })

def wStaging1 : State :=
  wUp (wPut (W 5) [(imgStage, 2 + 8 + 4 * 2 ^ 32)]) (fun b => { b with key := some { wKey with flash := [(16777216, 1), (16777217, 2)] }, stage := { b.stage with owner := some 0, imgLen := 144 } })

def wStaging2 : State :=
  wUp (wPut (W 5) [(imgStage, 2 + 8 + 144 * 2 ^ 32), (imgStatus, 0)]) (fun b => { b with key := some wKey, stage := { b.stage with owner := some 0, imgLen := 144, lastAt := 7  } })

def wStaging3 : State :=
  wUp (wPut (W 5) [(imgStage, 2 + 8 + 4 * 2 ^ 32), (imgStatus, 0)]) (fun b => { b with key := some wKey, stage := { b.stage with owner := some 0, imgLen := 144, lastAt := 7  } })

def wStaging4 : State :=
  wUp (wPut (W 5) [(imgStage, 1 + 8 + 0 * 2 ^ 32), (imgStatus, 0)]) (fun b => { b with key := some wKey, stage := { b.stage with owner := some 0, imgLen := 144, lastAt := 7  } })

def wStaging5 : State :=
  wUp (wPut (W 5) [(imgStage, 1 + 8 + 0 * 2 ^ 32), (imgStatus, 0)]) (fun b => { b with key := some wKey, stage := { b.stage with owner := some 0, imgLen := 144, lastAt := 7 , erased := true } })

def wStaging6 : State :=
  wUp (wPut (W 5) [(imgStage, 3 + 8 + 144 * 2 ^ 32), (imgStatus, 0)]) (fun b => { b with key := some wKey, stage := { b.stage with owner := some 0, imgLen := 144, lastAt := 7  } })

def wStaging7 : State :=
  wUp (wPut (W 5) [(imgStage, 3 + 8 + 144 * 2 ^ 32), (imgStatus, 0)]) (fun b => { b with key := some wKey, stage := { b.stage with owner := some 0, imgLen := 144, lastAt := 7 , verified := true } })

def wStaging8 : State :=
  wUp (wPut (W 0) [(imgStage, 3)]) (fun b => { b with phase := .halted, key := some wKey })

theorem test_meets_Staging :
    (∃ (s : State) (i : Nat) (slot : Nat) (len : Nat) (k : KeyDev), s.mayWrite i imgStageCtrl ∧ s.phase ∈ [.active, .noImage] ∧ s.keyDev = some k ∧ slot < 2 ∧ ((s.bit imgStatus 2 = false ∨ slot ≠ s.fget imgStatus 1 1)) ∧ ((s.bit imgStatus 2 = true ∨ s.img.tried.length ≠ 1 ∨ slot ∈ s.img.tried)) ∧ s.staging = false ∧ max (slotMark k 0).2 (slotMark k 1).2 ≠ 0xFFFFFFFE ∧ len % 4 = 0 ∧ 144 ≤ len ∧ len ≤ keyMax k) ∧
    (∃ (s : State) (i : Nat) (off : Nat) (d : List Byte) (k : KeyDev), s.mayWrite i imgStageData ∧ s.phase ∈ [.active, .noImage] ∧ s.key = some k ∧ stageState s.toBlock = 2 ∧ s.stage.owner = some i ∧ 1 ≤ d.length ∧ d.length ≤ 1024 ∧ off = s.fget imgStage 63 32 ∧ off + d.length ≤ s.stage.imgLen ∧ s.stage.imgLen < 2 ^ 32) ∧
    (∃ (s : State) (i : Nat) (off : Nat) (d : List Byte) (k : KeyDev), s.mayWrite i imgStageData ∧ s.phase ∈ [.active, .noImage] ∧ s.keyDev = some k ∧ stageState s.toBlock = 2 ∧ s.stage.owner = some i ∧ 1 ≤ d.length ∧ d.length ≤ 1024 ∧ off + d.length ≤ s.fget imgStage 63 32 ∧ flashRead k.flash (keyBase k (stageSlot s.toBlock) + off) d.length = d) ∧
    (∃ (s : State) (i : Nat), s.mayWrite i imgStageCtrl ∧ s.phase ∈ [.active, .noImage] ∧ stageState s.toBlock = 2 ∧ s.stage.owner = some i ∧ s.fget imgStage 63 32 = s.stage.imgLen) ∧
    (∃ (s : State) (i : Nat), s.mayWrite i imgStageCtrl ∧ s.phase ∈ [.active, .noImage] ∧ stageState s.toBlock ∈ [1, 2, 3] ∧ s.stage.owner = some i) ∧
    (∃ (s : State) (k : KeyDev), s.key = some k ∧ s.phase ∈ [.active, .noImage] ∧ stageState s.toBlock = 1 ∧ s.stage.erased = false) ∧
    (∃ (s : State) (k : KeyDev), s.key = some k ∧ s.phase ∈ [.active, .noImage] ∧ stageState s.toBlock = 1 ∧ s.stage.erased = true) ∧
    (∃ (s : State) (k : KeyDev) (strict : Bool) (l : List RecErr), s.key = some k ∧ s.phase ∈ [.active, .noImage] ∧ stageState s.toBlock = 3 ∧ s.stage.verified = false ∧ dryRun s.toBlock k (stageSlot s.toBlock) = .ok (strict, l) ∧ ((strict = false ∨ l = []))) ∧
    (∃ (s : State) (k : KeyDev) (e : Nat), s.key = some k ∧ s.phase ∈ [.active, .noImage] ∧ stageState s.toBlock = 3 ∧ s.stage.verified = false ∧ dryRun s.toBlock k (stageSlot s.toBlock) = .error e ∧ e < 2 ^ 16) ∧
    (∃ (s : State) (k : KeyDev), s.key = some k ∧ s.phase ∈ [.active, .noImage] ∧ stageState s.toBlock = 3 ∧ s.stage.verified = true) ∧
    (∃ (s : State), s.phase ∈ [.active, .noImage] ∧ stageState s.toBlock = 2) ∧
    (∃ (s : State), s.phase ∈ [.active, .noImage] ∧ stageState s.toBlock ∈ [1, 2, 3]) ∧
    (∃ (s : State) (c : Instr), s.phase ∉ [.active, .noImage] ∧ c ∈ [.stageMarkErased, .stageEraseDone, .stageVerifyDone, .stageCommit, .stageLapse]) :=
  ⟨⟨wUp (W 5) (fun b => { b with key := some wKey }), 0, 1, 144, wKey, (by unfold Block.mayWrite; decide +kernel), (by decide +kernel), (by decide +kernel), (by decide +kernel), (by decide +kernel), (by decide +kernel), (by decide +kernel), (by decide +kernel), (by decide +kernel), (by decide +kernel), (by decide +kernel)⟩,
   ⟨wStaging0, 0, 0, [1,2,3,255], wKey, (by unfold Block.mayWrite; decide +kernel), (by decide +kernel), (by decide +kernel), (by decide +kernel), (by decide +kernel), (by decide +kernel), (by decide +kernel), (by decide +kernel), (by decide +kernel), (by decide +kernel)⟩,
   ⟨wStaging1, 0, 0, [1,2], { wKey with flash := [(16777216, 1), (16777217, 2)] }, (by unfold Block.mayWrite; decide +kernel), (by decide +kernel), (by decide +kernel), (by decide +kernel), (by decide +kernel), (by decide +kernel), (by decide +kernel), (by decide +kernel), (by decide +kernel)⟩,
   ⟨wStaging2, 0, (by unfold Block.mayWrite; decide +kernel), (by decide +kernel), (by decide +kernel), (by decide +kernel), (by decide +kernel)⟩,
   ⟨wStaging3, 0, (by unfold Block.mayWrite; decide +kernel), (by decide +kernel), (by decide +kernel), (by decide +kernel)⟩,
   ⟨wStaging4, wKey, (by decide +kernel), (by decide +kernel), (by decide +kernel), (by decide +kernel)⟩,
   ⟨wStaging5, wKey, (by decide +kernel), (by decide +kernel), (by decide +kernel), (by decide +kernel)⟩,
   ⟨wUp (wPut (wKeyed (W 5)) [(imgStage, 3 + 144 * 2 ^ 32)]) (fun b => { b with key := some wImgKey }), wImgKey, true, [], (by decide +kernel), (by decide +kernel), (by decide +kernel), (by decide +kernel), wRun _ (by decide +kernel), (by decide +kernel)⟩,
   ⟨wStaging6, wKey, 0x0601, (by decide +kernel), (by decide +kernel), (by decide +kernel), (by decide +kernel), (by rfl), (by decide +kernel)⟩,
   ⟨wStaging7, wKey, (by decide +kernel), (by decide +kernel), (by decide +kernel), (by decide +kernel)⟩,
   ⟨wStaging3, (by decide +kernel), (by decide +kernel)⟩,
   ⟨wStaging4, (by decide +kernel), (by decide +kernel)⟩,
   ⟨wStaging8, .stageMarkErased, (by decide +kernel), (by decide +kernel)⟩⟩

def wKeyCommands0 : State :=
  wUp (wPut (W 5) [(devSupply, 0x20), (imgStatus, 4)]) (fun b => { b with img := { b.img with svn := 9 } })

theorem test_meets_KeyCommands :
    (∃ (s : State) (i : Nat) (k : Nat) (key : Nat), k < 4 ∧ key < 2 ^ 256 ∧ s.mayWrite i imgKeyCmd ∧ keyCmdCheck (pack [(1, 0), (k, 8), (key, 64)]) s.counted = 0) ∧
    (∃ (s : State) (i : Nat) (k : Nat), k < 4 ∧ s.mayWrite i imgKeyCmd ∧ keyCmdCheck (pack [(2, 0), (k, 8)]) s.counted = 0) ∧
    (∃ (s : State) (i : Nat), s.mayWrite i imgKeyCmd ∧ keyCmdCheck 3 s.counted = 0) ∧
    (∃ (s : State) (i : Nat) (k : Nat) (level : Nat) (key : Nat), k < 4 ∧ level ≤ 2 ∧ key < 2 ^ 256 ∧ s.mayWrite i hostAuthCmd ∧ s.mram.auth.length = 4 ∧ authCheck (.sess i) (pack [(1, 0), (k, 8), (level, 10), (key, 64)]) s.counted = 0) ∧
    (∃ (s : State) (i : Nat) (k : Nat), k < 4 ∧ s.mayWrite i hostAuthCmd ∧ s.mram.auth.length = 4 ∧ authCheck (.sess i) (pack [(2, 0), (k, 8)]) s.counted = 0 ∧ s.host.sess.length = 4) :=
  ⟨⟨wPut (W 5) [(devSupply, 0x20)], 0, 2, 12345, (by decide +kernel), (by decide +kernel), (by unfold Block.mayWrite; decide +kernel), (by decide +kernel)⟩,
   ⟨wPut (W 5) [(devSupply, 0x20), (imgKey 2, 1 + 77 * 256)], 0, 2, (by decide +kernel), (by unfold Block.mayWrite; decide +kernel), (by decide +kernel)⟩,
   ⟨wKeyCommands0, 0, (by unfold Block.mayWrite; decide +kernel), (by decide +kernel)⟩,
   ⟨wPut (W 5) [(devSupply, 0x20)], 0, 2, 1, 12345, (by decide +kernel), (by decide +kernel), (by decide +kernel), (by unfold Block.mayWrite; decide +kernel), (by decide +kernel), (by decide +kernel)⟩,
   ⟨wPut (W 5) [(devSupply, 0x20), (hostAuth 2, 3)], 0, 2, (by decide +kernel), (by unfold Block.mayWrite; decide +kernel), (by decide +kernel), (by decide +kernel), (by decide +kernel)⟩⟩

theorem test_meets_ModeCommandsWait :
    (∃ (s : State) (i : Nat) (op : Nat) (c : Instr), (c, op) ∈ [(Instr.modeCmdSafe i, 1), (.modeCmdRun i, 2), (.modeCmdHold i, 3), (.modeCmdFallback i, 4), (.modeCmdService i, 5), (.modeCmdPark i, 6), (.modeCmdDeepPark i, 7)] ∧ ((s.role ≠ 2 ∨ 6 ≤ op)) ∧ s.mayWrite i modeCmd ∧ modeCheck (.sess i) op s.counted = 0) :=
  ⟨W 2, 0, 1, .modeCmdSafe 0, (by decide +kernel), (by decide +kernel), (by unfold Block.mayWrite; decide +kernel), (by decide +kernel)⟩

def wModeCommandsAtOnce0 : State :=
  wUp (wPut (W 1) [(modeWake, 50), (timeRtc, 20)]) (fun b => { b with phase := .park })

def wModeCommandsAtOnce1 : State :=
  wUp (wPut (W 1) [(modeWake, 50), (timeRtc, 20)]) (fun b => { b with phase := .deepPark })

theorem test_meets_ModeCommandsAtOnce :
    (∃ (s : State) (i : Nat), s.phase = .park ∧ s.counted.cmdGate i modeCmd true = 0 ∧ modeCheck (.sess i) 8 s.counted = 0) ∧
    (∃ (s : State) (i : Nat), s.mayWrite i modeCmd ∧ modeCheck (.sess i) 0x10 s.counted = 0) ∧
    (∃ (s : State) (i : Nat), s.mayWrite i modeCmd ∧ modeCheck (.sess i) 0x11 s.counted = 0) ∧
    (∃ (s : State) (i : Nat), s.mayWrite i modeCmd ∧ modeCheck (.sess i) 0x20 s.counted = 0 ∧ s.mode.cmd = none) ∧
    (∃ (s : State), s.phase = .park ∧ s.get modeWake ≠ 0 ∧ s.get timeRtc ≠ 0) ∧
    (∃ (s : State), s.phase = .deepPark ∧ s.get modeWake ≠ 0 ∧ s.get timeRtc ≠ 0) :=
  ⟨⟨wUp (W 1) (fun b => { b with phase := .park }), 0, (by decide +kernel), (by decide +kernel), (by decide +kernel)⟩,
   ⟨wPut (W 1) [(timeRtc, 99), (modeState, 1 + 256)], 0, (by unfold Block.mayWrite; decide +kernel), (by decide +kernel)⟩,
   ⟨wPut (W 1) [(timeRtc, 99), (modeState, 1 + 256)], 0, (by unfold Block.mayWrite; decide +kernel), (by decide +kernel)⟩,
   ⟨wPut (W 1) [(modeState, 1 + 512)], 0, (by unfold Block.mayWrite; decide +kernel), (by decide +kernel), (by decide +kernel)⟩,
   ⟨wModeCommandsAtOnce0, (by decide +kernel), (by decide +kernel), (by decide +kernel)⟩,
   ⟨wModeCommandsAtOnce1, (by decide +kernel), (by decide +kernel), (by decide +kernel)⟩⟩

def wModeTransitions0 : Block :=
  (wUp (wPut (W 1) []) (fun b => { b with img := { b.img with role := 3 } })).toBlock

theorem test_meets_ModeTransitions :
    (∃ (s : Block), s.phase = .active ∧ fbCauses s = [] ∧ s.role ≠ 3) ∧
    (∃ (s : Block), s.phase = .active ∧ s.role = 3 ∧ s.modeNo = 1) :=
  ⟨⟨wBlock 1 0, (by decide +kernel), (by decide +kernel), (by decide +kernel)⟩,
   ⟨wModeTransitions0, (by decide +kernel), (by decide +kernel), (by decide +kernel)⟩⟩

theorem test_meets_ModeEntry :
    (∃ (m : Nat) (cause : Nat) (fb : Nat) (owner : Nat), 1 ≤ m ∧ m ≤ 5 ∧ fb < 16 ∧ owner < 8 ∧ cause < 256) :=
  ⟨1, 5, 3, 2, (by decide +kernel), (by decide +kernel), (by decide +kernel), (by decide +kernel), (by decide +kernel)⟩

def wPersistCommands0 : State :=
  wUp (wPut (W 2) [(hostWd, 5)]) (fun b => { b with vol := [hostWd] })

def wPersistCommands1 : State :=
  wUp (W 2) (fun b => { b with mode := { b.mode with persistOp := some (1, (⟨3, [(hostWd, .num 5)]⟩), [hostWd]) } })

theorem test_meets_PersistCommands :
    (∃ (s : State) (i : Nat) (op : Nat) (oid : Nat) (c : Instr), (c, op, oid) ∈ [(Instr.persistCommit i, 1, 0), (.persistClear i, 2, 0), (.persistDrop i oid, 3, oid)] ∧ s.role ≠ 2 ∧ s.mayWrite i modePersistCmd ∧ persistCheck op oid s.counted = 0) ∧
    (∃ (s : State) (op : Nat) (o : Overlay) (took : List Attr), s.mode.persistOp = some (op, o, took) ∧ op < 256 ∧ o.entries.length < 2 ^ 16) :=
  ⟨⟨wPersistCommands0, 0, 1, 0, .persistCommit 0, (by decide +kernel), (by decide +kernel), (by unfold Block.mayWrite; decide +kernel), (by decide +kernel)⟩,
   ⟨wPersistCommands1, 1, ⟨3, [(hostWd, .num 5)]⟩, [hostWd], (by decide +kernel), (by decide +kernel), (by decide +kernel)⟩⟩

def wReferenceAndClockLoss0 : State :=
  wUp (W 2) (fun b => { b with time := { b.time with switching := some (1, true) } })

theorem test_meets_ReferenceAndClockLoss :
    (∃ (s : State), clockRuns s.toBlock = true ∧ s.bit timeState 4 = true ∧ s.bit timeState 5 = true ∧ s.bit timeState 6 = true) ∧
    (∃ (s : State) (r : Nat) (f : Bool), clockRuns s.toBlock = true ∧ s.time.switching = some (r, f)) ∧
    (∃ (s : State) (held : Bool) (use : Bool), clockRuns s.toBlock = true ∧ s.time.refHeld = false ∧ use = (s.get timeRefSel != 1 && (held || (s.get timeRefSel == 2 && !s.time.refLost)))) ∧
    (∃ (s : State), clockRuns s.toBlock = true ∧ s.bit timeState 4 = false) ∧
    (∃ (s : State), clockRuns s.toBlock = true ∧ s.bit timeState 6 = true ∧ s.bit timeState 5 = true) ∧
    (∃ (s : State) (i : Nat) (v : Nat), v ≤ 2 ∧ s.modeNo ≠ 0 ∧ s.mayWrite i timeRefSel ∧ numErr s.toBlock timeRefSel v = 0 ∧ s.time.tcxoForced = false) ∧
    (∃ (s : State) (c : Instr), clockRuns s.toBlock = true ∧ ((c = .pllFault ∨ (c = .tcxoFault ∧ s.bit timeState 6 = true ∧ s.bit timeState 5 = false) ∨ (c = .refinLost ∧ s.bit timeState 4 = true ∧ s.bit timeState 5 = true ∧ s.bit timeState 6 = false)))) :=
  ⟨⟨wPut (W 2) [(timeState, 0x70)], (by decide +kernel), (by decide +kernel), (by decide +kernel), (by decide +kernel)⟩,
   ⟨wReferenceAndClockLoss0, 1, true, (by decide +kernel), (by decide +kernel)⟩,
   ⟨wPut (W 2) [(timeState, 0x40)], true, ((wPut (W 2) [(timeState, 0x40)]).get timeRefSel != 1 && ((true) || ((wPut (W 2) [(timeState, 0x40)]).get timeRefSel == 2 && !(wPut (W 2) [(timeState, 0x40)]).time.refLost))), (by decide +kernel), (by decide +kernel), (by decide +kernel)⟩,
   ⟨wPut (W 2) [(timeState, 0x60)], (by decide +kernel), (by decide +kernel)⟩,
   ⟨wPut (W 2) [(timeState, 0x60)], (by decide +kernel), (by decide +kernel), (by decide +kernel)⟩,
   ⟨wPut (W 2) [(timeState, 0x60)], 0, 2, (by decide +kernel), (by decide +kernel), (by unfold Block.mayWrite; decide +kernel), (by decide +kernel), (by decide +kernel)⟩,
   ⟨wPut (W 2) [(timeState, 0x60)], .pllFault, (by decide +kernel), (by decide +kernel)⟩⟩

def wTimebase0 : State :=
  wUp (wPut (H 2) [(timeState, 3), (floePort 0, 4 + 100 * 256)]) (fun b => { b with time := { b.time with lockRun := 0 } })

def wTimebase1 : State :=
  wPut (W 2) [(timeState, 3), (rmCfg, 9), (rmStat, 1), (rmPort 2, 5)]

def wTimebase2 : State :=
  wUp (wPut (H 2) [(timeState, 3)]) (fun b => { b with time := { b.time with lastFrame := 999999000000 }, clk := { b.clk with slew := 5 } })

def wTimebase3 : State :=
  wUp (wPut (W 2) [(timeState, 4), (timeHold, 60)]) (fun b => { b with time := { b.time with holdSince := 999999000000 } })

def wTimebase4 : Block :=
  (wUp (W 2) (fun b => { b with clk := { b.clk with slew := -3, gap := 7 } })).toBlock

theorem test_meets_Timebase :
    (∃ (s : State) (i : Nat) (v : Nat), v < 2 ^ 64 ∧ s.mayWrite i timeSet ∧ timeSetCheck s.counted = 0) ∧
    (∃ (s : State) (s1 : State) (f : TimeFrame) (port : Nat), port < 2 ∧ s.phase = .active ∧ s.role ≠ 1 ∧ f.src ≠ s.img.node ∧ s1 = { s with toBlock := if s.paired ∧ f.src = pairPartner s.toBlock then pairHear (some 2) f.claim true s.toBlock else s.toBlock } ∧ timeFollows s1.toBlock f.claim = true ∧ ((∀ c, s1.floe.copy = some c → c.1 ≠ f.cycle)) ∧ f.src < 4096) ∧
    (∃ (s : State) (f : TimeFrame), s.phase = .active ∧ s.bit rmCfg 3 = true ∧ rmSlot s.toBlock ≠ 0 ∧ rmUp s.toBlock 0 = true ∧ s.isMaster = false ∧ s.floe.master = none ∧ f.src < 4096 ∧ s.fget timeState 2 0 = 3 ∧ (((f.origin + f.corr : Nat) : Int) - s.clk.tb).natAbs ≤ 100000) ∧
    (∃ (s : State), s.phase = .active ∧ s.fget timeState 2 0 = 3 ∧ s.isMaster = false) ∧
    (∃ (s : State), s.phase = .active ∧ s.fget timeState 2 0 = 4 ∧ s.bit timeState 3 = false) ∧
    (∃ (s : State), clockRuns s.toBlock = true ∧ ((s.fget timeState 2 0 = 1 ∨ s.fget timeState 2 0 = 3))) ∧
    (∃ (c : Clk), c.gap ≤ 999) ∧
    (∃ (s : Block), s.clk.gap ≤ 999) :=
  ⟨⟨W 2, 0, 123456789, (by decide +kernel), (by unfold Block.mayWrite; decide +kernel), (by decide +kernel)⟩,
   ⟨wTimebase0, (wTimebase0), ⟨6, 600, 1000000000000 + 50, 50, 1, 999⟩, 0, (by decide +kernel), (by decide +kernel), (by decide +kernel), (by decide +kernel), (by decide +kernel), (by decide +kernel), (by decide +kernel), (by decide +kernel)⟩,
   ⟨wTimebase1, ⟨6, 600, 1000000000000 + 90, 50, 1, 999⟩, (by decide +kernel), (by decide +kernel), (by decide +kernel), (by decide +kernel), (by decide +kernel), (by decide +kernel), (by decide +kernel), (by decide +kernel), (by decide +kernel)⟩,
   ⟨wTimebase2, (by decide +kernel), (by decide +kernel), (by decide +kernel)⟩,
   ⟨wTimebase3, (by decide +kernel), (by decide +kernel), (by decide +kernel)⟩,
   ⟨wPut (W 2) [(timeState, 3)], (by decide +kernel), (by decide +kernel)⟩,
   ⟨{ clkInit with slew := -7, gap := 3, tb := 1000000, raw := 2000000 }, (by decide +kernel)⟩,
   ⟨wTimebase4, (by decide +kernel)⟩⟩

def wFeValues0 : State :=
  wUp (wPut (W 2) ([(fgStat 0, 1), (feType 3, 1), (feTones 3, 2 ^ 28 + 10000 * 2 ^ 32), (feRate 3, 9), (feCell 3, 1000 + 500 * 2 ^ 32)] ++ [])) (fun b => b.setFch 3 { b.fch 3 with t0 := 1000000000000, m := 3 })

def wFeValues1 : State :=
  wUp (wPut (W 2) ([(fgStat 0, 1), (feType 3, 1), (feTones 3, 2 ^ 28 + 10000 * 2 ^ 32), (feRate 3, 9), (feCell 3, 1000 + 500 * 2 ^ 32)] ++ [])) (fun b => b.setFch 3 { b.fch 3 with held := [⟨1000000000100, 7, 4, 2, false, 1, 0, 5000, [], (3000, 200), (1000, -20), (3, 4)⟩] })

def wFeValues2 : State :=
  wUp (wPut (W 2) ([(fgStat 0, 1), (feType 3, 1), (feTones 3, 2 ^ 28 + 10000 * 2 ^ 32), (feRate 3, 9), (feCell 3, 1000 + 500 * 2 ^ 32)] ++ [])) (fun b => b.setFch 3 { b.fch 3 with held := [⟨1000000000100, 7, 3, 0, false, 1, 0, 5000, [], (3000, 200), (1000, -20), (3, 4)⟩] })

def wFeValues3 : State :=
  wUp (wPut (W 2) ([(fgStat 0, 1), (feType 3, 1), (feTones 3, 2 ^ 28 + 10000 * 2 ^ 32), (feRate 3, 9), (feCell 3, 1000 + 500 * 2 ^ 32)] ++ [])) (fun b => b.setFch 3 { b.fch 3 with held := [⟨1000000000100, 7, 0, 0, false, 1, 0, 5000, [], (3000, 200), (1000, -20), (3, 4)⟩] })

theorem test_meets_FeValues :
    (∃ (s : State) (n : Nat), s.sized = true ∧ n < 48 ∧ feRuns s.toBlock n = true) ∧
    (∃ (s : State) (n : Nat) (h : FeHeld), s.sized = true ∧ n < 48 ∧ feHead s.toBlock n = some h ∧ ((feZoneOff s.toBlock n = true ∨ h.cause ≠ 0 ∨ h.q = 4)) ∧ h.cause < 16) ∧
    (∃ (s : State) (n : Nat) (h : FeHeld), s.sized = true ∧ n < 48 ∧ feHead s.toBlock n = some h ∧ feZoneOff s.toBlock n = false ∧ h.cause = 0 ∧ h.q = 3) ∧
    (∃ (s : State) (n : Nat) (h : FeHeld), s.sized = true ∧ n < 48 ∧ feHead s.toBlock n = some h ∧ feZoneOff s.toBlock n = false ∧ h.cause = 0 ∧ h.q = 0) :=
  ⟨⟨wFeValues0, 3, (by decide +kernel), (by decide +kernel), (by decide +kernel)⟩,
   ⟨wFeValues1, 3, ⟨1000000000100, 7, 4, 2, false, 1, 0, 5000, [], (3000, 200), (1000, -20), (3, 4)⟩, (by decide +kernel), (by decide +kernel), (by decide +kernel), (by decide +kernel), (by decide +kernel)⟩,
   ⟨wFeValues2, 3, ⟨1000000000100, 7, 3, 0, false, 1, 0, 5000, [], (3000, 200), (1000, -20), (3, 4)⟩, (by decide +kernel), (by decide +kernel), (by decide +kernel), (by decide +kernel), (by decide +kernel), (by decide +kernel)⟩,
   ⟨wFeValues3, 3, ⟨1000000000100, 7, 0, 0, false, 1, 0, 5000, [], (3000, 200), (1000, -20), (3, 4)⟩, (by decide +kernel), (by decide +kernel), (by decide +kernel), (by decide +kernel), (by decide +kernel), (by decide +kernel)⟩⟩

theorem test_meets_OverloadedValues :
    (∃ (s : State) (n : Nat), s.sized = true ∧ n < 48 ∧ feRuns s.toBlock n = true) :=
  ⟨wFeValues0, 3, (by decide +kernel), (by decide +kernel), (by decide +kernel)⟩

def wFeExcitation0 : State :=
  wPut (W 2) ([(fgStat 0, 1), (feType 3, 1), (feTones 3, 2 ^ 28 + 10000 * 2 ^ 32), (feRate 3, 9), (feCell 3, 1000 + 500 * 2 ^ 32)] ++ [])

def wFeExcitation1 : State :=
  wUp (wPut (W 2) ([(fgStat 0, 1), (feType 3, 1), (feTones 3, 2 ^ 28 + 10000 * 2 ^ 32), (feRate 3, 9), (feCell 3, 1000 + 500 * 2 ^ 32)] ++ [])) (fun b => b.setFch 3 { b.fch 3 with pend := some ⟨1000000000500, some (2 ^ 27 + 10000 * 2 ^ 32), none⟩ })

theorem test_meets_FeExcitation :
    (∃ (s : State) (i : Nat) (n : Nat) (v : Nat), s.sized = true ∧ n < 48 ∧ s.mayWrite i (feTones n) ∧ feExcCheck n (some v) none s.counted = 0 ∧ numErr s.toBlock (feTones n) v = 0) ∧
    (∃ (s : State) (i : Nat) (n : Nat) (v : Nat), s.sized = true ∧ n < 48 ∧ s.mayWrite i (feRate n) ∧ feExcCheck n none (some v) s.counted = 0 ∧ numErr s.toBlock (feRate n) v = 0) ∧
    (∃ (s : State) (n : Nat) (p : FePend), s.sized = true ∧ n < 48 ∧ (s.fch n).pend = some p) ∧
    (∃ (s : State) (i : Nat) (g : Nat), s.sized = true ∧ g < 3 ∧ s.mayWrite i (fgRestart g) ∧ s.bit (fgStat g) 0 = true) :=
  ⟨⟨wFeExcitation0, 0, 3, 2 ^ 27 + 10000 * 2 ^ 32, (by decide +kernel), (by decide +kernel), (by unfold Block.mayWrite; decide +kernel), (by decide +kernel), (by decide +kernel)⟩,
   ⟨wFeExcitation0, 0, 3, 8, (by decide +kernel), (by decide +kernel), (by unfold Block.mayWrite; decide +kernel), (by decide +kernel), (by decide +kernel)⟩,
   ⟨wFeExcitation1, 3, ⟨1000000000500, some (2 ^ 27 + 10000 * 2 ^ 32), none⟩, (by decide +kernel), (by decide +kernel), (by decide +kernel)⟩,
   ⟨wFeExcitation0, 0, 0, (by decide +kernel), (by decide +kernel), (by unfold Block.mayWrite; decide +kernel), (by decide +kernel)⟩⟩

def wFeFaults0 : State :=
  wUp (wPut (W 2) ([(fgStat 0, 1), (feType 3, 1), (feTones 3, 2 ^ 28 + 10000 * 2 ^ 32), (feRate 3, 9), (feCell 3, 1000 + 500 * 2 ^ 32)] ++ [])) (fun b => b.setFch 3 { b.fch 3 with fault := 1, faultAt := 999999999999 })

def wFeFaults1 : State :=
  wUp (wPut (W 2) ([(fgStat 0, 1), (feType 3, 1), (feTones 3, 2 ^ 28 + 10000 * 2 ^ 32), (feRate 3, 9), (feCell 3, 1000 + 500 * 2 ^ 32)] ++ [])) (fun b => b.setFch 3 { b.fch 3 with fault := 2, testAt := 1000000000400 })

def wFeFaults2 : State :=
  wUp (wPut (W 2) ([(fgStat 0, 1), (feType 3, 1), (feTones 3, 2 ^ 28 + 10000 * 2 ^ 32), (feRate 3, 9), (feCell 3, 1000 + 500 * 2 ^ 32)] ++ [(aoCfg 1, 1 + 3 * 2 ^ 2 + 2 ^ 9 + 500 * 2 ^ 16), (swCfg 2, 1 + 3 * 256), (swCfg 4, 1 + 4 + 3 * 256)])) (fun b => ({ b.setFch 3 { b.fch 3 with delivAt := some 999999999999 } with fe := { (b.setFch 3 { b.fch 3 with delivAt := some 999999999999 }).fe with aoOn := [1] } }))

theorem test_meets_FeFaults :
    (∃ (s : State) (n : Nat) (qty : Nat) (cls : Nat) (dev : Nat) (win : List (Int × Int)) (resp : Nat × Nat) (volt : Nat × Nat) (curr : Nat × Nat), s.sized = true ∧ n < 48 ∧ feMonitor n qty ⟨win, resp, volt, curr⟩ s.toBlock = some cls ∧ (s.fch n).fault ≠ cls ∧ dev = feDeviation (feExpPeak qty ⟨win, resp, volt, curr⟩) (win.take (feNt s.toBlock n qty))) ∧
    (∃ (s : State) (n : Nat), s.sized = true ∧ n < 48 ∧ (s.fch n).fault ≠ 0 ∧ (((s.fch n).fault = 2 → (s.fch n).tested = true)) ∧ feTyp s.toBlock n ≠ 6) ∧
    (∃ (s : State) (n : Nat), s.sized = true ∧ n < 48 ∧ (s.fch n).fault = 2) ∧
    (∃ (s : State) (g : Nat), s.sized = true ∧ g < 3 ∧ s.phase = .active ∧ s.bit (fgStat g) 0 = true) ∧
    (∃ (s : State) (n : Nat) (d : Nat), n < 48 ∧ (s.fch n).delivAt = some d) ∧
    (∃ (s : State) (n : Nat) (qty : Nat) (win : List (Int × Int)) (resp : Nat × Nat) (volt : Nat × Nat) (curr : Nat × Nat), n < 48 ∧ ((∀ x ∈ win, feOutOfBand (s.get (feMon n)) (feExpPeak qty ⟨win, resp, volt, curr⟩) (feScaleOf s.toBlock n qty) x = false))) :=
  ⟨⟨wFeValues3, 3, 1, (feMonitor (3) (1) ⟨(List.replicate 6000 ((9000000 : Int), (0 : Int))), ((0,0)), ((0,1000)), ((0,1000))⟩ (wFeValues3).toBlock).getD 0, feDeviation (feExpPeak (1) ⟨(List.replicate 6000 ((9000000 : Int), (0 : Int))), ((0,0)), ((0,1000)), ((0,1000))⟩) ((List.replicate 6000 ((9000000 : Int), (0 : Int))).take (feNt (wFeValues3).toBlock (3) (1))), List.replicate 6000 ((9000000 : Int), (0 : Int)), (0,0), (0,1000), (0,1000), (by decide +kernel), (by decide +kernel), (by decide +kernel), (by decide +kernel), (by decide +kernel)⟩,
   ⟨wFeFaults0, 3, (by decide +kernel), (by decide +kernel), (by decide +kernel), (by decide +kernel), (by decide +kernel)⟩,
   ⟨wFeFaults1, 3, (by decide +kernel), (by decide +kernel), (by decide +kernel)⟩,
   ⟨wFeValues3, 0, (by decide +kernel), (by decide +kernel), (by decide +kernel), (by decide +kernel)⟩,
   ⟨wFeFaults2, 3, 999999999999, (by decide +kernel), (by decide +kernel)⟩,
   ⟨wFeExcitation0, 3, 1, [(0,0)], (0,0), (0,0), (0,0), (by decide +kernel), (by decide +kernel)⟩⟩

theorem test_meets_TomoActivePixels :
    (∃ x y, x < 32 ∧ y < 32 ∧ (tmPixAt x y).isSome = true) ∧
    (∃ x y x' y' q q', x < 32 ∧ y < 32 ∧ x' < 32 ∧ y' < 32 ∧ tmPixAt x y = some q ∧ tmPixAt x' y' = some q') :=
  ⟨⟨31, 15, by decide, by decide, by decide⟩,
   ⟨12, 0, 19, 31, 0, 811, by decide, by decide, by decide, by decide, by decide, by decide⟩⟩

def wTomoFrames0 : State :=
  wPut (W 2) ([(tmCfg 1, 3 + 0xF * 256), (tmStat 1, 1), (fgStat 0, 1), (tmBand 1, 2 ^ 28), (tmElec 1, packL 8 (List.range 16)), (clsCfg 3, 1000)] ++ (List.range 16).map (fun k => (feType k, 6)) ++ [])

def wTomoFrames1 : Block :=
  (wTomoFrames0).toBlock.setTch (1) { (wTomoFrames0).tch (1) with rthr := (false) }

def wTomoFrames2 : State :=
  wUp (W 2) (fun b => { b with tomo := { b.tomo with plans := [⟨2, 1, List.range 16, 2 ^ 28, false, 0, 9⟩] } })

def wTomoFrames3 : State :=
  wUp (wPut (W 2) ([(tmCfg 1, 3 + 0xF * 256), (tmStat 1, 1), (fgStat 0, 1), (tmBand 1, 2 ^ 28), (tmElec 1, packL 8 (List.range 16)), (clsCfg 3, 1000)] ++ (List.range 16).map (fun k => (feType k, 6)) ++ [])) (fun b => b.setTch 1 { b.tch 1 with run := some ⟨1000000000000, 0, 1000000500000, 1000001000000, [1,-2,3], [4,5], 10, 2, 3, 6, false, false, false, false, some 250⟩ })

def wTomoFrames4 : State :=
  wUp (wPut (W 2) ([(tmCfg 1, 3 + 0xF * 256), (tmStat 1, 1), (fgStat 0, 1), (tmBand 1, 2 ^ 28), (tmElec 1, packL 8 (List.range 16)), (clsCfg 3, 1000)] ++ (List.range 16).map (fun k => (feType k, 6)) ++ [])) (fun b => b.setTch 1 { b.tch 1 with run := some ⟨1000000000000, 0, 1000000500000, 1000000400000, [1,-2,3], [4,5], 10, 2, 3, 6, false, false, false, false, some 250⟩ })

def wTomoFrames5 : State :=
  wUp (wUp (wPut (W 2) ([(tmCfg 1, 3 + 0xF * 256), (tmStat 1, 1), (fgStat 0, 1), (tmBand 1, 2 ^ 28), (tmElec 1, packL 8 (List.range 16)), (clsCfg 3, 1000)] ++ (List.range 16).map (fun k => (feType k, 6)) ++ [])) (fun b => b.setTch 1 { b.tch 1 with last := 999999000000 })) (fun b => { b with late := [⟨⟨6, 0, 1, 36⟩, .num 330712481801, 4, 7⟩] })

def wTomoFrames6 : Block :=
  (wTomoFrames5).toBlock.setTch (1) { (wTomoFrames5).tch (1) with rthr := (false) }

def wTomoFrames7 : State :=
  wUp (wPut (W 2) ([(tmCfg 1, 3 + 0xF * 256), (tmStat 1, 1), (fgStat 0, 1), (tmBand 1, 2 ^ 28), (tmElec 1, packL 8 (List.range 16)), (clsCfg 3, 1000)] ++ (List.range 16).map (fun k => (feType k, 6)) ++ [(tmCfg 1, 1)])) (fun b => b.setTch 1 { b.tch 1 with run := some ⟨1000000000000, 0, 1000000500000, 1000001000000, [1,-2,3], [4,5], 10, 2, 3, 6, false, false, false, false, some 250⟩ })

def wTomoFrames8 : State :=
  wPut (wUp (W 2) (fun b => { b with tomo := { b.tomo with plans := [⟨2, 1, List.range 16, 2 ^ 28, false, 0, 9⟩] }, clk := { b.clk with tb := 1000005000001 } })) [(tzStat 1, 8)]

def wTomoFrames9 : State :=
  wUp (wUp (wPut (W 2) ([(tmCfg 1, 3 + 0xF * 256), (tmStat 1, 1), (fgStat 0, 1), (tmBand 1, 2 ^ 28), (tmElec 1, packL 8 (List.range 16)), (clsCfg 3, 1000)] ++ (List.range 16).map (fun k => (feType k, 6)) ++ [(tmCfg 1, 1 + 0xF * 256)])) (fun b => b.setTch 1 { b.tch 1 with run := some ⟨1000000000000, 0, 1000000500000, 1000001000000, [1,-2,3], [4,5], 10, 2, 3, 6, false, false, false, false, some 250⟩ })) (fun b => b.setCls 3 { b.cls 3 with prog := some 1000000000000, dl := 8000000 })

theorem test_meets_TomoFrames :
    (∃ (s : State) (r : Nat) (thr : Bool) (x : Block), s.sized = true ∧ r < 12 ∧ tmRuns s.toBlock r = true ∧ x = s.setTch r { s.tch r with rthr := thr }) ∧
    (∃ (s : State) (r : Nat) (slot : Nat) (period : Nat) (w : Nat) (tF : Nat) (p : TomoPlan), s.sized = true ∧ r < 12 ∧ slot ≠ 0xF ∧ 0 < period ∧ p.elec.length = 16 ∧ s.tomo.plans.find? (fun p => p.owner == slot && p.ring == r) = some p ∧ w = period * (if elecThr s.toBlock p.elec then 2 else 1) ∧ tF = s.clk.tb / period * period ∧ tF % w = 0) ∧
    (∃ (s : State) (r : Nat) (f : TomoRun), s.sized = true ∧ r < 12 ∧ (s.tch r).run = some f ∧ s.bit (tmCfg r) 1 = true ∧ s.tbAt f.due ≤ f.limit) ∧
    (∃ (s : State) (r : Nat) (f : TomoRun), s.sized = true ∧ r < 12 ∧ (s.tch r).run = some f ∧ s.bit (tmCfg r) 1 = true ∧ f.limit < s.tbAt f.due) ∧
    (∃ (s : State) (r : Nat) (att : Nat) (v : Nat) (e : Nat) (due : Nat) (a : Attr) (thr : Bool) (x : Block), s.sized = true ∧ r < 12 ∧ tmRuns s.toBlock r = true ∧ 0x024 ≤ att ∧ att ≤ 0x029 ∧ a = ⟨6, 0, r, att⟩ ∧ s.late = [⟨a, .num v, e, due⟩] ∧ x = s.setTch r { s.tch r with rthr := thr } ∧ due ≤ dueMultiple (tmPeriod s.toBlock r * (if tmThr x r then 2 else 1)) (s.tch r).last s.clk.tb) ∧
    (∃ (s : State) (r : Nat) (f : TomoRun), r < 12 ∧ (s.tch r).run = some f ∧ s.bit (tmCfg r) 1 = false) ∧
    (∃ (s : State) (r : Nat) (slot : Nat) (period : Nat) (w : Nat) (p : TomoPlan), r < 12 ∧ slot ≠ 0xF ∧ 0 < period ∧ s.tomo.plans.find? (fun p => p.owner == slot && p.ring == r) = some p ∧ w = period * (if elecThr s.toBlock p.elec then 2 else 1) ∧ s.clk.tb / period * period % w ≠ 0) ∧
    (∃ (s : State) (r : Nat) (ns : Nat) (b : Nat) (f : TomoRun), s.sized = true ∧ r < 12 ∧ s.phase = .active ∧ (s.cls 3).prog = some b ∧ ns ≤ (s.cls 3).dl ∧ s.clk.tb ≤ b + ns ∧ (s.tch r).run = some f ∧ f.ts = b ∧ s.bit (tmCfg r) 1 = false) :=
  ⟨⟨wTomoFrames0, 1, false, wTomoFrames1, (by decide +kernel), (by decide +kernel), (by decide +kernel), (by decide +kernel)⟩,
   ⟨wTomoFrames2, 1, 2, 5000000, (5000000) * (if elecThr (wTomoFrames2).toBlock (List.range 16) then 2 else 1), (wTomoFrames2).clk.tb / (5000000) * (5000000), ⟨2, 1, List.range 16, 2 ^ 28, false, 0, 9⟩, (by decide +kernel), (by decide +kernel), (by decide +kernel), (by decide +kernel), (by decide +kernel), (by decide +kernel), (by decide +kernel), (by decide +kernel), (by decide +kernel)⟩,
   ⟨wTomoFrames3, 1, ⟨1000000000000, 0, 1000000500000, 1000001000000, [1,-2,3], [4,5], 10, 2, 3, 6, false, false, false, false, some 250⟩, (by decide +kernel), (by decide +kernel), (by decide +kernel), (by decide +kernel), (by decide +kernel)⟩,
   ⟨wTomoFrames4, 1, ⟨1000000000000, 0, 1000000500000, 1000000400000, [1,-2,3], [4,5], 10, 2, 3, 6, false, false, false, false, some 250⟩, (by decide +kernel), (by decide +kernel), (by decide +kernel), (by decide +kernel), (by decide +kernel)⟩,
   ⟨wTomoFrames5, 1, 36, 330712481801, 4, 7, ⟨6, 0, 1, 36⟩, false, wTomoFrames6, (by decide +kernel), (by decide +kernel), (by decide +kernel), (by decide +kernel), (by decide +kernel), (by decide +kernel), (by decide +kernel), (by decide +kernel), (by decide +kernel)⟩,
   ⟨wTomoFrames7, 1, ⟨1000000000000, 0, 1000000500000, 1000001000000, [1,-2,3], [4,5], 10, 2, 3, 6, false, false, false, false, some 250⟩, (by decide +kernel), (by decide +kernel), (by decide +kernel)⟩,
   ⟨wTomoFrames8, 1, 2, 5000000, (5000000) * (if elecThr (wTomoFrames8).toBlock (List.range 16) then 2 else 1), ⟨2, 1, List.range 16, 2 ^ 28, false, 0, 9⟩, (by decide +kernel), (by decide +kernel), (by decide +kernel), (by decide +kernel), (by decide +kernel), (by decide +kernel)⟩,
   ⟨wTomoFrames9, 1, 70000, 1000000000000, ⟨1000000000000, 0, 1000000500000, 1000001000000, [1,-2,3], [4,5], 10, 2, 3, 6, false, false, false, false, some 250⟩, (by decide +kernel), (by decide +kernel), (by decide +kernel), (by decide +kernel), (by decide +kernel), (by decide +kernel), (by decide +kernel), (by decide +kernel), (by decide +kernel)⟩⟩

def wTomoCommands0 : State :=
  wPut (W 5) ([(modeState, 5 + 65536)] ++ [(tmCfg 1, 3 + 0xF * 256), (tmStat 1, 1), (fgStat 0, 1), (tmBand 1, 2 ^ 28), (tmElec 1, packL 8 (List.range 16)), (clsCfg 3, 1000)] ++ (List.range 16).map (fun k => (feType k, 6)))

def wTomoCommands1 : State :=
  wUp (wPut (W 2) ([(tmCfg 1, 3 + 0xF * 256), (tmStat 1, 1), (fgStat 0, 1), (tmBand 1, 2 ^ 28), (tmElec 1, packL 8 (List.range 16)), (clsCfg 3, 1000)] ++ (List.range 16).map (fun k => (feType k, 6)) ++ [])) (fun b => b.setTch 1 { b.tch 1 with calOp := 1, calN := 4, calUsed := 2, calFrom := 1000000000000 })

def wTomoCommands2 : State :=
  wPut (wPut (W 5) [(modeState, 5 + 65536)]) ([(tmCfg 1, 3 + 0xF * 256), (tmStat 1, 1), (fgStat 0, 1), (tmBand 1, 2 ^ 28), (tmElec 1, packL 8 (List.range 16)), (clsCfg 3, 1000)] ++ (List.range 16).map (fun k => (feType k, 6)) ++ [])

def wTomoCommands3 : State :=
  wPut (W 2) ([(tmCfg 1, 3 + 0xF * 256), (tmStat 1, 1), (fgStat 0, 1), (tmBand 1, 2 ^ 28), (tmElec 1, packL 8 (List.range 16)), (clsCfg 3, 1000)] ++ (List.range 16).map (fun k => (feType k, 6)) ++ [(tmFrame 1, 60 * 2 ^ 32)])

theorem test_meets_TomoCommands :
    (∃ (s : State) (i : Nat) (r : Nat) (n : Nat) (op : Nat) (c : Instr), (c, op) ∈ [(Instr.calEmpty i r n, 1), (.calFull i r n, 2)] ∧ s.sized = true ∧ r < 12 ∧ s.mayWrite i (tmCmd r) ∧ tmCmdCheck (.sess i) op r n s.counted = 0) ∧
    (∃ (s : State) (r : Nat), s.sized = true ∧ r < 12 ∧ (s.tch r).calOp ≠ 0) ∧
    (∃ (s : State) (i : Nat) (r : Nat), s.sized = true ∧ r < 12 ∧ s.mayWrite i (tmCmd r) ∧ tmCmdCheck (.sess i) 3 r 0 s.counted = 0) ∧
    (∃ (s : State) (i : Nat) (r : Nat) (x : Table), s.sized = true ∧ r < 12 ∧ s.mayWrite i (tmSens r) ∧ tmSensCheck x s.counted = 0) ∧
    (∃ (s : State) (r : Nat), s.sized = true ∧ r < 12 ∧ s.phase = .active ∧ s.bit (tmCfg r) 0 = true) :=
  ⟨⟨wTomoCommands0, 0, 1, 4, 1, .calEmpty (0) (1) (4), (by decide +kernel), (by decide +kernel), (by decide +kernel), (by unfold Block.mayWrite; decide +kernel), (by decide +kernel)⟩,
   ⟨wTomoCommands1, 1, (by decide +kernel), (by decide +kernel), (by decide +kernel)⟩,
   ⟨wTomoCommands2, 0, 1, (by decide +kernel), (by decide +kernel), (by unfold Block.mayWrite; decide +kernel), (by decide +kernel)⟩,
   ⟨wPut (W 5) [(modeState, 5 + 65536)], 0, 1, _, (by decide +kernel), (by decide +kernel), (by unfold Block.mayWrite; decide +kernel), wSens⟩,
   ⟨wTomoCommands3, 1, (by decide +kernel), (by decide +kernel), (by decide +kernel), (by decide +kernel)⟩⟩

def wRimeLink0 : State :=
  wPut (W 2) ([(tmCfg 1, 3 + 0xF * 256), (tmStat 1, 1), (fgStat 0, 1), (tmBand 1, 2 ^ 28), (tmElec 1, packL 8 (List.range 16)), (clsCfg 3, 1000)] ++ (List.range 16).map (fun k => (feType k, 6)) ++ [(tmCfg 1, 1 + 2 * 256), (rmCfg, 15), (rmPort 0, 5 + 2 * 256), (rmStat, 1)])

def wRimeLink1 : State :=
  wPut (W 2) ((List.range 16).map (fun k => (feType k, 6)) ++ [(fgStat 0, 1)])

def wRimeLink2 : State :=
  wUp (wPut (W 2) ([(tmCfg 1, 3 + 0xF * 256), (tmStat 1, 1), (fgStat 0, 1), (tmBand 1, 2 ^ 28), (tmElec 1, packL 8 (List.range 16)), (clsCfg 3, 1000)] ++ (List.range 16).map (fun k => (feType k, 6)) ++ [(tmCfg 1, 1 + 2 * 256)])) (fun b => b.setTch 1 { b.tch 1 with setup := 1 })

def wRimeLink3 : State :=
  wUp (wPut (W 2) ([(tmCfg 1, 3 + 0xF * 256), (tmStat 1, 1), (fgStat 0, 1), (tmBand 1, 2 ^ 28), (tmElec 1, packL 8 (List.range 16)), (clsCfg 3, 1000)] ++ (List.range 16).map (fun k => (feType k, 6)) ++ [(tmCfg 1, 1 + 2 * 256)])) (fun b => b.setTch 1 { b.tch 1 with setup := 2 })

def wRimeLink4 : State :=
  wPut (W 2) [(rmCfg, 15), (rmPort 0, 5 + 2 * 256), (rmPort 1, 5 + 3 * 256), (rmPort 2, 5)]

theorem test_meets_RimeLink :
    (∃ (s : State) (r : Nat), s.sized = true ∧ r < 12 ∧ s.phase = .active ∧ (s.tch r).setup = 0 ∧ s.bit (tmCfg r) 0 = true ∧ tmSlot s.toBlock r < 4 ∧ s.bit (tmStat r) 1 = false ∧ rmUp s.toBlock (tmSlot s.toBlock r) = true) ∧
    (∃ (s : State) (p : TomoPlan) (e : Nat), s.phase = .active ∧ tmPlanBad s.toBlock p = some e) ∧
    (∃ (s : State) (p : TomoPlan), s.phase = .active ∧ tmPlanBad s.toBlock p = none) ∧
    (∃ (s : State) (r : Nat), s.sized = true ∧ r < 12 ∧ (s.tch r).setup = 1) ∧
    (∃ (s : State) (r : Nat) (result : Nat), s.sized = true ∧ r < 12 ∧ (s.tch r).setup = 1 ∧ result ≠ 0) ∧
    (∃ (s : State) (slot : Nat) (r : Nat) (ts : Nat) (p : List Byte), s.sized = true ∧ r < 12 ∧ tmSlot s.toBlock r = slot ∧ tmRuns s.toBlock r = true ∧ p.length = 2304 ∧ s.clk.tb ≤ ts + 60000 ∧ (s.tch r).last < ts) ∧
    (∃ (s : State) (r : Nat) (ts : Nat), r < 12 ∧ ts + 60000 < s.clk.tb) ∧
    (∃ (s : State) (p : Nat), p < 3 ∧ s.phase = .active ∧ s.bit (rmPort p) 2 = true) ∧
    (∃ (s : State) (p : Nat), s.sized = true ∧ p < 3 ∧ s.phase = .active ∧ s.bit (rmPort p) 2 = false ∧ s.bit (rmPort p) 0 = true) ∧
    (∃ (s : State) (p : Nat), p < 3 ∧ s.phase = .active ∧ s.bit (rmPort p) 2 = false ∧ s.bit (rmPort p) 0 = true) :=
  ⟨⟨wRimeLink0, 1, (by decide +kernel), (by decide +kernel), (by decide +kernel), (by decide +kernel), (by decide +kernel), (by decide +kernel), (by decide +kernel), (by decide +kernel)⟩,
   ⟨W 2, ⟨2, 1, List.range 16, 2 ^ 28, false, 0, 9⟩, (tmPlanBad (W 2).toBlock (⟨2, 1, List.range 16, 2 ^ 28, false, 0, 9⟩)).getD 0, (by decide +kernel), (by decide +kernel)⟩,
   ⟨wRimeLink1, ⟨2, 1, List.range 16, 2 ^ 28, false, 0, 9⟩, (by decide +kernel), (by decide +kernel)⟩,
   ⟨wRimeLink2, 1, (by decide +kernel), (by decide +kernel), (by decide +kernel)⟩,
   ⟨wRimeLink2, 1, 0x206, (by decide +kernel), (by decide +kernel), (by decide +kernel), (by decide +kernel)⟩,
   ⟨wRimeLink3, 2, 1, 999999999000, List.replicate 2304 (7 : Byte), (by decide +kernel), (by decide +kernel), (by decide +kernel), (by decide +kernel), (by decide +kernel), (by decide +kernel), (by decide +kernel)⟩,
   ⟨wTomoFrames0, 1, 99999, (by decide +kernel), (by decide +kernel)⟩,
   ⟨wRimeLink4, 1, (by decide +kernel), (by decide +kernel), (by decide +kernel)⟩,
   ⟨wPut (W 2) [(rmCfg, 15), (rmPort 1, 1)], 1, (by decide +kernel), (by decide +kernel), (by decide +kernel), (by decide +kernel), (by decide +kernel)⟩,
   ⟨wPut (W 2) [(rmCfg, 15), (rmPort 1, 1)], 1, (by decide +kernel), (by decide +kernel), (by decide +kernel), (by decide +kernel)⟩⟩

theorem test_meets_SectionArithmetic :
    (∃ c : Sec, secCheck c = 0) :=
  ⟨⟨1073741824, 0, 0, -1073741824, 0, 1⟩, by decide⟩

def wClassesAndCores0 : State :=
  wPut (W 2) (((List.range 4).map (fun c => (coreStat c, 1)) ++ (List.range 4).map (fun k => (clsCfg k, 100 * 10 ^ k + 80 * 2 ^ 32 + 3 * 2 ^ 40))) ++ [])

def wClassesAndCores1 : State :=
  wUp (wPut (W 2) (((List.range 4).map (fun c => (coreStat c, 1)) ++ (List.range 4).map (fun k => (clsCfg k, 100 * 10 ^ k + 80 * 2 ^ 32 + 3 * 2 ^ 40))) ++ [])) (fun b => b.setCls 2 { b.cls 2 with prog := some 1000000000000, dl := 8000000, ovr := 2, done := 5 })

def wClassesAndCores2 : State :=
  wUp (wPut (W 2) (((List.range 4).map (fun c => (coreStat c, 1)) ++ (List.range 4).map (fun k => (clsCfg k, 100 * 10 ^ k + 80 * 2 ^ 32 + 3 * 2 ^ 40))) ++ [])) (fun b => b.setCls 2 { b.cls 2 with prog := some 1000000000000, dl := 8000000, ovr := 0, done := 5 })

def wClassesAndCores3 : State :=
  wUp (wPut (W 2) (((List.range 4).map (fun c => (coreStat c, 1)) ++ (List.range 4).map (fun k => (clsCfg k, 100 * 10 ^ k + 80 * 2 ^ 32 + 3 * 2 ^ 40))) ++ [(lpCfg 9, 1 + 2 * 1)])) (fun b => { b with late := [⟨⟨7, 0, 9, 37⟩, .num 123456, 4, 7⟩] })

def wClassesAndCores4 : State :=
  wUp (wPut (W 2) (((List.range 4).map (fun c => (coreStat c, 1)) ++ (List.range 4).map (fun k => (clsCfg k, 100 * 10 ^ k + 80 * 2 ^ 32 + 3 * 2 ^ 40))) ++ [])) (fun b => { b with late := [⟨clsCfg 2, .num (700 + 80 * 2 ^ 32), 4, 7⟩] })

def wClassesAndCores5 : State :=
  wUp (wPut (W 2) (((List.range 4).map (fun c => (coreStat c, 1)) ++ (List.range 4).map (fun k => (clsCfg k, 100 * 10 ^ k + 80 * 2 ^ 32 + 3 * 2 ^ 40))) ++ [])) (fun b => b.setCls 2 { b.cls 2 with prog := some 1000000000000 })

theorem test_meets_ClassesAndCores :
    (∃ (s : State) (k : Nat) (b : Nat), s.sized = true ∧ k < 4 ∧ s.phase = .active ∧ (s.cls k).prog = none ∧ b = max (nextMultiple (max 1 (clsPeriod s.toBlock k)) (s.cls k).last) (ceilMultiple (max 1 (clsPeriod s.toBlock k)) (s.clk.tb - (classStart s.toBlock k s.clk.tb - s.clk.tb))) ∧ ((∀ w ∈ s.late, w.a ≠ clsCfg k))) ∧
    (∃ (s : State) (k : Nat) (ns : Nat) (b : Nat), s.sized = true ∧ k < 4 ∧ s.phase = .active ∧ (s.cls k).prog = some b ∧ ns ≤ (s.cls k).dl ∧ s.clk.tb ≤ b + ns) ∧
    (∃ (s : State) (k : Nat) (c : Nat) (b : Nat), s.sized = true ∧ k < 4 ∧ c < 4 ∧ s.phase = .active ∧ (s.cls k).prog = some b) ∧
    (∃ (s : State) (k : Nat) (n : Nat) (att : Nat) (v : Nat) (e : Nat) (due : Nat) (b : Nat) (a : Attr), s.sized = true ∧ k < 4 ∧ n < 256 ∧ s.phase = .active ∧ (s.cls k).prog = none ∧ lpClass s.toBlock n = k ∧ a = ⟨7, 0, n, att⟩ ∧ att ∈ [0x020, 0x021, 0x022, 0x023, 0x024, 0x025, 0x026, 0x027, 0x028, 0x029, 0x02A] ∧ s.late = [⟨a, .num v, e, due⟩] ∧ b = classNext s.toBlock k 0) ∧
    (∃ (s : State) (k : Nat) (v : Nat) (e : Nat) (due : Nat) (b : Nat) (p : Nat), s.sized = true ∧ k < 4 ∧ s.phase = .active ∧ (s.cls k).prog = none ∧ s.late = [⟨clsCfg k, .num v, e, due⟩] ∧ b = classNext s.toBlock k 0 ∧ p = fld v 31 0 * 4 ∧ 0 < p ∧ due ≤ b) ∧
    (∃ (c : Nat), c < 4) ∧
    (∃ (s : State) (c : Nat) (d : Nat) (x : Instr), (x = .coreSelfTest c false ∨ x = .coreMemoryError c) ∧ s.sized = true ∧ c < 4 ∧ s.phase = .active ∧ coreOn s.toBlock c = true ∧ d ≠ c ∧ coreOn s.toBlock d = true ∧ d < 4) ∧
    (∃ (s : State) (c : Nat) (x : Instr), (x = .coreSelfTest c false ∨ x = .coreMemoryError c) ∧ s.sized = true ∧ c < 4 ∧ s.phase = .active ∧ coreOn s.toBlock c = true ∧ ((∀ d < 4, d ≠ c → coreOn s.toBlock d = false))) :=
  ⟨⟨wClassesAndCores0, 2, max (nextMultiple (max 1 (clsPeriod (wClassesAndCores0).toBlock (2))) ((wClassesAndCores0).cls (2)).last) (ceilMultiple (max 1 (clsPeriod (wClassesAndCores0).toBlock (2))) ((wClassesAndCores0).clk.tb - (classStart (wClassesAndCores0).toBlock (2) (wClassesAndCores0).clk.tb - (wClassesAndCores0).clk.tb))), (by decide +kernel), (by decide +kernel), (by decide +kernel), (by decide +kernel), (by decide +kernel), (by decide +kernel)⟩,
   ⟨wClassesAndCores1, 2, 70000, 1000000000000, (by decide +kernel), (by decide +kernel), (by decide +kernel), (by decide +kernel), (by decide +kernel), (by decide +kernel)⟩,
   ⟨wClassesAndCores2, 2, 1, 1000000000000, (by decide +kernel), (by decide +kernel), (by decide +kernel), (by decide +kernel), (by decide +kernel)⟩,
   ⟨wClassesAndCores3, 1, 9, 37, 123456, 4, 7, classNext (wClassesAndCores3).toBlock (1) 0, ⟨7, 0, 9, 37⟩, (by decide +kernel), (by decide +kernel), (by decide +kernel), (by decide +kernel), (by decide +kernel), (by decide +kernel), (by decide +kernel), (by decide +kernel), (by decide +kernel), (by decide +kernel)⟩,
   ⟨wClassesAndCores4, 2, 700 + 80 * 2 ^ 32, 4, 7, classNext (wClassesAndCores4).toBlock (2) 0, fld (700 + 80 * 2 ^ 32) 31 0 * 4, (by decide +kernel), (by decide +kernel), (by decide +kernel), (by decide +kernel), (by decide +kernel), (by decide +kernel), (by decide +kernel), (by decide +kernel), (by decide +kernel)⟩,
   ⟨2, (by decide +kernel)⟩,
   ⟨wClassesAndCores5, 1, 3, .coreMemoryError 1, (by decide +kernel), (by decide +kernel), (by decide +kernel), (by decide +kernel), (by decide +kernel), (by decide +kernel), (by decide +kernel), (by decide +kernel)⟩,
   ⟨wPut (W 2) [(coreStat 1, 1)], 1, .coreMemoryError 1, (by decide +kernel), (by decide +kernel), (by decide +kernel), (by decide +kernel), (by decide +kernel), (by decide +kernel)⟩⟩

def wLoopCommands0 : State :=
  wUp (wPut (W 2) (((List.range 4).map (fun c => (coreStat c, 1)) ++ (List.range 4).map (fun k => (clsCfg k, 100 * 10 ^ k + 80 * 2 ^ 32 + 3 * 2 ^ 40))) ++ [])) (fun b => b.putTab (lpBankB 9) ⟨1, 4, 1, 6, [1073741824, 0, 0, 0, 0, 0]⟩)

def wLoopCommands1 : State :=
  wUp (wPut (W 2) (((List.range 4).map (fun c => (coreStat c, 1)) ++ (List.range 4).map (fun k => (clsCfg k, 100 * 10 ^ k + 80 * 2 ^ 32 + 3 * 2 ^ 40))) ++ [(lpCfg 7, 1 + 4), (lpStat 7, 32)])) (fun b => b.setCls 2 { b.cls 2 with shed := [.loop 7] })

def wLoopCommands2 : State :=
  wUp (wPut (W 2) (((List.range 4).map (fun c => (coreStat c, 1)) ++ (List.range 4).map (fun k => (clsCfg k, 100 * 10 ^ k + 80 * 2 ^ 32 + 3 * 2 ^ 40))) ++ [(lpCfg 7, 1 + 4), (lpStat 7, 2 ^ 15)])) (fun b => { b with late := [⟨lpCmd 7, .num 1, 0, 7⟩] })

def wLoopCommands3 : State :=
  wUp (wUp (wPut (W 2) (((List.range 4).map (fun c => (coreStat c, 1)) ++ (List.range 4).map (fun k => (clsCfg k, 100 * 10 ^ k + 80 * 2 ^ 32 + 3 * 2 ^ 40))) ++ [(lpCfg 7, 1 + 4), (lpStat 7, 32)])) (fun b => b.setCls 2 { b.cls 2 with shed := [.loop 7] })) (fun b => { b with late := [⟨clsCmd 2, .num 1, 0, 7⟩] })

theorem test_meets_LoopCommands :
    (∃ (s : State) (i : Nat) (n : Nat), s.sized = true ∧ n < 256 ∧ s.role ≠ 2 ∧ s.mayWrite i (lpBankCmd n) ∧ (swapCheck n s.counted).1 = 0) ∧
    (∃ (s : State) (i : Nat) (n : Nat), n < 256 ∧ s.paired = false ∧ s.mayWrite i (lpBankCmd n) ∧ (swapCheck n s.counted).1 ≠ 0) ∧
    (∃ (s : State) (i : Nat) (n : Nat) (b : Bool) (x : Table), n < 256 ∧ s.role ≠ 2 ∧ s.mayWrite i (lpBank n b) ∧ bankWriteCheck n b x s.counted = 0) ∧
    (∃ (s : State) (i : Nat) (n : Nat), n < 256 ∧ s.role ≠ 2 ∧ s.mayWrite i (lpCmd n) ∧ s.bit (lpStat n) 15 = true) ∧
    (∃ (s : State) (i : Nat) (k : Nat), s.sized = true ∧ k < 4 ∧ s.role ≠ 2 ∧ s.mayWrite i (clsCmd k) ∧ restoreCheck k s.counted = 0) ∧
    (∃ (s : State) (k : Nat) (n : Nat) (e : Nat) (due : Nat), s.sized = true ∧ k < 4 ∧ n < 256 ∧ s.phase = .active ∧ (s.cls k).prog = none ∧ lpClass s.toBlock n = k ∧ s.late = [⟨lpCmd n, .num 1, e, due⟩] ∧ due ≤ classNext s.toBlock k 0) ∧
    (∃ (s : State) (k : Nat) (e : Nat) (due : Nat), s.sized = true ∧ k < 4 ∧ s.phase = .active ∧ (s.cls k).prog = none ∧ s.late = [⟨clsCmd k, .num 1, e, due⟩] ∧ due ≤ classNext s.toBlock k 0 ∧ restoreCheck k s.toBlock = 0) :=
  ⟨⟨wLoopCommands0, 0, 9, (by decide +kernel), (by decide +kernel), (by decide +kernel), (by unfold Block.mayWrite; decide +kernel), (by decide +kernel)⟩,
   ⟨wClassesAndCores0, 0, 9, (by decide +kernel), (by decide +kernel), (by unfold Block.mayWrite; decide +kernel), (by decide +kernel)⟩,
   ⟨W 2, 0, 9, true, ⟨1, 4, 1, 6, [1073741824, 0, 0, 0, 0, 0]⟩, (by decide +kernel), (by decide +kernel), (by unfold Block.mayWrite; decide +kernel), (by decide +kernel)⟩,
   ⟨wPut (W 2) [(lpStat 9, 2 ^ 15)], 0, 9, (by decide +kernel), (by decide +kernel), (by unfold Block.mayWrite; decide +kernel), (by decide +kernel)⟩,
   ⟨wLoopCommands1, 0, 2, (by decide +kernel), (by decide +kernel), (by decide +kernel), (by unfold Block.mayWrite; decide +kernel), (by decide +kernel)⟩,
   ⟨wLoopCommands2, 2, 7, 0, 7, (by decide +kernel), (by decide +kernel), (by decide +kernel), (by decide +kernel), (by decide +kernel), (by decide +kernel), (by decide +kernel), (by decide +kernel)⟩,
   ⟨wLoopCommands3, 2, 0, 7, (by decide +kernel), (by decide +kernel), (by decide +kernel), (by decide +kernel), (by decide +kernel), (by decide +kernel), (by decide +kernel)⟩⟩

def wLineWork0 : State :=
  wUp (wPut (W 2) ([(lnCfg 3, 1 + 0 * 2 + 20 * 2 ^ 8 + 2 * 2 ^ 20), (lnStat 3, 1)] ++ [])) (fun b => b.putTab (cropSet 2) ⟨0, 0, 1, 1, [0]⟩)

def wLineWork1 : State :=
  wUp (wUp (wPut (W 2) ([(lnCfg 3, 1 + 0 * 2 + 20 * 2 ^ 8 + 2 * 2 ^ 20), (lnStat 3, 1)] ++ [(lnObs 3, 2 ^ 63)])) (fun b => b.putTab (cropSet 2) ⟨0, 0, 1, 1, [0]⟩)) (fun b => b.setNch 3 { b.nch 3 with rejRun := 2, pos := [{ parcelVoid with corr := 5, flags := 0 }, parcelVoid] })

def wLineWork2 : State :=
  wUp (wUp (wPut (W 2) ([(lnCfg 3, 1 + 0 * 2 + 20 * 2 ^ 8 + 2 * 2 ^ 20), (lnStat 3, 1)] ++ [])) (fun b => b.putTab (cropSet 2) ⟨0, 0, 1, 1, [0]⟩)) (fun b => b.setNch 3 { b.nch 3 with latch := [1, 4], holdNow := [4] })

def wLineWork3 : State :=
  wUp (wUp (wPut (W 2) ([(lnCfg 3, 1 + 0 * 2 + 20 * 2 ^ 8 + 2 * 2 ^ 20), (lnStat 3, 1)] ++ [(lnObs 3, 2 ^ 63 + 60 * 2 ^ 192)])) (fun b => b.putTab (cropSet 2) ⟨0, 0, 1, 1, [0]⟩)) (fun b => b.setNch 3 { b.nch 3 with lastObs := 999990000000 })

def wLineWork4 : State :=
  wUp (wUp (wPut (W 2) ([(lnCfg 3, 1 + 0 * 2 + 20 * 2 ^ 8 + 2 * 2 ^ 20), (lnStat 3, 1)] ++ [(lnBatch 3, 600 * 2 ^ 32)])) (fun b => b.putTab (cropSet 2) ⟨0, 0, 1, 1, [0]⟩)) (fun b => b.setNch 3 { b.nch 3 with step := 2, stepT := 5 })

def wLineWork5 : State :=
  wUp (wUp (wPut (W 2) ([(lnCfg 3, 1 + 2 * 2 + 20 * 2 ^ 8 + 2 * 2 ^ 20), (lnStat 3, 1)] ++ [(lnStore 3, 30 * 2 ^ 64 + 40 * 2 ^ 80)])) (fun b => b.putTab (cropSet 2) ⟨0, 0, 1, 1, [0]⟩)) (fun b => b.setNch 3 { b.nch 3 with winC := some 999990000000 })

def wLineWork6 : State :=
  wUp (W 2) (fun b => { b with line := { b.line with copy := some (999990000000, []) } })

theorem test_meets_LineWork :
    (∃ (s : State) (i : Nat) (l : Nat) (op : Nat) (st : Nat) (c : Instr), (c, op, st) ∈ [(Instr.lineStart i l, 1, match lnProg s.seen l with | 0 => 1 | 1 => 6 | _ => 9), (.lineStop i l, 2, 0), (.nextStep i l, 3, nextStep (s.nch l).step), (.coolRun i l, 7, 10)] ∧ s.sized = true ∧ l < 8 ∧ s.role ≠ 2 ∧ s.mayWrite i (lnCmd l) ∧ lnCmdCheck op l 0 s.counted = 0) ∧
    (∃ (s : State) (i : Nat) (l : Nat) (pos : Nat) (m : Nat), s.sized = true ∧ l < 8 ∧ s.role ≠ 2 ∧ s.mayWrite i (lnCmd l) ∧ lnCmdCheck 4 l pos s.counted = 0 ∧ m < 65536) ∧
    (∃ (s : State) (i : Nat) (l : Nat), s.sized = true ∧ l < 8 ∧ s.role ≠ 2 ∧ s.mayWrite i (lnCmd l) ∧ lnCmdCheck 5 l 0 s.counted = 0) ∧
    (∃ (s : State) (i : Nat) (l : Nat), s.sized = true ∧ l < 8 ∧ s.role ≠ 2 ∧ s.mayWrite i (lnCmd l) ∧ lnCmdCheck 6 l 0 s.counted = 0) ∧
    (∃ (s : State) (l : Nat), s.sized = true ∧ l < 8 ∧ lnOn s.toBlock l = true ∧ s.bit (lnObs l) 63 = true) ∧
    (∃ (s : State) (l : Nat) (left : Nat) (next : Nat), s.sized = true ∧ l < 8 ∧ lnOn s.toBlock l = true ∧ s.modeNo = 2 ∧ (s.nch l).pend = none ∧ stepTimer s.toBlock l = some (left, next)) ∧
    (∃ (s : State) (l : Nat) (w : Nat) (at' : Nat), s.sized = true ∧ l < 8 ∧ w < 2 ∧ lnOn s.toBlock l = true ∧ lnProg s.toBlock l = 2 ∧ (if w = 0 then (s.nch l).winC else (s.nch l).winD) = some at') ∧
    (∃ (s : State), s.phase = .active) ∧
    (∃ (s : State) (ts : Nat) (c : List (Nat × LineCh)), s.phase = .active ∧ s.line.copy = some (ts, c) ∧ s.mram.ckpt.length = 2) :=
  ⟨⟨wLineWork0, 0, 3, 1, 1, .lineStart (0) (3), (by exact .head _), (by decide +kernel), (by decide +kernel), (by decide +kernel), (by unfold Block.mayWrite; decide +kernel), (by decide +kernel)⟩,
   ⟨wLineWork0, 0, 3, 4, 1500, (by decide +kernel), (by decide +kernel), (by decide +kernel), (by unfold Block.mayWrite; decide +kernel), (by decide +kernel), (by decide +kernel)⟩,
   ⟨wLineWork1, 0, 3, (by decide +kernel), (by decide +kernel), (by decide +kernel), (by unfold Block.mayWrite; decide +kernel), (by decide +kernel)⟩,
   ⟨wLineWork2, 0, 3, (by decide +kernel), (by decide +kernel), (by decide +kernel), (by unfold Block.mayWrite; decide +kernel), (by decide +kernel)⟩,
   ⟨wLineWork3, 3, (by decide +kernel), (by decide +kernel), (by decide +kernel), (by decide +kernel)⟩,
   ⟨wLineWork4, 3, 600000000000 - 5, 3, (by decide +kernel), (by decide +kernel), (by decide +kernel), (by decide +kernel), (by decide +kernel), (by decide +kernel)⟩,
   ⟨wLineWork5, 3, 0, 999990000000, (by decide +kernel), (by decide +kernel), (by decide +kernel), (by decide +kernel), (by decide +kernel), (by decide +kernel)⟩,
   ⟨W 2, (by decide +kernel)⟩,
   ⟨wLineWork6, 999990000000, [], (by decide +kernel), (by decide +kernel), (by decide +kernel)⟩⟩

def wAxisStartSequence0 : State :=
  wPut (W 2) ([(axCfg 2, 1 + 2 ^ 18 + 0), (axStat 2, 1 + 4 * 1 + 0), (axsStat, 3), (axSp 2, 5000), (axSpeed 2, 20000 + 1000 * 2 ^ 32 + 500 * 2 ^ 64), (axStart 2, 100 + 2000 * 2 ^ 32 + 2 ^ 64 * 1000), (clsCfg 0, 100)] ++ [])

def wAxisStartSequence1 : State :=
  wPut (W 2) ([(axCfg 2, 1 + 2 ^ 18 + 0), (axStat 2, 1 + 4 * 1 + 2 ^ 15), (axsStat, 3), (axSp 2, 5000), (axSpeed 2, 20000 + 1000 * 2 ^ 32 + 500 * 2 ^ 64), (axStart 2, 100 + 2000 * 2 ^ 32 + 2 ^ 64 * 1000), (clsCfg 0, 100)] ++ [])

def wAxisStartSequence2 : State :=
  wUp (wPut (W 2) ([(axCfg 2, 1 + 2 ^ 18 + 0), (axStat 2, 1 + 4 * 2 + 0), (axsStat, 3), (axSp 2, 5000), (axSpeed 2, 20000 + 1000 * 2 ^ 32 + 500 * 2 ^ 64), (axStart 2, 100 + 2000 * 2 ^ 32 + 2 ^ 64 * 1000), (clsCfg 0, 100)] ++ [])) (fun b => b.setXch 2 { b.xch 2 with catchAt := 999999999999 })

def wAxisStartSequence3 : State :=
  wUp (wPut (W 2) ([(axCfg 2, 1 + 2 ^ 18 + 2), (axStat 2, 1 + 4 * 3 + 0), (axsStat, 3), (axSp 2, 5000), (axSpeed 2, 20000 + 1000 * 2 ^ 32 + 500 * 2 ^ 64), (axStart 2, 100 + 2000 * 2 ^ 32 + 2 ^ 64 * 1000), (clsCfg 0, 100)] ++ [])) (fun b => b.setXch 2 { b.xch 2 with at' := 999999999999 })

def wAxisStartSequence4 : State :=
  wPut (W 2) ([(axCfg 2, 1 + 2 ^ 18 + 2), (axStat 2, 1 + 4 * 4 + 0), (axsStat, 3), (axSp 2, 5000), (axSpeed 2, 20000 + 1000 * 2 ^ 32 + 500 * 2 ^ 64), (axStart 2, 100 + 2000 * 2 ^ 32 + 2 ^ 64 * 1000), (clsCfg 0, 100)] ++ [])

def wAxisStartSequence5 : State :=
  wUp (wPut (W 2) ([(axCfg 2, 1 + 2 ^ 18 + 0), (axStat 2, 1 + 4 * 7 + 0), (axsStat, 3), (axSp 2, 5000), (axSpeed 2, 20000 + 1000 * 2 ^ 32 + 500 * 2 ^ 64), (axStart 2, 100 + 2000 * 2 ^ 32 + 2 ^ 64 * 1000), (clsCfg 0, 100)] ++ [])) (fun b => b.setXch 2 { b.xch 2 with waitEnd := 1000000005555 })

def wAxisStartSequence6 : State :=
  wPut (W 2) ([(axCfg 2, 1 + 2 ^ 18 + 0), (axStat 2, 1 + 4 * 5 + 3 * 2 ^ 16), (axsStat, 3), (axSp 2, 5000), (axSpeed 2, 20000 + 1000 * 2 ^ 32 + 500 * 2 ^ 64), (axStart 2, 100 + 2000 * 2 ^ 32 + 2 ^ 64 * 1000), (clsCfg 0, 100)] ++ [])

def wAxisStartSequence7 : State :=
  wPut (W 2) ([(axCfg 2, 1 + 2 ^ 18 + 0), (axStat 2, 1 + 4 * 3 + 0), (axsStat, 3), (axSp 2, 5000), (axSpeed 2, 20000 + 1000 * 2 ^ 32 + 500 * 2 ^ 64), (axStart 2, 100 + 2000 * 2 ^ 32 + 2 ^ 64 * 1000), (clsCfg 0, 100)] ++ [])

theorem test_meets_AxisStartSequence :
    (∃ (s : State) (a : Nat), s.sized = true ∧ a < 12 ∧ s.phase = .active ∧ axSt s.toBlock a = 1 ∧ axMayStart s.toBlock a = true) ∧
    (∃ (s : State) (a : Nat), a < 12 ∧ s.phase = .active ∧ axSt s.toBlock a = 1 ∧ axOn s.toBlock a = true ∧ (axTarget s.toBlock a).isSome = true ∧ s.bit (axStat a) 15 = true) ∧
    (∃ (s : State) (a : Nat), s.sized = true ∧ a < 12 ∧ axSt s.toBlock a = 2) ∧
    (∃ (s : State) (a : Nat) (flux : Nat), s.sized = true ∧ a < 12 ∧ axSt s.toBlock a = 3 ∧ ((axTarget s.toBlock a = none ∨ axPm s.toBlock a = true ∨ 80 ≤ flux))) ∧
    (∃ (s : State) (a : Nat) (bemf : Nat) (reached : Bool) (v : Int), s.sized = true ∧ a < 12 ∧ axSt s.toBlock a = 4 ∧ axTarget s.toBlock a = some v ∧ ((axPm s.toBlock a = true → 50 ≤ bemf)) ∧ ((axPm s.toBlock a = false → reached = true)) ∧ ((s.fget (axCfg a) 4 3 = 0 ∨ s.fget (axStart a) 63 32 ≤ 2 * (axFbSpeed s.toBlock a).natAbs))) ∧
    (∃ (s : State) (a : Nat), s.sized = true ∧ a < 12 ∧ axSt s.toBlock a = 7) ∧
    (∃ (s : State) (a : Nat), a < 12 ∧ axSt s.toBlock a = 5) ∧
    (∃ (s : State) (a : Nat) (c : Instr), s.sized = true ∧ a < 12 ∧ (((∃ flux, c = .axisAlignDone a flux ∧ axSt s.toBlock a = 3 ∧ axPm s.toBlock a = false ∧ flux < 80 ∧ (axTarget s.toBlock a).isSome = true) ∨ (∃ bemf r, c = .axisStartCheck a bemf r ∧ axSt s.toBlock a = 4 ∧ (axTarget s.toBlock a).isSome = true ∧ ((axPm s.toBlock a = true ∧ bemf < 50) ∨ (axPm s.toBlock a = false ∧ r = false))) ∨ (∃ iu iv iw, c = .axisOpenPhase a iu iv iw ∧ (axSt s.toBlock a = 4 ∨ axSt s.toBlock a = 5) ∧ 3 * s.get (axCurLimit a) ^ 2 ≤ 25 * (iu ^ 2 + iv ^ 2 + iw ^ 2) ∧ ((10 * iu < iv ∧ 10 * iu < iw) ∨ (10 * iv < iu ∧ 10 * iv < iw) ∨ (10 * iw < iu ∧ 10 * iw < iv)))))) :=
  ⟨⟨wAxisStartSequence0, 2, (by decide +kernel), (by decide +kernel), (by decide +kernel), (by decide +kernel), (by decide +kernel)⟩,
   ⟨wAxisStartSequence1, 2, (by decide +kernel), (by decide +kernel), (by decide +kernel), (by decide +kernel), (by decide +kernel), (by decide +kernel)⟩,
   ⟨wAxisStartSequence2, 2, (by decide +kernel), (by decide +kernel), (by decide +kernel)⟩,
   ⟨wAxisStartSequence3, 2, 0, (by decide +kernel), (by decide +kernel), (by decide +kernel), (by decide +kernel)⟩,
   ⟨wAxisStartSequence4, 2, 50, false, 5000, (by decide +kernel), (by decide +kernel), (by decide +kernel), (by decide +kernel), (by decide +kernel), (by decide +kernel), (by decide +kernel)⟩,
   ⟨wAxisStartSequence5, 2, (by decide +kernel), (by decide +kernel), (by decide +kernel)⟩,
   ⟨wAxisStartSequence6, 2, (by decide +kernel), (by decide +kernel)⟩,
   ⟨wAxisStartSequence7, 2, .axisAlignDone (2) 79, (by decide +kernel), (by decide +kernel), (by exact Or.inl ⟨79, by decide, by decide, by decide, by decide, by decide⟩)⟩⟩

def wAxisStops0 : State :=
  wPut (W 2) ([(axCfg 2, 1 + 2 ^ 18 + 0), (axStat 2, 1 + 4 * 5 + 0), (axsStat, 3), (axSp 2, 0), (axSpeed 2, 20000 + 1000 * 2 ^ 32 + 500 * 2 ^ 64), (axStart 2, 100 + 2000 * 2 ^ 32 + 2 ^ 64 * 1000), (clsCfg 0, 100)] ++ [])

def wAxisStops1 : State :=
  wUp (wPut (W 2) ([(axCfg 2, 1 + 2 ^ 18 + 0), (axStat 2, 1 + 4 * 6 + 0), (axsStat, 3), (axSp 2, 5000), (axSpeed 2, 20000 + 1000 * 2 ^ 32 + 500 * 2 ^ 64), (axStart 2, 100 + 2000 * 2 ^ 32 + 2 ^ 64 * 1000), (clsCfg 0, 100)] ++ [])) (fun b => b.setXch 2 { b.xch 2 with ref := 0 })

def wAxisStops2 : State :=
  wPut (W 2) ([(axCfg 2, 1 + 2 ^ 18 + 0), (axStat 2, 1 + 4 * 5 + 0), (axsStat, 3), (axSp 2, 5000), (axSpeed 2, 20000 + 1000 * 2 ^ 32 + 500 * 2 ^ 64), (axStart 2, 100 + 2000 * 2 ^ 32 + 2 ^ 64 * 1000), (clsCfg 0, 100)] ++ [(axProt 2, 30000 + 20000 * 2 ^ 16), (axScale 2, 4000 * 2 ^ 96)])

def wAxisStops3 : State :=
  wPut (W 2) ([(axCfg 2, 1 + 2 ^ 18 + 0), (axStat 2, 1 + 4 * 1 + 0), (axsStat, 3), (axSp 2, 5000), (axSpeed 2, 20000 + 1000 * 2 ^ 32 + 500 * 2 ^ 64), (axStart 2, 100 + 2000 * 2 ^ 32 + 2 ^ 64 * 1000), (clsCfg 0, 100)] ++ [(axProt 2, 30000 + 20000 * 2 ^ 16), (axScale 2, 4000 * 2 ^ 96)])

def wAxisStops4 : State :=
  wPut (W 2) ([(axCfg 2, 1 + 2 ^ 18 + 0), (axStat 2, 1 + 4 * 11 + 0), (axsStat, 3), (axSp 2, 5000), (axSpeed 2, 20000 + 1000 * 2 ^ 32 + 500 * 2 ^ 64), (axStart 2, 100 + 2000 * 2 ^ 32 + 2 ^ 64 * 1000), (clsCfg 0, 100)] ++ [(axProt 2, 30000 + 20000 * 2 ^ 16), (axScale 2, 4000 * 2 ^ 96)])

def wAxisStops5 : State :=
  wPut (W 2) ([(axCfg 2, 1 + 2 ^ 18 + 2 ^ 10), (axStat 2, 1 + 4 * 9 + 2 * 2 ^ 24), (axsStat, 3), (axSp 2, 5000), (axSpeed 2, 20000 + 1000 * 2 ^ 32 + 500 * 2 ^ 64), (axStart 2, 100 + 2000 * 2 ^ 32 + 2 ^ 64 * 1000), (clsCfg 0, 100)] ++ [])

def wAxisStops6 : State :=
  wUp (wPut (W 2) ([(axCfg 2, 1 + 2 ^ 18 + 2 ^ 10), (axStat 2, 1 + 4 * 9 + 2 * 2 ^ 24), (axsStat, 3), (axSp 2, 5000), (axSpeed 2, 20000 + 1000 * 2 ^ 32 + 500 * 2 ^ 64), (axStart 2, 100 + 2000 * 2 ^ 32 + 2 ^ 64 * 1000), (clsCfg 0, 100)] ++ [])) (fun b => b.setXch 2 { b.xch 2 with autoClr := [999999000000, 999998000000, 999997000000] })

def wAxisStops7 : State :=
  wPut (W 2) ([(axCfg 2, 1 + 2 ^ 18 + 0), (axStat 2, 1 + 4 * 9 + 2 * 2 ^ 24), (axsStat, 3), (axSp 2, 5000), (axSpeed 2, 20000 + 1000 * 2 ^ 32 + 500 * 2 ^ 64), (axStart 2, 100 + 2000 * 2 ^ 32 + 2 ^ 64 * 1000), (clsCfg 0, 100)] ++ [])

def wAxisStops8 : State :=
  wUp (wPut (W 2) ([(axCfg 2, 1 + 2 ^ 18 + 0), (axStat 2, 1 + 4 * 6 + 0), (axsStat, 3), (axSp 2, 5000), (axSpeed 2, 20000 + 1000 * 2 ^ 32 + 500 * 2 ^ 64), (axStart 2, 100 + 2000 * 2 ^ 32 + 2 ^ 64 * 1000), (clsCfg 0, 100)] ++ [])) (fun b => b.setXch 2 { b.xch 2 with ref := 0, cfgNext := some 262145 })

theorem test_meets_AxisStops :
    (∃ (s : State) (a : Nat), s.sized = true ∧ a < 12 ∧ s.phase = .active ∧ axTarget s.toBlock a = none ∧ 2 ≤ axSt s.toBlock a ∧ axSt s.toBlock a ≤ 5) ∧
    (∃ (s : State) (a : Nat), s.sized = true ∧ a < 12 ∧ axSt s.toBlock a = 6 ∧ (s.xch a).ref = 0 ∧ (s.xch a).cfgNext = none) ∧
    (∃ (s : State) (a : Nat) (k : Nat) (p : Nat) (u : Nat) (v : Int) (c : Instr), ((c = .axisTrip a p v u ∧ ((k = 1 ∧ u < 64 ∧ p ≠ 3 ∧ s.fget (axScale a) 127 96 < v.natAbs) ∨ (k = 2 ∧ u < 64 ∧ p = 3 ∧ (s.fget (axProt a) 15 0 : Int) < v) ∨ (k = 3 ∧ 64 ≤ u))) ∨ (c = .bfltFault a ∧ k = 4)) ∧ s.sized = true ∧ a < 12 ∧ s.phase = .active ∧ axOn s.toBlock a = true ∧ axSwitching (axSt s.toBlock a) = true) ∧
    (∃ (s : State) (a : Nat) (p : Nat) (u : Nat) (v : Int) (c : Instr), ((c = .axisTrip a p v u ∧ axTripCause s.toBlock a p v u ≠ 0) ∨ c = .bfltFault a) ∧ a < 12 ∧ s.phase = .active ∧ axOn s.toBlock a = true ∧ axSwitching (axSt s.toBlock a) = false) ∧
    (∃ (s : State) (a : Nat) (v : Int), s.sized = true ∧ a < 12 ∧ s.phase = .active ∧ axOn s.toBlock a = true ∧ axSwitching (axSt s.toBlock a) = true ∧ v < s.fget (axProt a) 31 16) ∧
    (∃ (s : State) (a : Nat) (v : Int), s.sized = true ∧ a < 12 ∧ axSt s.toBlock a = 11 ∧ 105 * (s.fget (axProt a) 31 16 : Int) < 100 * v ∧ (s.xch a).cfgNext = none) ∧
    (∃ (s : State) (a : Nat), s.sized = true ∧ a < 12 ∧ axSt s.toBlock a = 9 ∧ s.bit (axCfg a) 10 = true ∧ (s.xch a).autoClr = [] ∧ (s.xch a).cfgNext = none) ∧
    (∃ (s : State) (a : Nat) (x : Nat) (y : Nat) (z : Nat) (r : List Nat), a < 12 ∧ axSt s.toBlock a = 9 ∧ s.bit (axCfg a) 10 = true ∧ (s.xch a).autoClr = x :: y :: z :: r ∧ ((∀ u ∈ [x, y, z], s.rawAt ((s.xch a).at' + 5 * nsPerS) < u + 3600 * nsPerS))) ∧
    (∃ (s : State) (i : Nat) (a : Nat) (present : Bool), s.sized = true ∧ a < 12 ∧ s.mayWrite i (axCmd a) ∧ axClearCheck a present s.counted = 0 ∧ (s.xch a).cfgNext = none) ∧
    (∃ (s : State) (i : Nat) (a : Nat) (v : Nat) (c : Instr), s.sized = true ∧ a < 12 ∧ (s.xch a).cfgNext = some v ∧ v < 2 ^ 32 ∧ (((c = .axisRampStopDone a ∧ axSt s.toBlock a = 6 ∧ (s.xch a).ref = 0) ∨ (c = .axisClear i a false ∧ s.mayWrite i (axCmd a) ∧ axClearCheck a false s.counted = 0)))) :=
  ⟨⟨wAxisStops0, 2, (by decide +kernel), (by decide +kernel), (by decide +kernel), (by decide +kernel), (by decide +kernel), (by decide +kernel)⟩,
   ⟨wAxisStops1, 2, (by decide +kernel), (by decide +kernel), (by decide +kernel), (by decide +kernel), (by decide +kernel)⟩,
   ⟨wAxisStops2, 2, 2, 3, 0, 30001, .axisTrip (2) (3) (30001) (0), (by decide +kernel), (by decide +kernel), (by decide +kernel), (by decide +kernel), (by decide +kernel), (by decide +kernel)⟩,
   ⟨wAxisStops3, 2, 1, 0, 4001, .axisTrip (2) (1) (4001) (0), (by decide +kernel), (by decide +kernel), (by decide +kernel), (by decide +kernel), (by decide +kernel)⟩,
   ⟨wAxisStops2, 2, 19999, (by decide +kernel), (by decide +kernel), (by decide +kernel), (by decide +kernel), (by decide +kernel), (by decide +kernel)⟩,
   ⟨wAxisStops4, 2, 21001, (by decide +kernel), (by decide +kernel), (by decide +kernel), (by decide +kernel), (by decide +kernel)⟩,
   ⟨wAxisStops5, 2, (by decide +kernel), (by decide +kernel), (by decide +kernel), (by decide +kernel), (by decide +kernel), (by decide +kernel)⟩,
   ⟨wAxisStops6, 2, 999999000000, 999998000000, 999997000000, [], (by decide +kernel), (by decide +kernel), (by decide +kernel), (by decide +kernel), (by decide +kernel)⟩,
   ⟨wAxisStops7, 0, 2, false, (by decide +kernel), (by decide +kernel), (by unfold Block.mayWrite; decide +kernel), (by decide +kernel), (by decide +kernel)⟩,
   ⟨wAxisStops8, 0, 2, 262145, .axisRampStopDone (2), (by decide +kernel), (by decide +kernel), (by decide +kernel), (by decide +kernel), (by unfold Block.mayWrite; decide +kernel)⟩⟩

def wAxisMonitors0 : State :=
  wUp (wPut (W 2) ([(axCfg 2, 1 + 2 ^ 18 + 8), (axStat 2, 1 + 4 * 5 + 0), (axsStat, 3), (axSp 2, 5000), (axSpeed 2, 20000 + 1000 * 2 ^ 32 + 500 * 2 ^ 64), (axStart 2, 100 + 2000 * 2 ^ 32 + 2 ^ 64 * 1000), (clsCfg 0, 100)] ++ [])) (fun b => b.setXch 2 { b.xch 2 with est := -700 })

def wAxisMonitors1 : State :=
  wUp (wPut (W 2) ([(axCfg 2, 1 + 2 ^ 18 + 0), (axStat 2, 1 + 4 * 5 + 0), (axsStat, 3), (axSp 2, 5000), (axSpeed 2, 20000 + 1000 * 2 ^ 32 + 500 * 2 ^ 64), (axStart 2, 100 + 2000 * 2 ^ 32 + 2 ^ 64 * 1000), (clsCfg 0, 100)] ++ [])) (fun b => b.setXch 2 { b.xch 2 with curFrom := some 999999000000 })

def wAxisMonitors2 : State :=
  wUp (wPut (W 2) ([(axCfg 2, 1 + 2 ^ 18 + 0), (axStat 2, 1 + 4 * 5 + 0), (axsStat, 3), (axSp 2, 5000), (axSpeed 2, 20000 + 1000 * 2 ^ 32 + 500 * 2 ^ 64), (axStart 2, 100 + 2000 * 2 ^ 32 + 2 ^ 64 * 1000), (clsCfg 0, 100)] ++ [(axPwm 2, 100 + 50 * 2 ^ 16)])) (fun b => b.setXch 2 { b.xch 2 with duty := (800, 0, 0) })

theorem test_meets_AxisMonitors :
    (∃ (s : State) (a : Nat) (cond : Nat) (since : Nat), a < 12 ∧ axSt s.toBlock a = 5 ∧ s.fget (axCfg a) 4 3 ≠ 0 ∧ s.bit (axStat a) 6 = false ∧ axSlMin s.toBlock a ≤ (s.xch a).est.natAbs ∧ (((cond = 1 ∧ 2000000 ≤ since ∧ 3 * 600 * nsPerS ≤ since * (s.xch a).est.natAbs * encCpr s.toBlock (s.fget (axCfg a) 7 5)) ∨ (cond = 2 ∧ (s.xch a).est.natAbs < 5 * (axFbSpeed s.toBlock a - (s.xch a).est).natAbs) ∨ (cond = 3 ∧ s.bit (encStat (s.fget (axCfg a) 7 5)) 2 = true)))) ∧
    (∃ (s : State) (a : Nat) (from' : Nat), a < 12 ∧ (s.xch a).curFrom = some from' ∧ s.bit (axStat a) 8 = false) ∧
    (∃ (s : State) (a : Nat), a < 12 ∧ s.phase = .active ∧ s.bit (axStat a) 15 = true ∧ axSwitching (axSt s.toBlock a) = false) ∧
    (∃ (s : State) (p : Nat), s.phase = .active ∧ p < 2 ^ 32) ∧
    (∃ (s : State) (a : Nat) (leg : Nat) (k : Nat) (k' : Nat), (axGate s.toBlock a leg k).1 = true ∧ (axGate s.toBlock a leg k').2 = true) :=
  ⟨⟨wAxisMonitors0, 2, 2, 0, (by decide +kernel), (by decide +kernel), (by decide +kernel), (by decide +kernel), (by decide +kernel), (by decide +kernel)⟩,
   ⟨wAxisMonitors1, 2, 999999000000, (by decide +kernel), (by decide +kernel), (by decide +kernel)⟩,
   ⟨wAxisStartSequence1, 2, (by decide +kernel), (by decide +kernel), (by decide +kernel), (by decide +kernel)⟩,
   ⟨W 2, 101325, (by decide +kernel), (by decide +kernel)⟩,
   ⟨wAxisMonitors2, 2, 0, 1250, 2499, (by decide +kernel), (by decide +kernel)⟩⟩

def wPullIns0 : State :=
  wUp (wPut (W 2) ([(devSupply, 4), (vlvCfg 5, 1 + 50 * 2 ^ 16), (vlvShape 5, 3000 + 200 * 2 ^ 16 + 800 * 2 ^ 32 + 900 * 2 ^ 48), (bnkCfg 1, 1 + 19200 * 256), (bnkStat 1, 1)] ++ [])) (fun b => b.setVch 5 { b.vch 5 with want := 1, out := 1, resv := true, req := some ⟨some 1000500000000, 1000000000000, false, false⟩ })

def wPullIns1 : State :=
  wUp (wPut (W 2) ([(devSupply, 4), (vlvCfg 5, 1 + 50 * 2 ^ 16), (vlvShape 5, 3000 + 200 * 2 ^ 16 + 800 * 2 ^ 32 + 900 * 2 ^ 48), (bnkCfg 1, 1 + 19200 * 256), (bnkStat 1, 1)] ++ [])) (fun b => b.setVch 5 { b.vch 5 with want := 1, out := 1, resv := true, piFrom := some 999999999000 })

theorem test_meets_PullIns :
    (∃ (s : State), s.phase = .active ∧ vQueued s.toBlock ≠ 0 ∧ s.sized = true ∧ vRunning s.toBlock ≤ 3) ∧
    (∃ (s : State) (n : Nat) (r : PiReq), s.sized = true ∧ s.phase = .active ∧ n < 24 ∧ vQueue s.toBlock = [(n, r)] ∧ vQueued s.toBlock = 1 ∧ r.deferred = false) ∧
    (∃ (s : State) (n : Nat) (at' : Nat), s.sized = true ∧ n < 24 ∧ (s.vch n).piFrom = some at' ∧ (s.vch n).req = none ∧ vRunning s.toBlock ≤ 3) ∧
    (∃ (s : State) (n : Nat) (d : Nat) (r : PiReq), s.sized = true ∧ n < 24 ∧ (s.vch n).req = some r ∧ r.deadline = some d) :=
  ⟨⟨wPullIns0, (by decide +kernel), (by decide +kernel), (by decide +kernel), (by decide +kernel)⟩,
   ⟨wPullIns0, 5, ⟨some 1000500000000, 1000000000000, false, false⟩, (by decide +kernel), (by decide +kernel), (by decide +kernel), (by decide +kernel), (by decide +kernel), (by decide +kernel)⟩,
   ⟨wPullIns1, 5, 999999999000, (by decide +kernel), (by decide +kernel), (by decide +kernel), (by decide +kernel), (by decide +kernel)⟩,
   ⟨wPullIns0, 5, 1000500000000, ⟨some 1000500000000, 1000000000000, false, false⟩, (by decide +kernel), (by decide +kernel), (by decide +kernel), (by decide +kernel)⟩⟩

def wValveWork0 : State :=
  wUp (wPut (W 2) ([(devSupply, 4), (vlvCfg 5, 1 + 50 * 2 ^ 16), (vlvShape 5, 3000 + 200 * 2 ^ 16 + 800 * 2 ^ 32 + 900 * 2 ^ 48), (bnkCfg 1, 1 + 19200 * 256), (bnkStat 1, 1)] ++ [])) (fun b => b.setVch 5 { b.vch 5 with want := 1, out := 1, resv := true, hold := true })

def wValveWork1 : State :=
  wUp (wPut (W 2) ([(devSupply, 4), (vlvCfg 5, 1 + 50 * 2 ^ 16), (vlvShape 5, 3000 + 200 * 2 ^ 16 + 800 * 2 ^ 32 + 900 * 2 ^ 48), (bnkCfg 1, 1 + 19200 * 256), (bnkStat 1, 1)] ++ [])) (fun b => b.setVch 5 { b.vch 5 with want := 1, out := 1, resv := true, hold := true, target := 800 })

def wValveWork2 : State :=
  wPut (W 2) ([(devSupply, 4), (vlvCfg 5, 1 + 50 * 2 ^ 16), (vlvShape 5, 3000 + 200 * 2 ^ 16 + 800 * 2 ^ 32 + 900 * 2 ^ 48), (bnkCfg 1, 1 + 19200 * 256), (bnkStat 1, 1)] ++ [(vlvCfg 5, 1 + 256 + 50 * 2 ^ 16)])

def wValveWork3 : State :=
  wPut (W 2) ([(devSupply, 4), (vlvCfg 5, 1 + 50 * 2 ^ 16), (vlvShape 5, 3000 + 200 * 2 ^ 16 + 800 * 2 ^ 32 + 900 * 2 ^ 48), (bnkCfg 1, 1 + 19200 * 256), (bnkStat 1, 1)] ++ [])

def wValveWork4 : State :=
  wUp (wPut (W 2) ([(devSupply, 4), (vlvCfg 5, 1 + 50 * 2 ^ 16), (vlvShape 5, 3000 + 200 * 2 ^ 16 + 800 * 2 ^ 32 + 900 * 2 ^ 48), (bnkCfg 1, 1 + 19200 * 256), (bnkStat 1, 1)] ++ [(bnkStat 1, 1 + 3 * 2 ^ 11)])) (fun b => b.setVch 5 { b.vch 5 with want := 0, out := 0 })

def wValveWork5 : State :=
  wUp (wPut (W 2) ([(devSupply, 4), (vlvCfg 5, 1 + 50 * 2 ^ 16), (vlvShape 5, 3000 + 200 * 2 ^ 16 + 800 * 2 ^ 32 + 900 * 2 ^ 48), (bnkCfg 1, 1 + 19200 * 256), (bnkStat 1, 1)] ++ [(vlvStat 5, 2 * 16)])) (fun b => b.setVch 5 { b.vch 5 with openOff := true })

def wValveWork6 : State :=
  wPut (W 2) ([(devSupply, 4), (vlvCfg 5, 1 + 50 * 2 ^ 16), (vlvShape 5, 3000 + 200 * 2 ^ 16 + 800 * 2 ^ 32 + 900 * 2 ^ 48), (bnkCfg 1, 1 + 19200 * 256), (bnkStat 1, 1)] ++ [(vlvStat 5, 3 * 16 + 128)])

def wValveWork7 : State :=
  wUp (wPut (W 2) ([(devSupply, 4), (vlvCfg 5, 1 + 50 * 2 ^ 16), (vlvShape 5, 3000 + 200 * 2 ^ 16 + 800 * 2 ^ 32 + 900 * 2 ^ 48), (bnkCfg 1, 1 + 19200 * 256), (bnkStat 1, 1)] ++ [(vlvStat 5, 8)])) (fun b => b.setVch 5 { b.vch 5 with want := 1 })

def wValveWork8 : State :=
  wPut (W 2) ([(devSupply, 4), (vlvCfg 5, 1 + 50 * 2 ^ 16), (vlvShape 5, 3000 + 200 * 2 ^ 16 + 800 * 2 ^ 32 + 900 * 2 ^ 48), (bnkCfg 1, 1 + 19200 * 256), (bnkStat 1, 1)] ++ [(vlvStat 5, 8)])

def wValveWork9 : State :=
  wUp (wPut (W 2) ([(devSupply, 4), (vlvCfg 5, 1 + 50 * 2 ^ 16), (vlvShape 5, 3000 + 200 * 2 ^ 16 + 800 * 2 ^ 32 + 900 * 2 ^ 48), (bnkCfg 1, 1 + 19200 * 256), (bnkStat 1, 1)] ++ [(bnkStat 1, 1 + 2 * 128)])) (fun b => b.setVch 5 { b.vch 5 with want := 1 })

def wValveWork10 : State :=
  wUp (wPut (W 2) ([(devSupply, 4), (vlvCfg 5, 1 + 50 * 2 ^ 16), (vlvShape 5, 3000 + 200 * 2 ^ 16 + 800 * 2 ^ 32 + 900 * 2 ^ 48), (bnkCfg 1, 1 + 19200 * 256), (bnkStat 1, 1)] ++ [])) (fun b => b.setVch 5 { b.vch 5 with want := 1, out := 1, resv := true, hold := true, openOn := true })

theorem test_meets_ValveWork :
    (∃ (s : State) (n : Nat) (kind : Nat) (ma : Nat) (m : ValveLook), s.sized = true ∧ n < 24 ∧ s.phase = .active ∧ s.bit (vlvCfg n) 0 = true ∧ s.bit (vlvStat n) 7 = false ∧ ma < 2 ^ 32 ∧ (((kind = 3 ∧ m.iU = ma ∧ 100 ≤ ma ∧ m.vLs < 1000 ∧ ((vOnTest s.toBlock n = true ∧ m.iCh ≤ 8000 ∧ m.full = false) ∨ (vOnTest s.toBlock n = false ∧ vOffTest s.toBlock n = true))) ∨ (kind = 4 ∧ m.iCh = ma ∧ ((vOnTest s.toBlock n = true ∧ 8000 < ma) ∨ (vOnTest s.toBlock n = false ∧ vOffTest s.toBlock n = true ∧ 1000 < m.vLs ∧ (m.vCom + 1000 < m.vLs ∨ m.vLs + 1000 < m.vCom))))))) ∧
    (∃ (s : State) (n : Nat) (m : ValveLook), s.sized = true ∧ n < 24 ∧ s.phase = .active ∧ s.bit (vlvCfg n) 0 = true ∧ s.bit (vlvStat n) 7 = false ∧ (s.vch n).openOn = false ∧ m.iCh ≤ 8000 ∧ m.iU < 100 ∧ (((∃ u, (s.vch n).piFrom = some u ∧ 2 * m.iCh < vPiI s.toBlock n) ∨ ((s.vch n).piFrom = none ∧ (s.vch n).hold = true ∧ m.full = true ∧ 10 * m.iCh < vTarget s.toBlock n ∧ s.fget (bnkCfg (n / 4)) 23 8 ≤ m.vCom ∧ s.bit (bnkStat (n / 4)) 11 = false)))) ∧
    (∃ (s : State) (n : Nat) (m : ValveLook), s.sized = true ∧ n < 24 ∧ s.phase = .active ∧ s.bit (vlvCfg n) 0 = true ∧ s.bit (vlvStat n) 7 = false ∧ (s.vch n).openOff = false ∧ (s.vch n).hold = false ∧ (s.vch n).piFrom = none ∧ vOffTest s.toBlock n = true ∧ m.vLs < 1000 ∧ m.iU < 100) ∧
    (∃ (s : State) (b : Nat) (kind : Nat) (i : Nat) (vCom : Nat) (vSrc : Nat) (rev : Bool), s.sized = true ∧ b < 6 ∧ s.phase = .active ∧ s.bit (bnkStat b) 0 = true ∧ s.fget (bnkStat b) 9 7 = 0 ∧ (((kind = 1 ∧ 16000 < i) ∨ (kind = 2 ∧ i ≤ 16000 ∧ s.fget (bnkStat b) 3 2 ≠ 0 ∧ 2 * vCom < vSrc) ∨ (kind = 3 ∧ i ≤ 16000 ∧ ((s.fget (bnkStat b) 3 2 = 0 ∧ 2000 < vCom) ∨ (vSrc ≤ 2 * vCom ∧ rev = true)))))) ∧
    (∃ (s : State) (b : Nat) (mv : Nat), b < 6 ∧ s.phase = .active ∧ s.bit (bnkStat b) 0 = true ∧ s.bit (bnkStat b) 11 = false ∧ mv < s.fget (bnkCfg b) 23 8) ∧
    (∃ (s : State) (b : Nat) (mv : Nat), s.sized = true ∧ b < 6 ∧ s.phase = .active ∧ s.bit (bnkStat b) 0 = true ∧ s.bit (bnkStat b) 12 = false ∧ mv < 4000) ∧
    (∃ (s : State) (b : Nat) (mv : Nat), s.sized = true ∧ b < 6 ∧ s.phase = .active ∧ ((s.bit (bnkStat b) 11 = true ∨ s.bit (bnkStat b) 12 = true)) ∧ s.fget (bnkCfg b) 23 8 + 500 < mv) ∧
    (∃ (s : State) (n : Nat), s.sized = true ∧ n < 24 ∧ (s.vch n).openOff = true ∧ (s.vch n).hold = false ∧ (s.vch n).piFrom = none) ∧
    (∃ (s : State) (i : Nat) (n : Nat) (present : Bool), s.sized = true ∧ n < 24 ∧ s.mayWrite i (vlvCmd n) ∧ vClearCheck n present s.counted = 0) ∧
    (∃ (s : State) (i : Nat) (n : Nat), s.sized = true ∧ n < 24 ∧ s.mayWrite i (vlvCmd n) ∧ vRetryCheck n s.counted = 0 ∧ (s.vch n).want ≠ 0 ∧ vBlocked s.toBlock n = false ∧ vPiT s.toBlock n ≠ 0) ∧
    (∃ (s : State) (i : Nat) (n : Nat), s.sized = true ∧ n < 24 ∧ s.mayWrite i (vlvCmd n) ∧ vRetryCheck n s.counted = 0 ∧ (((s.vch n).want = 0 ∨ vBlocked s.toBlock n = true))) ∧
    (∃ (s : State) (i : Nat) (b : Nat) (present : Bool), s.sized = true ∧ b < 6 ∧ s.mayWrite i (bnkCmd b) ∧ bnkClearCheck b present s.counted = 0) ∧
    (∃ (s : State) (n : Nat), s.sized = true ∧ n < 24 ∧ s.phase = .active ∧ s.bit (vlvCfg n) 0 = true ∧ vBankOff s.toBlock (n / 4) = false) :=
  ⟨⟨wValveWork0, 5, 3, 1234, ⟨999, 24000, 1234, 800, false⟩, (by decide +kernel), (by decide +kernel), (by decide +kernel), (by decide +kernel), (by decide +kernel), (by decide +kernel), (by decide +kernel)⟩,
   ⟨wValveWork1, 5, ⟨100, 24000, 0, 3, true⟩, (by decide +kernel), (by decide +kernel), (by decide +kernel), (by decide +kernel), (by decide +kernel), (by decide +kernel), (by decide +kernel), (by decide +kernel), (by decide +kernel)⟩,
   ⟨wValveWork2, 5, ⟨999, 24000, 99, 0, false⟩, (by decide +kernel), (by decide +kernel), (by decide +kernel), (by decide +kernel), (by decide +kernel), (by decide +kernel), (by decide +kernel), (by decide +kernel), (by decide +kernel), (by decide +kernel), (by decide +kernel)⟩,
   ⟨wValveWork0, 1, 1, 16001, 0, 24000, false, (by decide +kernel), (by decide +kernel), (by decide +kernel), (by decide +kernel), (by decide +kernel), (by decide +kernel)⟩,
   ⟨wValveWork3, 1, 19199, (by decide +kernel), (by decide +kernel), (by decide +kernel), (by decide +kernel), (by decide +kernel)⟩,
   ⟨wValveWork0, 1, 1000, (by decide +kernel), (by decide +kernel), (by decide +kernel), (by decide +kernel), (by decide +kernel), (by decide +kernel)⟩,
   ⟨wValveWork4, 1, 24000, (by decide +kernel), (by decide +kernel), (by decide +kernel), (by decide +kernel), (by decide +kernel)⟩,
   ⟨wValveWork5, 5, (by decide +kernel), (by decide +kernel), (by decide +kernel), (by decide +kernel), (by decide +kernel)⟩,
   ⟨wValveWork6, 0, 5, false, (by decide +kernel), (by decide +kernel), (by unfold Block.mayWrite; decide +kernel), (by decide +kernel)⟩,
   ⟨wValveWork7, 0, 5, (by decide +kernel), (by decide +kernel), (by unfold Block.mayWrite; decide +kernel), (by decide +kernel), (by decide +kernel), (by decide +kernel), (by decide +kernel)⟩,
   ⟨wValveWork8, 0, 5, (by decide +kernel), (by decide +kernel), (by unfold Block.mayWrite; decide +kernel), (by decide +kernel), (by decide +kernel)⟩,
   ⟨wValveWork9, 0, 1, false, (by decide +kernel), (by decide +kernel), (by unfold Block.mayWrite; decide +kernel), (by decide +kernel)⟩,
   ⟨wValveWork10, 5, (by decide +kernel), (by decide +kernel), (by decide +kernel), (by decide +kernel), (by decide +kernel)⟩⟩

def wDioFramesAndOutputs0 : State :=
  wUp (wUp (wPut (W 2) ([(dgCfg 1, 1 + 3 * 2 ^ 32 + 2 * 2 ^ 40), (dgStat 1, 1), (dioCfg 16, 1 + 8 + 2 ^ 11 + 50 * 2 ^ 16), (dioCfg 18, 2 + 3 * 16), (dioSp 18, 1), (dioCfg 24, 2 + 2 ^ 7)] ++ [])) (fun b => dioLoad 1 b)) (fun b => b.setDch 16 { b.dch 16 with filt := true, chg := some 999999 })

def wDioFramesAndOutputs1 : State :=
  wUp (wUp (wPut (W 2) ([(dgCfg 1, 1 + 3 * 2 ^ 32 + 2 * 2 ^ 40), (dgStat 1, 1), (dioCfg 16, 1 + 8 + 2 ^ 11 + 50 * 2 ^ 16), (dioCfg 18, 2 + 3 * 16), (dioSp 18, 1), (dioCfg 24, 2 + 2 ^ 7)] ++ [])) (fun b => dioLoad 1 b)) (fun b => b.setDch 16 { b.dch 16 with filt := false })

def wDioFramesAndOutputs2 : State :=
  wUp (wPut (W 2) ([(dgCfg 1, 1 + 3 * 2 ^ 32 + 2 * 2 ^ 40), (dgStat 1, 1), (dioCfg 16, 1 + 8 + 2 ^ 11 + 50 * 2 ^ 16), (dioCfg 18, 2 + 3 * 16), (dioSp 18, 1), (dioCfg 24, 2 + 2 ^ 7)] ++ [])) (fun b => dioLoad 1 b)

def wDioFramesAndOutputs3 : State :=
  wUp (wUp (wPut (W 2) ([(dgCfg 1, 1 + 3 * 2 ^ 32 + 2 * 2 ^ 40), (dgStat 1, 1), (dioCfg 16, 1 + 8 + 2 ^ 11 + 50 * 2 ^ 16), (dioCfg 18, 2 + 3 * 16), (dioSp 18, 1), (dioCfg 24, 2 + 2 ^ 7)] ++ [])) (fun b => dioLoad 1 b)) (fun b => b.setDch 16 { b.dch 16 with wb := true })

def wDioFramesAndOutputs4 : State :=
  wUp (wUp (wPut (W 2) ([(dgCfg 1, 1 + 3 * 2 ^ 32 + 2 * 2 ^ 40), (dgStat 1, 1), (dioCfg 16, 1 + 8 + 2 ^ 11 + 50 * 2 ^ 16), (dioCfg 18, 2 + 3 * 16), (dioSp 18, 1), (dioCfg 24, 2 + 2 ^ 7)] ++ [])) (fun b => dioLoad 1 b)) (fun b => b.setDch 18 { b.dch 18 with want := true })

def wDioFramesAndOutputs5 : State :=
  wUp (wUp (wPut (W 2) ([(dgCfg 1, 1 + 3 * 2 ^ 32 + 2 * 2 ^ 40), (dgStat 1, 1), (dioCfg 16, 1 + 8 + 2 ^ 11 + 50 * 2 ^ 16), (dioCfg 18, 2 + 3 * 16), (dioSp 18, 1), (dioCfg 24, 2 + 2 ^ 7)] ++ [])) (fun b => dioLoad 1 b)) (fun b => b.setDch 18 { b.dch 18 with want := true, ovl := true, retryAt := 1000000000777, ovlRun := 1 })

def wDioFramesAndOutputs6 : State :=
  wUp (wUp (wPut (W 2) ([(dgCfg 1, 1 + 3 * 2 ^ 32 + 2 * 2 ^ 40), (dgStat 1, 1), (dioCfg 16, 1 + 8 + 2 ^ 11 + 50 * 2 ^ 16), (dioCfg 18, 2 + 3 * 16), (dioSp 18, 1), (dioCfg 24, 2 + 2 ^ 7)] ++ [])) (fun b => dioLoad 1 b)) (fun b => b.setDch 18 { b.dch 18 with latched := true, ovlRun := 4 })

theorem test_meets_DioFramesAndOutputs :
    (∃ (s : State) (g : Nat), s.sized = true ∧ g < 6 ∧ s.phase = .active ∧ s.bit (dgStat g) 0 = true ∧ s.bit (dgCfg g) 0 = true) ∧
    (∃ (s : State) (n : Nat) (on : Bool), s.sized = true ∧ n < 96 ∧ dioPowered s.toBlock = true ∧ dioModeF s.toBlock n = 1 ∧ (s.dch n).filt ≠ on) ∧
    (∃ (s : State) (n : Nat), s.sized = true ∧ n < 96 ∧ dioPowered s.toBlock = true ∧ dioModeF s.toBlock n = 1 ∧ bitAt (s.dch n).cfgF 3 = true ∧ (s.dgrp (n / 16)).uv = false ∧ (s.dch n).wb = false) ∧
    (∃ (s : State) (n : Nat), s.sized = true ∧ n < 96 ∧ dioPowered s.toBlock = true ∧ (s.dgrp (n / 16)).uv = false ∧ (s.dch n).wb = true) ∧
    (∃ (s : State) (n : Nat), s.sized = true ∧ n < 96 ∧ dioPin s.toBlock n = true) ∧
    (∃ (s : State) (n : Nat), s.sized = true ∧ n < 96 ∧ dioPowered s.toBlock = true ∧ (s.dch n).ovl = true) ∧
    (∃ (s : State) (n : Nat) (on : Bool), s.sized = true ∧ n < 96 ∧ dioPowered s.toBlock = true ∧ dioCompared s.toBlock n = true ∧ (s.dch n).rb ≠ on ∧ ((on = false ∨ (s.dch n).want = false ∨ ((s.dch n).ovl = false ∧ (s.dch n).latched = false)))) ∧
    (∃ (s : State) (n : Nat) (on : Bool), s.sized = true ∧ n < 96 ∧ dioPowered s.toBlock = true ∧ dioModeF s.toBlock n = 2 ∧ 2 ≤ (dioSetF s.toBlock n).length ∧ (s.dch n).pm ≠ on) ∧
    (∃ (s : State) (i : Nat) (g : Nat), s.sized = true ∧ g < 6 ∧ s.mayWrite i (dgCmd g) ∧ s.bit (dgStat g) 0 = true) :=
  ⟨⟨wDioFramesAndOutputs0, 1, (by decide +kernel), (by decide +kernel), (by decide +kernel), (by decide +kernel), (by decide +kernel)⟩,
   ⟨wDioFramesAndOutputs1, 16, true, (by decide +kernel), (by decide +kernel), (by decide +kernel), (by decide +kernel), (by decide +kernel)⟩,
   ⟨wDioFramesAndOutputs2, 16, (by decide +kernel), (by decide +kernel), (by decide +kernel), (by decide +kernel), (by decide +kernel), (by decide +kernel), (by decide +kernel)⟩,
   ⟨wDioFramesAndOutputs3, 16, (by decide +kernel), (by decide +kernel), (by decide +kernel), (by decide +kernel), (by decide +kernel)⟩,
   ⟨wDioFramesAndOutputs4, 18, (by decide +kernel), (by decide +kernel), (by decide +kernel)⟩,
   ⟨wDioFramesAndOutputs5, 18, (by decide +kernel), (by decide +kernel), (by decide +kernel), (by decide +kernel)⟩,
   ⟨wDioFramesAndOutputs4, 18, true, (by decide +kernel), (by decide +kernel), (by decide +kernel), (by decide +kernel), (by decide +kernel), (by decide +kernel)⟩,
   ⟨wDioFramesAndOutputs2, 19, true, (by decide +kernel), (by decide +kernel), (by decide +kernel), (by decide +kernel), (by decide +kernel), (by decide +kernel)⟩,
   ⟨wDioFramesAndOutputs6, 0, 1, (by decide +kernel), (by decide +kernel), (by unfold Block.mayWrite; decide +kernel), (by decide +kernel)⟩⟩

def wDioField0 : State :=
  wUp (wUp (wPut (W 2) ([(dgCfg 1, 1 + 3 * 2 ^ 32 + 2 * 2 ^ 40), (dgStat 1, 1), (dioCfg 16, 1 + 8 + 2 ^ 11 + 50 * 2 ^ 16), (dioCfg 18, 2 + 3 * 16), (dioSp 18, 1), (dioCfg 24, 2 + 2 ^ 7)] ++ [])) (fun b => dioLoad 1 b)) (fun b => b.setDgrp 1 { b.dgrp 1 with lostFrames := 5, badRun := 3 })

def wDioField1 : State :=
  wUp (wUp (wPut (W 2) ([(dgCfg 1, 1 + 3 * 2 ^ 32 + 2 * 2 ^ 40), (dgStat 1, 1), (dioCfg 16, 1 + 8 + 2 ^ 11 + 50 * 2 ^ 16), (dioCfg 18, 2 + 3 * 16), (dioSp 18, 1), (dioCfg 24, 2 + 2 ^ 7)] ++ [(dgStat 1, 1 + 4)])) (fun b => dioLoad 1 b)) (fun b => b.setDgrp 1 { b.dgrp 1 with lostFrames := 5, retrainAt := 1000000000555 })

def wDioField2 : State :=
  wUp (wPut (W 5) ([(dgCfg 1, 1 + 3 * 2 ^ 32 + 2 * 2 ^ 40), (dgStat 1, 1), (dioCfg 16, 1 + 8 + 2 ^ 11 + 50 * 2 ^ 16), (dioCfg 18, 2 + 3 * 16), (dioSp 18, 1), (dioCfg 24, 2 + 2 ^ 7)] ++ [(modeState, 5 + 65536)])) (fun b => dioLoad 1 b)

def wDioField3 : State :=
  wUp (wUp (wPut (W 2) ([(dgCfg 1, 1 + 3 * 2 ^ 32 + 2 * 2 ^ 40), (dgStat 1, 1), (dioCfg 16, 1 + 8 + 2 ^ 11 + 50 * 2 ^ 16), (dioCfg 18, 2 + 3 * 16), (dioSp 18, 1), (dioCfg 24, 2 + 2 ^ 7)] ++ [(dgStat 1, 8)])) (fun b => dioLoad 1 b)) (fun b => b.setDgrp 1 { b.dgrp 1 with retrainAt := 1000000000555 })

theorem test_meets_DioField :
    (∃ (s : State) (g : Nat), s.sized = true ∧ g < 6 ∧ dioPowered s.toBlock = true ∧ bitAt (s.dgrp g).cfgF 0 = true) ∧
    (∃ (s : State) (g : Nat), s.sized = true ∧ g < 6 ∧ s.phase = .active ∧ s.bit (dgStat g) 0 = true ∧ s.fget (dgStat g) 3 2 = 0 ∧ 3 ≤ (s.dgrp g).badRun) ∧
    (∃ (s : State) (g : Nat), s.sized = true ∧ g < 6 ∧ s.phase = .active ∧ s.bit (dgStat g) 0 = true ∧ s.bit (dgStat g) 1 = false ∧ s.fget (dgStat g) 3 2 ≠ 0) ∧
    (∃ (s : State) (g : Nat), s.sized = true ∧ g < 6 ∧ dioPowered s.toBlock = true) ∧
    (∃ (s : State) (i : Nat) (g : Nat) (v : Nat), s.sized = true ∧ g < 6 ∧ s.mayWrite i (dgProbe g) ∧ probeCheck (.sess i) g v s.counted = 0) ∧
    (∃ (s : State) (g : Nat), s.sized = true ∧ g < 6 ∧ s.phase = .active ∧ s.bit (dgStat g) 0 = false ∧ s.bit (dgStat g) 1 = false ∧ s.fget (dgStat g) 3 2 ≠ 0) :=
  ⟨⟨wDioFramesAndOutputs4, 1, (by decide +kernel), (by decide +kernel), (by decide +kernel), (by decide +kernel)⟩,
   ⟨wDioField0, 1, (by decide +kernel), (by decide +kernel), (by decide +kernel), (by decide +kernel), (by decide +kernel), (by decide +kernel)⟩,
   ⟨wDioField1, 1, (by decide +kernel), (by decide +kernel), (by decide +kernel), (by decide +kernel), (by decide +kernel), (by decide +kernel)⟩,
   ⟨wDioFramesAndOutputs4, 1, (by decide +kernel), (by decide +kernel), (by decide +kernel)⟩,
   ⟨wDioField2, 0, 1, 2 ^ 31 + 5, (by decide +kernel), (by decide +kernel), (by unfold Block.mayWrite; decide +kernel), (by decide +kernel)⟩,
   ⟨wDioField3, 1, (by decide +kernel), (by decide +kernel), (by decide +kernel), (by decide +kernel), (by decide +kernel), (by decide +kernel)⟩⟩

def wEncoderInputs0 : State :=
  wUp (wPut (W 2) ([(clsCfg 0, 100), (encCfg 3, 1 + 2 * 4 + 5 * 2 ^ 16 + 1000 * 2 ^ 32 + 64), (encStat 3, 1), (encTiming 3, 100 * 2 ^ 16 + 250 * 2 ^ 32 + 3 * 2 ^ 64 + 2 * 2 ^ 80 + 10 * 2 ^ 88), (emuCfg 1, 1 + 3 * 16 + 50 * 256), (emuStat 1, 1), (emuRatio 1, 3 + 2 * 2 ^ 32), (emuLimit 1, 20)] ++ [])) (fun b => b.setEch 3 { b.ech 3 with count := 5, tL := some 4, dirNeg := true })

def wEncoderInputs1 : State :=
  wUp (wPut (W 2) ([(clsCfg 0, 100), (encCfg 3, 1 + 2 * 4 + 5 * 2 ^ 16 + 1000 * 2 ^ 32 + 64), (encStat 3, 1), (encTiming 3, 100 * 2 ^ 16 + 250 * 2 ^ 32 + 3 * 2 ^ 64 + 2 * 2 ^ 80 + 10 * 2 ^ 88), (emuCfg 1, 1 + 3 * 16 + 50 * 256), (emuStat 1, 1), (emuRatio 1, 3 + 2 * 2 ^ 32), (emuLimit 1, 20)] ++ [])) (fun b => b.setEch 3 { b.ech 3 with still := false, tL := some 999990000000, run := [(1,2)] })

theorem test_meets_EncoderInputs :
    (∃ (s : State) (e : Nat) (line : Nat), s.sized = true ∧ e < 8 ∧ line < 3 ∧ ((s.phase = .active ∨ s.phase = .park)) ∧ encOn s.toBlock e = true) ∧
    (∃ (s : State) (e : Nat) (u : Nat), s.sized = true ∧ e < 8 ∧ s.phase = .active ∧ encOn s.toBlock e = true ∧ (s.ech e).still = false ∧ (s.ech e).tL = some u) :=
  ⟨⟨wEncoderInputs0, 3, 0, (by decide +kernel), (by decide +kernel), (by decide +kernel), (by decide +kernel), (by decide +kernel)⟩,
   ⟨wEncoderInputs1, 3, 999990000000, (by decide +kernel), (by decide +kernel), (by decide +kernel), (by decide +kernel), (by decide +kernel), (by decide +kernel)⟩⟩

def wEncoderCommandsAndEmulation0 : State :=
  wUp (wPut (W 2) ([(clsCfg 0, 100), (encCfg 3, 1 + 2 * 4 + 5 * 2 ^ 16 + 1000 * 2 ^ 32 + 64), (encStat 3, 1), (encTiming 3, 100 * 2 ^ 16 + 250 * 2 ^ 32 + 3 * 2 ^ 64 + 2 * 2 ^ 80 + 10 * 2 ^ 88), (emuCfg 1, 1 + 3 * 16 + 50 * 256), (emuStat 1, 1), (emuRatio 1, 3 + 2 * 2 ^ 32), (emuLimit 1, 20)] ++ [(encStat 3, 1)])) (fun b => b.setEch 3 { b.ech 3 with count := 1251 })

def wEncoderCommandsAndEmulation1 : State :=
  wPut (W 2) ([(clsCfg 0, 100), (encCfg 3, 1 + 2 * 4 + 5 * 2 ^ 16 + 1000 * 2 ^ 32 + 64), (encStat 3, 1), (encTiming 3, 100 * 2 ^ 16 + 250 * 2 ^ 32 + 3 * 2 ^ 64 + 2 * 2 ^ 80 + 10 * 2 ^ 88), (emuCfg 1, 1 + 3 * 16 + 50 * 256), (emuStat 1, 1), (emuRatio 1, 3 + 2 * 2 ^ 32), (emuLimit 1, 20)] ++ [])

def wEncoderCommandsAndEmulation2 : State :=
  wPut (W 2) ([(clsCfg 0, 100), (encCfg 3, 1 + 2 * 4 + 5 * 2 ^ 16 + 1000 * 2 ^ 32 + 64), (encStat 3, 1), (encTiming 3, 100 * 2 ^ 16 + 250 * 2 ^ 32 + 3 * 2 ^ 64 + 2 * 2 ^ 80 + 10 * 2 ^ 88), (emuCfg 1, 1 + 3 * 16 + 50 * 256), (emuStat 1, 1), (emuRatio 1, 3 + 2 * 2 ^ 32), (emuLimit 1, 20)] ++ [(encStat 3, 1 + 4 + 3 * 8 + 512)])

def wEncoderCommandsAndEmulation3 : State :=
  wUp (wUp (wPut (W 2) ([(clsCfg 0, 100), (encCfg 3, 1 + 2 * 4 + 5 * 2 ^ 16 + 1000 * 2 ^ 32 + 64), (encStat 3, 1), (encTiming 3, 100 * 2 ^ 16 + 250 * 2 ^ 32 + 3 * 2 ^ 64 + 2 * 2 ^ 80 + 10 * 2 ^ 88), (emuCfg 1, 1 + 3 * 16 + 50 * 256), (emuStat 1, 1), (emuRatio 1, 3 + 2 * 2 ^ 32), (emuLimit 1, 20)] ++ [(emuStat 1, 5)])) (fun b => b.setEch 3 { b.ech 3 with count := 9 })) (fun b => b.setMch 1 { b.mch 1 with out := 7, org := 3, p0 := 2, edgeAt := 1000000000000 })

def wEncoderCommandsAndEmulation4 : State :=
  wUp (wUp (wPut (W 2) ([(clsCfg 0, 100), (encCfg 3, 1 + 2 * 4 + 5 * 2 ^ 16 + 1000 * 2 ^ 32 + 64), (encStat 3, 1), (encTiming 3, 100 * 2 ^ 16 + 250 * 2 ^ 32 + 3 * 2 ^ 64 + 2 * 2 ^ 80 + 10 * 2 ^ 88), (emuCfg 1, 1 + 3 * 16 + 50 * 256), (emuStat 1, 1), (emuRatio 1, 3 + 2 * 2 ^ 32), (emuLimit 1, 20)] ++ [])) (fun b => b.setEch 3 { b.ech 3 with count := 9 })) (fun b => b.setMch 1 { b.mch 1 with out := 7, org := 3, p0 := 2, edgeAt := 1000000000000 })

theorem test_meets_EncoderCommandsAndEmulation :
    (∃ (s : State) (e : Nat) (d : Int), s.sized = true ∧ e < 8 ∧ s.phase = .active ∧ encOn s.toBlock e = true ∧ s.bit (encCfg e) 6 = true ∧ encCpr s.toBlock e ≠ 0 ∧ encMode s.toBlock e ≤ 3 ∧ d = encDev (s.ech e).count (s.fget (encTiming e) 63 32) (encCpr s.toBlock e)) ∧
    (∃ (s : State) (e : Nat) (pair : Nat), e < 8 ∧ pair < 3 ∧ s.phase = .active ∧ encOn s.toBlock e = true ∧ s.bit (encCfg e) 1 = false) ∧
    (∃ (s : State) (i : Nat) (e : Nat), s.sized = true ∧ e < 8 ∧ s.mayWrite i (encPreset e) ∧ presetCheck e s.counted = 0) ∧
    (∃ (s : State) (i : Nat) (e : Nat) (present : Bool), s.sized = true ∧ e < 8 ∧ s.mayWrite i (encCmd e) ∧ encClearCheck e present s.counted = 0) ∧
    (∃ (s : State) (i : Nat) (o : Nat), s.sized = true ∧ o < 4 ∧ s.mayWrite i (emuCmd o) ∧ encReady (emuStat o) s.counted = 0) ∧
    (∃ (s : State) (i : Nat) (o : Nat) (v : Nat), s.sized = true ∧ o < 4 ∧ s.mayWrite i (emuRatio o) ∧ ratioCheck v s.counted = 0) ∧
    (∃ (s : State) (o : Nat), s.sized = true ∧ o < 4 ∧ emuOn s.toBlock o = true) ∧
    (∃ (s : State) (o : Nat), s.sized = true ∧ o < 4 ∧ emuOn s.toBlock o = true ∧ emuTarget (emuResume o s.toBlock) o ≠ (s.mch o).out) :=
  ⟨⟨wEncoderCommandsAndEmulation0, 3, encDev ((wEncoderCommandsAndEmulation0).ech (3)).count ((wEncoderCommandsAndEmulation0).fget (encTiming (3)) 63 32) (encCpr (wEncoderCommandsAndEmulation0).toBlock (3)), (by decide +kernel), (by decide +kernel), (by decide +kernel), (by decide +kernel), (by decide +kernel), (by decide +kernel), (by decide +kernel), (by decide +kernel)⟩,
   ⟨wEncoderCommandsAndEmulation1, 3, 2, (by decide +kernel), (by decide +kernel), (by decide +kernel), (by decide +kernel), (by decide +kernel)⟩,
   ⟨wEncoderCommandsAndEmulation1, 0, 3, (by decide +kernel), (by decide +kernel), (by unfold Block.mayWrite; decide +kernel), (by decide +kernel)⟩,
   ⟨wEncoderCommandsAndEmulation2, 0, 3, false, (by decide +kernel), (by decide +kernel), (by unfold Block.mayWrite; decide +kernel), (by decide +kernel)⟩,
   ⟨wEncoderCommandsAndEmulation3, 0, 1, (by decide +kernel), (by decide +kernel), (by unfold Block.mayWrite; decide +kernel), (by decide +kernel)⟩,
   ⟨wEncoderCommandsAndEmulation4, 0, 1, 7 + 5 * 2 ^ 32, (by decide +kernel), (by decide +kernel), (by unfold Block.mayWrite; decide +kernel), (by decide +kernel)⟩,
   ⟨wEncoderCommandsAndEmulation4, 1, (by decide +kernel), (by decide +kernel), (by decide +kernel)⟩,
   ⟨wEncoderCommandsAndEmulation4, 1, (by decide +kernel), (by decide +kernel), (by decide +kernel), (by decide +kernel)⟩⟩

def wThermalSamples0 : State :=
  wPut (W 2) ([(tzCfg 5, 12000 + 13000 * 2 ^ 16 + 14000 * 2 ^ 32 + 50 * 2 ^ 48)] ++ [])

def wThermalSamples1 : State :=
  { (wThermalSamples0) with toBlock := (wThermalSamples0).toBlock.put (thValue (8)) (pack [((wThermalSamples0).clk.tb % 2 ^ 64, 0), (satS 16 (12500), 64)]) }

def wThermalSamples2 : State :=
  { (wThermalSamples0) with toBlock := (wThermalSamples0).toBlock.fput (thStat (8)) 1 0 1 }

def wThermalSamples3 : State :=
  wPut (W 2) ([(tzCfg 5, 12000 + 13000 * 2 ^ 16 + 14000 * 2 ^ 32 + 50 * 2 ^ 48)] ++ [(thStat 8, 1 + 8)])

theorem test_meets_ThermalSamples :
    (∃ (s : State) (m : State) (k : Nat) (z : Nat) (x : Int) (τ : Int) (t' : Int), s.sized = true ∧ k < 27 ∧ thRuns s.toBlock = true ∧ thState s.toBlock k = 0 ∧ thConvert s.toBlock k x = some t' ∧ z = thZoneOf k ∧ m = { s with toBlock := s.toBlock.put (thValue k) (pack [(s.clk.tb % 2 ^ 64, 0), (satS 16 t', 64)]) } ∧ thTemp m.toBlock z = some τ ∧ thSomeBroken m.toBlock z = false ∧ s.zoneDown z = false) ∧
    (∃ (s : State) (m : State) (k : Nat) (cause : Nat) (z : Nat), s.sized = true ∧ k < 27 ∧ 1 ≤ cause ∧ cause ≤ 4 ∧ thRuns s.toBlock = true ∧ thState s.toBlock k = 0 ∧ z = thZoneOf k ∧ m = { s with toBlock := s.toBlock.fput (thStat k) 1 0 1 } ∧ s.zoneDown z = false) ∧
    (∃ (s : State) (k : Nat) (x : Int) (t' : Int), s.sized = true ∧ k < 27 ∧ thRuns s.toBlock = true ∧ thState s.toBlock k = 1 ∧ thConvert s.toBlock k x = some t') :=
  ⟨⟨wThermalSamples0, wThermalSamples1, 8, 5, 12500, (thTemp (wThermalSamples1).toBlock (5)).getD 0, 12500, (by decide +kernel), (by decide +kernel), (by decide +kernel), (by decide +kernel), (by decide +kernel), (by decide +kernel), (by decide +kernel), (by decide +kernel), (by decide +kernel), (by decide +kernel)⟩,
   ⟨wThermalSamples0, wThermalSamples2, 8, 2, 5, (by decide +kernel), (by decide +kernel), (by decide +kernel), (by decide +kernel), (by decide +kernel), (by decide +kernel), (by decide +kernel), (by decide +kernel), (by decide +kernel)⟩,
   ⟨wThermalSamples3, 8, 5000, 5000, (by decide +kernel), (by decide +kernel), (by decide +kernel), (by decide +kernel), (by decide +kernel)⟩⟩

def wThermalSteps0 : State :=
  wUp (wPut (W 2) ([(tzCfg 5, 12000 + 13000 * 2 ^ 16 + 14000 * 2 ^ 32 + 50 * 2 ^ 48)] ++ [(tzStat 5, 1 * 8 + 2)])) (fun b => b.setZch 5 { b.zch 5 with hotAt := some 1000000000000 })

def wThermalSteps1 : State :=
  wUp (wPut (W 2) ([(tzCfg 5, 12000 + 13000 * 2 ^ 16 + 14000 * 2 ^ 32 + 50 * 2 ^ 48)] ++ [(tzStat 5, 1 * 8 + 2)])) (fun b => b.setZch 5 { b.zch 5 with coolAt := some 1000000000000 })

def wThermalSteps2 : State :=
  wUp (wPut (W 2) ([(tzCfg 5, 12000 + 13000 * 2 ^ 16 + 14000 * 2 ^ 32 + 50 * 2 ^ 48)] ++ [(tzStat 5, 3)])) (fun b => b.setZch 5 { b.zch 5 with clearAt := some 1000000000000 })

def wThermalSteps3 : State :=
  wUp (wPut (W 2) ([(tzCfg 5, 12000 + 13000 * 2 ^ 16 + 14000 * 2 ^ 32 + 50 * 2 ^ 48)] ++ [(tzStat 5, 4), (thValue 8, 2000 * 2 ^ 64)])) (fun b => { b with mram := { b.mram with sdLatched := [5] } })

theorem test_meets_ThermalSteps :
    (∃ (s : State) (z : Nat) (u : Nat), s.sized = true ∧ z < 23 ∧ (s.zch z).hotAt = some u ∧ thRuns s.toBlock = true ∧ s.zoneDown z = false ∧ s.zoneStep z < thDeepest z) ∧
    (∃ (s : State) (z : Nat) (u : Nat), s.sized = true ∧ z < 23 ∧ (s.zch z).coolAt = some u ∧ thRuns s.toBlock = true ∧ s.zoneDown z = false ∧ s.zoneStep z ≠ 0 ∧ thSomeBroken s.toBlock z = false) ∧
    (∃ (s : State) (z : Nat) (u : Nat), s.sized = true ∧ z < 23 ∧ (s.zch z).clearAt = some u ∧ thRuns s.toBlock = true ∧ s.fget (tzStat z) 2 0 = 3 ∧ thAllBroken s.toBlock z = false) ∧
    (∃ (s : State) (i : Nat) (z : Nat), s.sized = true ∧ z < 23 ∧ s.mayWrite i (tzCmd z) ∧ tzClearCheck z s.counted = 0) :=
  ⟨⟨wThermalSteps0, 5, 1000000000000, (by decide +kernel), (by decide +kernel), (by decide +kernel), (by decide +kernel), (by decide +kernel), (by decide +kernel)⟩,
   ⟨wThermalSteps1, 5, 1000000000000, (by decide +kernel), (by decide +kernel), (by decide +kernel), (by decide +kernel), (by decide +kernel), (by decide +kernel), (by decide +kernel)⟩,
   ⟨wThermalSteps2, 5, 1000000000000, (by decide +kernel), (by decide +kernel), (by decide +kernel), (by decide +kernel), (by decide +kernel), (by decide +kernel)⟩,
   ⟨wThermalSteps3, 0, 5, (by decide +kernel), (by decide +kernel), (by unfold Block.mayWrite; decide +kernel), (by decide +kernel)⟩⟩

def wSectionArbitration0 : Block :=
  (fun b : Block => { b with floe := { b.floe with lastN := some 990 } }) (wBlock 3 2)

theorem test_meets_SectionArbitration :
    (∃ (l : List Sect) (c : Sect), sectPick l = some c) ∧
    (∃ l : List Sect, sectPick l = none) ∧
    (∃ (c : Sect), c.claim < 2 ^ 32 ∧ c.src < 4096) ∧
    (∃ (s : Block) (n : Nat), s.floe.lastN = some n) :=
  ⟨⟨[⟨5,9,1,77,2,[]⟩, ⟨5,7,1,77,2,[]⟩, ⟨5,3,1,76,2,[]⟩], _, rfl⟩,
   ⟨[], rfl⟩,
   ⟨⟨5, 9, 1000, 514, 2, [(oidOf (dioSp 7), 1)]⟩, (by decide +kernel), (by decide +kernel)⟩,
   ⟨wSectionArbitration0, 990, (by decide +kernel)⟩⟩

def wRingCycle0 : State :=
  wUp (H 2) (fun b => { b with late := [⟨modeHoldFan, .num 1, 4, 7⟩] })

def wRingCycle1 : State :=
  wUp (H 2) (fun b => { b with floe := { b.floe with heard := [(7, 0, 1), (8, 1, 2)] } })

theorem test_meets_RingCycle :
    (∃ (s : State) (n : Nat) (tc : Nat) (T : Nat), ringNode s.toBlock = true ∧ s.paired = false ∧ s.floe.cycle = some n ∧ tc = max 1 s.tCyc ∧ s.get floeCfg = s.floe.cfg ∧ T = max ((n + 1) * tc) (ceilMultiple tc s.clk.tb)) ∧
    (∃ (s : State) (n : Nat) (tc : Nat) (T : Nat) (v : Nat) (e : Nat) (due : Nat) (k : Nat) (a : Attr), ringNode s.toBlock = true ∧ s.loneHead = true ∧ s.floe.cycle = some n ∧ tc = max 1 s.tCyc ∧ s.get floeCfg = s.floe.cfg ∧ T = max ((n + 1) * tc) (ceilMultiple tc s.clk.tb) ∧ a ∈ [modeAutoResume, modeHoldFan, swPoints k] ∧ s.late = [⟨a, .num v, e, due⟩]) ∧
    (∃ (s : State) (n : Nat), ringNode s.toBlock = true ∧ s.floe.cycle = some n ∧ s.floe.launched = false) ∧
    (∃ (s : State) (n : Nat), ringNode s.toBlock = true ∧ s.floe.cycle = some n ∧ s.floe.gath = false ∧ (nodesHeard s.toBlock).length < 4096) ∧
    (∃ (s : State) (n : Nat), ringNode s.toBlock = true ∧ s.floe.cycle = some n ∧ s.floe.cmdd = false ∧ s.paired = false) :=
  ⟨⟨H 2, 999, max 1 (H 2).tCyc, max (((999) + 1) * (max 1 (H 2).tCyc)) (ceilMultiple (max 1 (H 2).tCyc) (H 2).clk.tb), (by decide +kernel), (by decide +kernel), (by decide +kernel), (by decide +kernel), (by decide +kernel), (by decide +kernel)⟩,
   ⟨wRingCycle0, 999, max 1 (wRingCycle0).tCyc, max (((999) + 1) * (max 1 (wRingCycle0).tCyc)) (ceilMultiple (max 1 (wRingCycle0).tCyc) (wRingCycle0).clk.tb), 1, 4, 7, 4, modeHoldFan, (by decide +kernel), (by decide +kernel), (by decide +kernel), (by decide +kernel), (by decide +kernel), (by decide +kernel), (by decide +kernel), (by decide +kernel)⟩,
   ⟨H 2, 999, (by decide +kernel), (by decide +kernel), (by decide +kernel)⟩,
   ⟨wRingCycle1, 999, (by decide +kernel), (by decide +kernel), (by decide +kernel), (by decide +kernel)⟩,
   ⟨H 2, 999, (by decide +kernel), (by decide +kernel), (by decide +kernel), (by decide +kernel)⟩⟩

def wFloePorts0 : State :=
  wUp (wPut (H 2) [(floePort 0, 5 + 100 * 256), (floePort 1, 5)]) (fun b => { b with floe := { b.floe with delays := [[100, 101], [], []] } })

theorem test_meets_FloePorts :
    (∃ (s : State) (p : Nat), p < 3 ∧ s.phase = .active ∧ portUp s.toBlock p = true) ∧
    (∃ (s : State) (p : Nat), p < 3 ∧ s.phase = .active ∧ portUp s.toBlock p = false ∧ s.bit (floePort p) 0 = true ∧ ((p = 2 → s.role = 2))) ∧
    (∃ (s : State) (p : Nat) (ns : Nat) (l : List Nat), p < 3 ∧ s.phase = .active ∧ portUp s.toBlock p = true ∧ l = (ns :: getL s.floe.delays p []).take 16) :=
  ⟨⟨wPut (H 2) [(floePort 0, 5 + 100 * 256), (floePort 1, 5)], 1, (by decide +kernel), (by decide +kernel), (by decide +kernel)⟩,
   ⟨wPut (H 2) [(floePort 1, 1)], 1, (by decide +kernel), (by decide +kernel), (by decide +kernel), (by decide +kernel), (by decide +kernel)⟩,
   ⟨wFloePorts0, 0, 107, ((107) :: getL (wFloePorts0).floe.delays (0) []).take 16, (by decide +kernel), (by decide +kernel), (by decide +kernel), (by decide +kernel)⟩⟩

def wRingFrames0 : State :=
  wUp (H 2) (fun b => { b with img := { b.img with role := 3 } })

def wRingFrames1 : State :=
  wUp (wPut (H 2) [(floePort 0, 5 + 100 * 256), (floePort 1, 5)]) (fun b => { b with floe := { b.floe with bulk := [⟨7, 3, 999999999000, [1,2]⟩] } })

theorem test_meets_RingFrames :
    (∃ (s : State) (n : Nat) (port : Nat) (h : FloeHdr) (e : SnapEnt), ringNode s.toBlock = true ∧ s.paired = false ∧ s.role = 2 ∧ s.floe.cycle = some n ∧ port < 3 ∧ seenKey h ∉ s.floe.seen ∧ s.floe.gath = false ∧ h.cycle % 2 ^ 32 = cyc32 n ∧ e.echo = false) ∧
    (∃ (s : State) (n : Nat) (port : Nat) (h : FloeHdr), ringNode s.toBlock = true ∧ s.paired = false ∧ s.role = 2 ∧ s.floe.cycle = some n ∧ port < 3 ∧ seenKey h ∉ s.floe.seen ∧ ((s.floe.gath = true ∨ cycBack n h.cycle ≠ n))) ∧
    (∃ (s : State) (n : Nat) (port : Nat) (h : FloeHdr), ringNode s.toBlock = true ∧ s.paired = false ∧ s.floe.cycle = some n ∧ port < 3 ∧ ((s.role = 3 ∨ seenKey h ∈ s.floe.seen))) ∧
    (∃ (s : State) (n : Nat) (c : Sect), ringNode s.toBlock = true ∧ s.paired = false ∧ s.floe.cycle = some n ∧ c.dst = s.img.node) ∧
    (∃ (s : State) (port : Nat) (h : FloeHdr), s.phase = .active ∧ s.paired = false ∧ port < 2 ∧ portUp s.toBlock port = true ∧ portUp s.toBlock (1 - port) = true ∧ h.src ≠ s.img.node ∧ h.dst ≠ s.img.node ∧ h.hops < 4094) ∧
    (∃ (s : State) (port : Nat), s.phase = .active ∧ port < 3 ∧ portUp s.toBlock port = true) ∧
    (∃ (s : State) (port : Nat) (h : FloeHdr), s.phase = .active ∧ s.paired = false ∧ port < 3 ∧ portUp s.toBlock port = true ∧ s.img.node ≠ 0 ∧ h.src = s.img.node ∧ h.inst = s.floe.tag) ∧
    (∃ (s : State) (h : FloeHdr) (recs : List EvRec), ringNode s.toBlock = true ∧ s.role = 2 ∧ seenKey h ∉ s.floe.seen ∧ h.src ≠ s.img.node ∧ recs.length ≤ 80) ∧
    (∃ (s : State) (dst : Nat) (seq : Nat) (b : BulkOut), ringNode s.toBlock = true ∧ s.floe.bulk.find? (fun b => b.dst == dst && b.seq == seq) = some b) :=
  ⟨⟨wPut (H 2) [(floePort 0, 5 + 100 * 256), (floePort 1, 5)], 999, 0, ⟨0, 0, 7, 0, 2, 9, 999, 4⟩, ⟨false, 0x05000320, 0, 0, 7000, 12⟩, (by decide +kernel), (by decide +kernel), (by decide +kernel), (by decide +kernel), (by decide +kernel), (by decide +kernel), (by decide +kernel), (by decide +kernel), (by decide +kernel)⟩,
   ⟨wPut (H 2) [(floePort 0, 5 + 100 * 256), (floePort 1, 5)], 999, 0, ⟨0, 0, 7, 0, 2, 9, 998, 4⟩, (by decide +kernel), (by decide +kernel), (by decide +kernel), (by decide +kernel), (by decide +kernel), (by decide +kernel), (by decide +kernel)⟩,
   ⟨wRingFrames0, 999, 0, ⟨0, 0, 7, 0, 2, 9, 999, 4⟩, (by decide +kernel), (by decide +kernel), (by decide +kernel), (by decide +kernel), (by decide +kernel)⟩,
   ⟨wRingFrames0, 999, ⟨5, 9, 999, 514, 2, []⟩, (by decide +kernel), (by decide +kernel), (by decide +kernel), (by decide +kernel)⟩,
   ⟨wPut (H 2) [(floePort 0, 5 + 100 * 256), (floePort 1, 5)], 0, ⟨0, 0, 7, 8, 2, 9, 999, 4⟩, (by decide +kernel), (by decide +kernel), (by decide +kernel), (by decide +kernel), (by decide +kernel), (by decide +kernel), (by decide +kernel), (by decide +kernel)⟩,
   ⟨wPut (H 2) [(floePort 0, 5 + 100 * 256), (floePort 1, 5)], 0, (by decide +kernel), (by decide +kernel), (by decide +kernel)⟩,
   ⟨wPut (H 2) [(floePort 0, 5 + 100 * 256), (floePort 1, 5)], 0, ⟨1, 0, 5, 8, 2, 0, 999, 4⟩, (by decide +kernel), (by decide +kernel), (by decide +kernel), (by decide +kernel), (by decide +kernel), (by decide +kernel), (by decide +kernel)⟩,
   ⟨wPut (H 2) [(floePort 0, 5 + 100 * 256), (floePort 1, 5)], ⟨4, 0, 7, 0, 2, 9, 999, 4⟩, [⟨1,7,3,1,false,0x43,5,6⟩], (by decide +kernel), (by decide +kernel), (by decide +kernel), (by decide +kernel), (by decide +kernel)⟩,
   ⟨wRingFrames1, 7, 3, ⟨7, 3, 999999999000, [1,2]⟩, (by decide +kernel), (by decide +kernel)⟩⟩

def wPairRoles0 : State :=
  wPut (H 2) ([(pairCfg, 5 + 6 * 2 ^ 16 + 3 * 2 ^ 32), (pairStat, 2), (pairEpoch, 4)] ++ [])

def wPairRoles1 : State :=
  wUp (wPut (H 2) ([(pairCfg, 5 + 6 * 2 ^ 16 + 3 * 2 ^ 32), (pairStat, 1), (pairEpoch, 4)] ++ [(pairEpoch, 4)])) (fun b => { b with pair := { b.pair with from' := 990, pclaim := 2000 } })

def wPairRoles2 : State :=
  wUp (wPut (H 2) ([(pairCfg, 5 + 6 * 2 ^ 16 + 3 * 2 ^ 32), (pairStat, 4), (pairEpoch, 4)] ++ [(pairEpoch, 4)])) (fun b => { b with pair := { b.pair with heardAt := some 990, pclaim := 2000 } })

theorem test_meets_PairRoles :
    (∃ (s : State) (claim : Nat), ringNode s.toBlock = true ∧ s.paired = true ∧ claim < 2 ^ 32) ∧
    (∃ (s : State) (m : Nat) (e : Nat), ringNode s.toBlock = true ∧ s.paired = true ∧ s.pairState = 1 ∧ m = nextCycle s.toBlock ∧ s.pair.from' + pairPromo s.toBlock ≤ m ∧ e = max (s.get pairEpoch) (s.pair.pclaim / 256) + 1) ∧
    (∃ (s : State) (m : Nat) (e : Nat), ringNode s.toBlock = true ∧ s.standby = true ∧ m = nextCycle s.toBlock ∧ pairSilent s.toBlock m = true ∧ e = max (s.get pairEpoch) (s.pair.pclaim / 256) + 1) :=
  ⟨⟨wPairRoles0, 1025, (by decide +kernel), (by decide +kernel), (by decide +kernel)⟩,
   ⟨wPairRoles1, nextCycle (wPairRoles1).toBlock, max ((wPairRoles1).get pairEpoch) ((wPairRoles1).pair.pclaim / 256) + 1, (by decide +kernel), (by decide +kernel), (by decide +kernel), (by decide +kernel), (by decide +kernel), (by decide +kernel)⟩,
   ⟨wPairRoles2, nextCycle (wPairRoles2).toBlock, max ((wPairRoles2).get pairEpoch) ((wPairRoles2).pair.pclaim / 256) + 1, (by decide +kernel), (by decide +kernel), (by decide +kernel), (by decide +kernel), (by decide +kernel)⟩⟩

def wStateCopy0 : State :=
  wPut (H 2) ([(pairCfg, 5 + 6 * 2 ^ 16 + 3 * 2 ^ 32), (pairStat, 4), (pairEpoch, 4)] ++ [])

def wStateCopy1 : State :=
  wUp (wPut (H 2) ([(pairCfg, 5 + 6 * 2 ^ 16 + 3 * 2 ^ 32), (pairStat, 3), (pairEpoch, 4)] ++ [])) (fun b => { b with pair := { b.pair with deltas := [⟨998, 2, [⟨2, 5, [], [], []⟩], [(1000, [(hostWd, .num 5)], 7, 9)], [(1000, 3, 2)], some (1000, [], 2, ⟨0,[]⟩), some (1001, 5)⟩] } })

def wStateCopy2 : State :=
  wUp (wPut (H 2) ([(pairCfg, 5 + 6 * 2 ^ 16 + 3 * 2 ^ 32), (pairStat, 2), (pairEpoch, 4)] ++ [])) (fun b => { b with pair := { b.pair with reqs := [⟨998, 1000, [(hostWd, .num 5)], 0, 7, 1, 9, false, false⟩] } })

def wStateCopy3 : State :=
  wUp (wPut (H 2) ([(pairCfg, 5 + 6 * 2 ^ 16 + 3 * 2 ^ 32), (pairStat, 2), (pairEpoch, 4)] ++ [])) (fun b => { b with pair := { b.pair with reqs := [⟨998, 1000, [(hostWd, .num 5)], 0, 7, 1, 9, false, false⟩], partner := 4 } })

theorem test_meets_StateCopy :
    (∃ (s : State) (c : Nat) (e : Nat) (m : Nat) (cause : Nat) (session : Nat) (reqId : Nat) (hs : Nat) (dur : Nat) (u : PairUnit) (its : List (Attr × AVal)) (o : Overlay) (x : Instr) (f : Delta → Delta) (old : Delta), (x, f) ∈ [(Instr.stateUnit c u, fun d => { d with units := d.units ++ [u] }), (.stateWrite c e its session reqId, fun d => { d with reqs := d.reqs ++ [(e, its, session, reqId)] }), (.stateMode c e m cause, fun d => { d with modes := d.modes ++ [(e, m, cause)] }), (.stateValues c e its m o, fun d => { d with values := some (e, its, m, o) }), (.stateHandover c hs dur, fun d => { d with hand := some (hs, dur) })] ∧ ringNode s.toBlock = true ∧ s.standby = true ∧ old = (s.pair.deltas.find? (fun d => d.cycle == c)).getD (deltaNew c)) ∧
    (∃ (s : State) (c : Nat) (d : Delta), ringNode s.toBlock = true ∧ s.standby = true ∧ d = (s.pair.deltas.find? (fun d => d.cycle == c)).getD (deltaNew c) ∧ ((∀ x ∈ s.pair.deltas, c ≤ x.cycle))) ∧
    (∃ (s : State), ringNode s.toBlock = true ∧ s.paired = true) ∧
    (∃ (s : State) (q : PairReq), ringNode s.toBlock = true ∧ s.pairState = 2 ∧ s.pair.reqs.find? (fun r => !r.done) = some q) :=
  ⟨⟨wStateCopy0, 998, 1000, 3, 2, 7, 9, 1001, 5, ⟨2, 5, [], [], []⟩, [(hostWd, .num 5)], ⟨1, []⟩, .stateUnit (998) (⟨2, 5, [], [], []⟩), fun d => { d with units := d.units ++ [(⟨2, 5, [], [], []⟩)] }, ((wStateCopy0).pair.deltas.find? (fun d => d.cycle == (998))).getD (deltaNew (998)), (by simp), (by decide +kernel), (by decide +kernel), (by decide +kernel)⟩,
   ⟨wStateCopy1, 998, ⟨998, 2, [⟨2, 5, [], [], []⟩], [(1000, [(hostWd, .num 5)], 7, 9)], [(1000, 3, 2)], some (1000, [], 2, ⟨0,[]⟩), some (1001, 5)⟩, (by decide +kernel), (by decide +kernel), (by decide +kernel), (by decide +kernel)⟩,
   ⟨wStateCopy2, (by decide +kernel), (by decide +kernel)⟩,
   ⟨wStateCopy3, ⟨998, 1000, [(hostWd, .num 5)], 0, 7, 1, 9, false, false⟩, (by decide +kernel), (by decide +kernel), (by decide +kernel)⟩⟩

def wDrillCommands0 : State :=
  wUp (wPut (H 2) ([(pairCfg, 5 + 6 * 2 ^ 16 + 3 * 2 ^ 32), (pairStat, 2), (pairEpoch, 4)] ++ [])) (fun b => { b with pair := { b.pair with partner := 4 } })

def wDrillCommands1 : State :=
  wUp (wPut (H 2) ([(pairCfg, 5 + 6 * 2 ^ 16 + 3 * 2 ^ 32), (pairStat, 2 + 32), (pairEpoch, 4)] ++ [])) (fun b => { b with pair := { b.pair with partner := 4 } })

def wDrillCommands2 : State :=
  wPut (H 5) ([(pairCfg, 5 + 6 * 2 ^ 16 + 3 * 2 ^ 32), (pairStat, 2), (pairEpoch, 4)] ++ [(devSupply, 32)])

def wDrillCommands3 : State :=
  wUp (wPut (H 2) ([(pairCfg, 5 + 6 * 2 ^ 16 + 3 * 2 ^ 32), (pairStat, 2 + 32), (pairEpoch, 4)] ++ [])) (fun b => { b with pair := { b.pair with drillTo := some 1000000000000, drillDur := 30, drilled := true } })

theorem test_meets_DrillCommands :
    (∃ (s : State) (i : Nat) (dur : Nat), s.mayWrite i pairCmd ∧ pairCmdCheck 1 dur s.counted = 0) ∧
    (∃ (s : State) (i : Nat), s.mayWrite i pairCmd ∧ pairCmdCheck 2 0 s.counted = 0) ∧
    (∃ (s : State) (i : Nat), s.mayWrite i pairCmd ∧ pairCmdCheck 3 0 s.counted = 0) ∧
    (∃ (s : State) (e : Nat), ringNode s.toBlock = true ∧ s.pair.drillTo = some e ∧ s.pair.drilled = true ∧ s.pairState = 2 ∧ s.pair.hand = none) :=
  ⟨⟨wDrillCommands0, 0, 30, (by unfold Block.mayWrite; decide +kernel), (by decide +kernel)⟩,
   ⟨wDrillCommands1, 0, (by unfold Block.mayWrite; decide +kernel), (by decide +kernel)⟩,
   ⟨wDrillCommands2, 0, (by unfold Block.mayWrite; decide +kernel), (by decide +kernel)⟩,
   ⟨wDrillCommands3, 1000000000000, (by decide +kernel), (by decide +kernel), (by decide +kernel), (by decide +kernel), (by decide +kernel)⟩⟩

def wDrillRefusedAtTopEpoch0 : State :=
  wUp (wPut (H 2) ([(pairCfg, 5 + 6 * 2 ^ 16 + 3 * 2 ^ 32), (pairStat, 2), (pairEpoch, 4)] ++ [(pairEpoch, 0xFFFFF0)])) (fun b => { b with pair := { b.pair with partner := 4 } })

theorem test_meets_DrillRefusedAtTopEpoch :
    (∃ (s : State) (i : Nat), s.mayWrite i pairCmd ∧ 0xFFFFF0 ≤ s.get pairEpoch) :=
  ⟨wDrillRefusedAtTopEpoch0, 0, (by unfold Block.mayWrite; decide +kernel), (by decide +kernel)⟩

def wPairScopeCommandWaits0 : State :=
  wUp (wPut (wPut (H 2) ([(pairCfg, 5 + 6 * 2 ^ 16 + 3 * 2 ^ 32), (pairStat, 2), (pairEpoch, 4)] ++ [])) [(lnCfg 3, 1 + 20 * 2 ^ 8 + 2 * 2 ^ 20), (lnStat 3, 1), (lnObs 3, 2 ^ 63), (lpStat 9, 2 ^ 15), (modeState, 2), (coreStat 0, 1), (clsCfg 0, 1000), (clsCfg 1, 1000), (clsCfg 2, 1000 + 80 * 2 ^ 32), (clsCfg 3, 1000)]) (fun b => (((((b.putTab (cropSet 2) ⟨0, 0, 1, 1, [0]⟩).setNch 3 { b.nch 3 with step := 2, latch := [1] }).putTab (lpBankB 9) ⟨1, 4, 1, 6, [1073741824, 0, 0, 0, 0, 0]⟩).setCls 2 { b.cls 2 with shed := [.loop 7] })))

def wPairScopeCommandWaits1 : State :=
  wPut (wUp (wPut (wPut (H 2) ([(pairCfg, 5 + 6 * 2 ^ 16 + 3 * 2 ^ 32), (pairStat, 2), (pairEpoch, 4)] ++ [])) [(lnCfg 3, 1 + 20 * 2 ^ 8 + 2 * 2 ^ 20), (lnStat 3, 1), (lnObs 3, 2 ^ 63), (lpStat 9, 2 ^ 15), (modeState, 2), (coreStat 0, 1), (clsCfg 0, 1000), (clsCfg 1, 1000), (clsCfg 2, 1000 + 80 * 2 ^ 32), (clsCfg 3, 1000)]) (fun b => (((((b.putTab (cropSet 2) ⟨0, 0, 1, 1, [0]⟩).setNch 3 { b.nch 3 with step := 2, latch := [1] }).putTab (lpBankB 9) ⟨1, 4, 1, 6, [1073741824, 0, 0, 0, 0, 0]⟩).setCls 2 { b.cls 2 with shed := [.loop 7] })))) [(pairCfg, 0), (pairStat, 0)]

theorem test_meets_PairScopeCommandWaits :
    (∃ (s : State) (i : Nat) (l : Nat) (k : Nat) (n : Nat) (pos : Nat) (m : Nat) (oid : Nat) (b : Bool) (tb : Table) (c : Instr) (a : Attr) (v : AVal) (check : Block → Nat), (c, a, v, check) ∈ pairScopeRows i l k n pos m oid b tb ∧ l < 8 ∧ n < 256 ∧ k < 4 ∧ s.paired = true ∧ s.mayWrite i a ∧ s.pairState = 2 ∧ check s.counted = 0) ∧
    (∃ (s : State) (i : Nat) (l : Nat) (k : Nat) (n : Nat) (pos : Nat) (m : Nat) (oid : Nat) (b : Bool) (tb : Table) (c : Instr) (a : Attr) (v : AVal) (check : Block → Nat), (c, a, v, check) ∈ pairScopeRows i l k n pos m oid b tb ∧ l < 8 ∧ n < 256 ∧ k < 4 ∧ s.loneHead = true ∧ s.mayWrite i a ∧ check s.counted = 0) :=
  ⟨⟨wPairScopeCommandWaits0, 0, 3, 2, 9, 4, 1500, oidOf hostWd, true, ⟨1, 4, 1, 6, [1073741824, 0, 0, 0, 0, 0]⟩, Instr.lineStart (0) (3), lnCmd (3), .num 1, lnCmdCheck 1 (3) 0, (by simp [pairScopeRows]), (by decide +kernel), (by decide +kernel), (by decide +kernel), (by decide +kernel), (by unfold Block.mayWrite; decide +kernel), (by decide +kernel), (by decide +kernel)⟩,
   ⟨wPairScopeCommandWaits1, 0, 3, 2, 9, 4, 1500, oidOf hostWd, true, ⟨1, 4, 1, 6, [1073741824, 0, 0, 0, 0, 0]⟩, Instr.lineStart (0) (3), lnCmd (3), .num 1, lnCmdCheck 1 (3) 0, (by simp [pairScopeRows]), (by decide +kernel), (by decide +kernel), (by decide +kernel), (by decide +kernel), (by unfold Block.mayWrite; decide +kernel), (by decide +kernel)⟩⟩

def wSessionOpening0 : State :=
  wUp (wPut (W 2) ([(hostAuth 1, 5)])) (fun b => { b with host := { b.host with sess := [wSess, sessFree, sessFree, sessFree] } })

def wSessionOpening1 : State :=
  wUp (wPut (W 2) ([])) (fun b => { b with host := { b.host with sess := [wSess, sessFree, sessFree, sessFree] } })

def wSessionOpening2 : State :=
  wUp (wPut (W 2) ([(devSupply, 32)])) (fun b => { b with host := { b.host with sess := [wSess, sessFree, sessFree, sessFree] } })

def wSessionOpening3 : State :=
  wUp (wPut (W 2) ([])) (fun b => { b with host := { b.host with sess := [{ wSess with st := .challenge, slot := 1, openedAt := 999000000000, key := [1,2,3] }, sessFree, sessFree, sessFree] } })

theorem test_meets_SessionOpening :
    (∃ (s : State) (d : Dgram) (i : Nat) (slot : Nat), s.sized = true ∧ s.hostUp = true ∧ yhpForm d = true ∧ ((∀ b ∈ d.tag, b = 0)) ∧ slot = leAt d.payload 16 1 ∧ slot ≠ 0xFF ∧ openCheck d s.toBlock = 0 ∧ freeEntry s.toBlock = some i) ∧
    (∃ (s : State) (d : Dgram), s.hostUp = true ∧ yhpForm d = true ∧ ((∀ b ∈ d.tag, b = 0)) ∧ openCheck d s.toBlock ≠ 0) ∧
    (∃ (s : State) (d : Dgram) (d' : Dgram) (i : Nat), s.sized = true ∧ s.hostUp = true ∧ yhpForm d = true ∧ ((∀ b ∈ d.tag, b = 0)) ∧ d.payload.length = 20 ∧ d' = { d with payload := d.payload.take 16 ++ [0xFF] ++ d.payload.drop 17 } ∧ openCheck d' s.toBlock = 0 ∧ freeEntry s.toBlock = some i) ∧
    (∃ (s : State) (d : Dgram) (i : Nat) (x : Sess), s.hostUp = true ∧ yhpForm d = true ∧ d.node = 0 ∧ d.payload = [] ∧ sessFind .challenge d.session s.toBlock = some (i, x) ∧ d.tag = hmac256 x.key (yhpHdr yConfirm d ++ d.payload) ∧ s.clk.raw ≤ x.openedAt + 5 * nsPerS ∧ s.prompt i x d) ∧
    (∃ (s : State) (d : Dgram) (i : Nat) (x : Sess), s.hostUp = true ∧ yhpForm d = true ∧ d.node = 0 ∧ d.payload = [] ∧ sessFind .challenge d.session s.toBlock = some (i, x) ∧ ((d.tag ≠ hmac256 x.key (yhpHdr yConfirm d ++ d.payload) ∨ x.openedAt + 5 * nsPerS < s.clk.raw))) ∧
    (∃ (s : State) (i : Nat) (x : Sess), i < 4 ∧ s.sessAt i = some x ∧ x.st = .challenge) :=
  ⟨⟨wSessionOpening0, wDg ((List.replicate 16 (9 : Byte) ++ [1, 0, 0, 0])) 0 1 0 0 (wSess : Sess), 1, 1, (by decide +kernel), (by decide +kernel), (by decide +kernel), (by decide +kernel), (by decide +kernel), (by decide +kernel), (by decide +kernel), (by decide +kernel)⟩,
   ⟨wSessionOpening1, wDg ((List.replicate 16 (9 : Byte) ++ [1, 0, 0, 0])) 0 1 0 0 (wSess : Sess), (by decide +kernel), (by decide +kernel), (by decide +kernel), (by decide +kernel)⟩,
   ⟨wSessionOpening2, wDg ((List.replicate 16 (9 : Byte) ++ [1, 0, 0, 0])) 0 1 0 0 (wSess : Sess), { (wDg ((List.replicate 16 (9 : Byte) ++ [1, 0, 0, 0])) 0 1 0 0 (wSess : Sess)) with payload := (wDg ((List.replicate 16 (9 : Byte) ++ [1, 0, 0, 0])) 0 1 0 0 (wSess : Sess)).payload.take 16 ++ [0xFF] ++ (wDg ((List.replicate 16 (9 : Byte) ++ [1, 0, 0, 0])) 0 1 0 0 (wSess : Sess)).payload.drop 17 }, 1, (by decide +kernel), (by decide +kernel), (by decide +kernel), (by decide +kernel), (by decide +kernel), (by decide +kernel), (by decide +kernel), (by decide +kernel)⟩,
   ⟨wSessionOpening3, wDg ([]) yConfirm 1 0 7 ({ wSess with st := .challenge, slot := 1, openedAt := 999000000000, key := [1,2,3] } : Sess), 0, { wSess with st := .challenge, slot := 1, openedAt := 999000000000, key := [1,2,3] }, (by decide +kernel), (by decide +kernel), (by decide +kernel), (by decide +kernel), (by decide +kernel), (by decide +kernel), (by decide +kernel), ⟨rfl, by decide +kernel⟩⟩,
   ⟨wSessionOpening3, wDg ([]) yRead 1 0 7 ({ wSess with st := .challenge, slot := 1, openedAt := 999000000000, key := [1,2,3] } : Sess), 0, { wSess with st := .challenge, slot := 1, openedAt := 999000000000, key := [1,2,3] }, (by decide +kernel), (by decide +kernel), (by decide +kernel), (by decide +kernel), (by decide +kernel), (by decide +kernel)⟩,
   ⟨wSessionOpening3, 0, { wSess with st := .challenge, slot := 1, openedAt := 999000000000, key := [1,2,3] }, (by decide +kernel), (by decide +kernel), (by decide +kernel)⟩⟩

def wSessionUpkeep0 : State :=
  wUp (wPut (W 2) ([])) (fun b => { b with host := { b.host with sess := [{ wSess with key := [1,2,3] }, sessFree, sessFree, sessFree] } })

def wSessionUpkeep1 : State :=
  wUp (W 2) (fun b => { b with host := { b.host with cfgAt := some 1000000000777 } })

def wSessionUpkeep2 : State :=
  wUp (wPut (W 2) ([(hostWd, 65566), (hostWdStat, 3)])) (fun b => { b with host := { b.host with sess := [{ wSess with key := [1,2,3] }, sessFree, sessFree, sessFree] } })

def wSessionUpkeep3 : State :=
  wUp (wPut (W 2) [(hostWd, 65566), (hostWdStat, 1)]) (fun b => { b with host := { b.host with wdFrom := 999999999999 } })

theorem test_meets_SessionUpkeep :
    (∃ (s : State) (d : Dgram) (i : Nat) (x : Sess), s.accepts yClose i x d ∧ s.prompt i x d ∧ d.node = 0 ∧ d.payload = []) ∧
    (∃ (s : State) (i : Nat) (x : Sess), i < 4 ∧ s.sessAt i = some x ∧ x.st = .opened) ∧
    (∃ (s : State) (d : Dgram) (i : Nat) (x : Sess), s.accepts yKeepalive i x d ∧ s.prompt i x d ∧ x.prov = false ∧ d.node = 0 ∧ d.payload = []) ∧
    (∃ (s : State) (u : Nat), s.sized = true ∧ s.host.cfgAt = some u) ∧
    (∃ (s : State) (i : Nat) (v : Nat), s.mayWrite i hostWd ∧ objErr (.sess i) hostWd (.num v) s.counted = 0) ∧
    (∃ (s : State), s.phase = .active ∧ s.modeNo ≠ 0 ∧ s.bit hostWd 16 = true ∧ s.bit hostWdStat 0 = true ∧ s.bit hostWdStat 1 = false) :=
  ⟨⟨wSessionUpkeep0, wDg ([]) yClose 1 0 7 ({ wSess with key := [1,2,3] } : Sess), 0, { wSess with key := [1,2,3] }, ⟨⟨by decide, by decide, by decide, Or.inr (wDg_tag _ _ _ _ _ _ (by decide))⟩, by decide, by decide, by decide⟩, ⟨rfl, by decide +kernel⟩, (by decide +kernel), (by decide +kernel)⟩,
   ⟨wSessionUpkeep0, 0, { wSess with key := [1,2,3] }, (by decide +kernel), (by decide +kernel), (by decide +kernel)⟩,
   ⟨wSessionUpkeep0, wDg ([]) yKeepalive 1 0 7 ({ wSess with key := [1,2,3] } : Sess), 0, { wSess with key := [1,2,3] }, ⟨⟨by decide, by decide, by decide, Or.inr (wDg_tag _ _ _ _ _ _ (by decide))⟩, by decide, by decide, by decide⟩, ⟨rfl, by decide +kernel⟩, (by decide +kernel), (by decide +kernel), (by decide +kernel)⟩,
   ⟨wSessionUpkeep1, 1000000000777, (by decide +kernel), (by decide +kernel)⟩,
   ⟨wSessionUpkeep2, 0, 10, (by unfold Block.mayWrite; decide +kernel), (by decide +kernel)⟩,
   ⟨wSessionUpkeep3, (by decide +kernel), (by decide +kernel), (by decide +kernel), (by decide +kernel), (by decide +kernel)⟩⟩

def wHostReadWrite0 : State :=
  wUp (wPut (W 2) ([(thValue 3, 55 * 2 ^ 64)])) (fun b => { b with host := { b.host with sess := [{ wSess with key := [1,2,3] }, sessFree, sessFree, sessFree] } })

def wHostReadWrite1 : State :=
  wUp (wPut (W 2) ([(clsCfg 2, 25000), (lpCfg 7, 4)])) (fun b => { b with host := { b.host with sess := [{ wSess with key := [1,2,3] }, sessFree, sessFree, sessFree] } })

def wHostReadWrite2 : State :=
  wUp (wPut (W 2) ([])) (fun b => { b with host := { b.host with sess := [{ wSess with key := [1,2,3], seg := some ⟨5, 6, [1], 999999999999⟩ }, sessFree, sessFree, sessFree] } })

theorem test_meets_HostReadWrite :
    (∃ (s : State) (d : Dgram) (i : Nat) (x : Sess), s.accepts yRead i x d ∧ s.prompt i x d ∧ elsewhere d s.toBlock = false) ∧
    (∃ (s : State) (d : Dgram) (i : Nat) (x : Sess) (present : Bool) (r : WRes), s.accepts yWrite i x d ∧ s.prompt i x d ∧ elsewhere d s.toBlock = false ∧ s.paired = false ∧ r = writeAct (.sess i) present d.payload (s.taken i x d) ∧ r.st ≠ 0 ∧ ((∀ j, s.mode.cmd ≠ some (0x10, j) ∧ s.mode.cmd ≠ some (0x11, j)))) ∧
    (∃ (s : State) (d : Dgram) (i : Nat) (x : Sess) (v : Nat), s.accepts yWrite i x d ∧ s.prompt i x d ∧ elsewhere d s.toBlock = false ∧ s.paired = false ∧ v < 2 ^ 32 ∧ d.payload = leBytes 2 1 ++ zeros 2 ++ leBytes 4 (oidOf hostWd) ++ leBytes 2 4 ++ leBytes 2 0 ++ leBytes 4 v ∧ s.levelCheck (.sess i) hostWd = 0 ∧ s.powerCheck hostWd false = 0 ∧ objErr (.sess i) hostWd (.num v) (s.taken i x d).seen = 0 ∧ ((∀ j, s.mode.cmd ≠ some (0x10, j) ∧ s.mode.cmd ≠ some (0x11, j)))) ∧
    (∃ (s : State) (d : Dgram) (i : Nat) (n : Nat) (x : Sess) (v : Nat), s.accepts yWrite i x d ∧ s.prompt i x d ∧ elsewhere d s.toBlock = false ∧ s.role ≠ 2 ∧ n < 256 ∧ v < 2 ^ 32 ∧ ((∀ w ∈ s.late, w.a ≠ lpCfg n)) ∧ d.payload = leBytes 2 1 ++ zeros 2 ++ leBytes 4 (oidOf (lpSp n)) ++ leBytes 2 4 ++ leBytes 2 0 ++ leBytes 4 v ∧ s.levelCheck (.sess i) (lpSp n) = 0 ∧ s.powerCheck (lpSp n) false = 0 ∧ objErr (.sess i) (lpSp n) (.num v) (s.taken i x d).seen = 0 ∧ ((∀ j, s.mode.cmd ≠ some (0x10, j) ∧ s.mode.cmd ≠ some (0x11, j)))) ∧
    (∃ (s : State) (i : Nat) (x : Sess) (b : SegBuf), i < 4 ∧ s.sessAt i = some x ∧ x.seg = some b) :=
  ⟨⟨wHostReadWrite0, wDg ((leBytes 2 1 ++ zeros 2 ++ leBytes 4 (oidOf (thValue 3)) ++ leBytes 4 0 ++ leBytes 2 64 ++ zeros 2)) yRead 1 0 7 ({ wSess with key := [1,2,3] } : Sess), 0, { wSess with key := [1,2,3] }, ⟨⟨by decide, by decide, by decide, Or.inr (wDg_tag _ _ _ _ _ _ (by decide))⟩, by decide, by decide, by decide⟩, ⟨rfl, by decide +kernel⟩, (by decide +kernel)⟩,
   ⟨wSessionUpkeep0, wDg ((leBytes 2 1 ++ zeros 2 ++ leBytes 4 (oidOf (thValue 3)) ++ leBytes 2 4 ++ leBytes 2 0 ++ leBytes 4 5)) yWrite 1 0 7 ({ wSess with key := [1,2,3] } : Sess), 0, { wSess with key := [1,2,3] }, false, writeAct (.sess (0)) (false) (wDg ((leBytes 2 1 ++ zeros 2 ++ leBytes 4 (oidOf (thValue 3)) ++ leBytes 2 4 ++ leBytes 2 0 ++ leBytes 4 5)) yWrite 1 0 7 ({ wSess with key := [1,2,3] } : Sess)).payload ((wSessionUpkeep0).taken (0) ({ wSess with key := [1,2,3] }) (wDg ((leBytes 2 1 ++ zeros 2 ++ leBytes 4 (oidOf (thValue 3)) ++ leBytes 2 4 ++ leBytes 2 0 ++ leBytes 4 5)) yWrite 1 0 7 ({ wSess with key := [1,2,3] } : Sess))), ⟨⟨by decide, by decide, by decide, Or.inr (wDg_tag _ _ _ _ _ _ (by decide))⟩, by decide, by decide, by decide⟩, ⟨rfl, by decide +kernel⟩, (by decide +kernel), (by decide +kernel), rfl, (by decide +kernel), (by intro j; constructor <;> (intro h; cases h))⟩,
   ⟨wSessionUpkeep0, wDg ((leBytes 2 1 ++ zeros 2 ++ leBytes 4 (oidOf hostWd) ++ leBytes 2 4 ++ leBytes 2 0 ++ leBytes 4 65586)) yWrite 1 0 7 ({ wSess with key := [1,2,3] } : Sess), 0, { wSess with key := [1,2,3] }, 65586, ⟨⟨by decide, by decide, by decide, Or.inr (wDg_tag _ _ _ _ _ _ (by decide))⟩, by decide, by decide, by decide⟩, ⟨rfl, by decide +kernel⟩, (by decide +kernel), (by decide +kernel), (by decide +kernel), (by decide +kernel), (by decide +kernel), (by decide +kernel), (by decide +kernel), (by intro j; constructor <;> (intro h; cases h))⟩,
   ⟨wHostReadWrite1, wDg ((leBytes 2 1 ++ zeros 2 ++ leBytes 4 (oidOf (lpSp 7)) ++ leBytes 2 4 ++ leBytes 2 0 ++ leBytes 4 6500)) yWrite 1 0 7 ({ wSess with key := [1,2,3] } : Sess), 0, 7, { wSess with key := [1,2,3] }, 6500, ⟨⟨by decide, by decide, by decide, Or.inr (wDg_tag _ _ _ _ _ _ (by decide))⟩, by decide, by decide, by decide⟩, ⟨rfl, by decide +kernel⟩, (by decide +kernel), (by decide +kernel), (by decide +kernel), (by decide +kernel), (by decide +kernel), (by decide +kernel), (by decide +kernel), (by decide +kernel), (by decide +kernel), (by intro j; constructor <;> (intro h; cases h))⟩,
   ⟨wHostReadWrite2, 0, { wSess with key := [1,2,3], seg := some ⟨5, 6, [1], 999999999999⟩ }, ⟨5, 6, [1], 999999999999⟩, (by decide +kernel), (by decide +kernel), (by decide +kernel)⟩⟩

def wRelays0 : State :=
  wUp (wUp (wPut (H 2) ([])) (fun b => { b with host := { b.host with sess := [{ wSess with key := [1,2,3] }, sessFree, sessFree, sessFree] } })) (fun b => { b with floe := { b.floe with reach := [(9, 0, 1)] } })

def wRelays1 : State :=
  wUp (H 2) (fun b => { b with floe := { b.floe with heads := [(9, 999)] } })

def wRelays2 : State :=
  wUp (wUp (wPut (H 2) ([])) (fun b => { b with host := { b.host with sess := [{ wSess with key := [1,2,3] }, sessFree, sessFree, sessFree] } })) (fun b => { b with host := { b.host with relays := [⟨0, 7, 3, 55, 16, 9, 999999999999, false⟩] } })

theorem test_meets_Relays :
    (∃ (s : State) (d : Dgram) (i : Nat) (typ : Nat) (x : Sess) (present : Bool) (c : Instr), (c, typ) ∈ [(Instr.hostRead d, yRead), (.hostWrite d present, yWrite)] ∧ s.accepts typ i x d ∧ elsewhere d s.toBlock = true ∧ relayCheck i d s.toBlock = 0) ∧
    (∃ (s : State) (node : Nat) (x : Nat) (p : List Byte) (r : Nat × List Byte × Block), ringNode s.toBlock = true ∧ headHeard node s.toBlock = true ∧ r = readAct (.relay (min x 2)) p s.toBlock) ∧
    (∃ (s : State) (c : Instr) (node : Nat) (x : Nat) (typ : Nat) (reqId : Nat) (st : Nat) (p : List Byte) (pay : List Byte) (r : Relay) (y : Sess) (present : Bool), (((c = .relayRequest true node x typ reqId p present ∧ st = x ∧ pay = p ∧ ringNode s.toBlock = true ∧ s.host.relays.find? (fun r => r.node == node && r.reqId == reqId && r.typ == typ) = some r ∧ (typ = yBulkQuery → x ≠ 0)) ∨ (c = .relayTimeout ∧ st = 0x0405 ∧ pay = [] ∧ s.host.relays.find? (fun r => !r.got) = some r))) ∧ s.sessAt r.entry = some y ∧ y.st = .opened ∧ y.handle = r.handle ∧ y.held = [] ∧ reqWaits r.entry r.seq s.toBlock = false) :=
  ⟨⟨wRelays0, wDg ([1,2,3]) yRead 1 9 7 ({ wSess with key := [1,2,3] } : Sess), 0, yRead, { wSess with key := [1,2,3] }, false, .hostRead (wDg ([1,2,3]) yRead 1 9 7 ({ wSess with key := [1,2,3] } : Sess)), (by simp), ⟨⟨by decide, by decide, by decide, Or.inr (wDg_tag _ _ _ _ _ _ (by decide))⟩, by decide, by decide, by decide⟩, (by decide +kernel), (by decide +kernel)⟩,
   ⟨wRelays1, 9, 2, (leBytes 2 1 ++ zeros 2 ++ leBytes 4 (oidOf (clsTime 2)) ++ leBytes 4 0 ++ leBytes 2 64 ++ zeros 2), readAct (.relay (min (2) 2)) ((leBytes 2 1 ++ zeros 2 ++ leBytes 4 (oidOf (clsTime 2)) ++ leBytes 4 0 ++ leBytes 2 64 ++ zeros 2)) (wRelays1).toBlock, (by decide +kernel), (by decide +kernel), rfl⟩,
   ⟨wRelays2, .relayRequest true (9) (0) (16) (55) ([1]) (false), 9, 0, 16, 55, 0, [1], [1], ⟨0, 7, 3, 55, 16, 9, 999999999999, false⟩, { wSess with key := [1,2,3] }, false, (by decide +kernel), (by decide +kernel), (by decide +kernel), (by decide +kernel), (by decide +kernel), (by decide +kernel)⟩⟩

def wBulkQueries0 : State :=
  wUp (wPut (W 2) ([(firnStat, 1)])) (fun b => { b with host := { b.host with sess := [{ wSess with key := [1,2,3] }, sessFree, sessFree, sessFree] } })

def wBulkQueries1 : State :=
  wUp (wPut (W 2) ([(firnStat, 1)])) (fun b => { b with host := { b.host with sess := [{ wSess with key := [1,2,3], query := some ({ (queryNew 1 (leBytes 4 77 ++ [1] ++ zeros 23) (W 2).toBlock) with next := 3, win := [⟨0, 0, [1]⟩, ⟨1, 0, [2]⟩, ⟨2, 1, [3]⟩], last := true, lastAck := 999999999999 }) }, sessFree, sessFree, sessFree] } })

def wBulkQueries2 : State :=
  wUp (wPut (W 2) ([])) (fun b => { b with host := { b.host with sess := [{ wSess with key := [1,2,3], query := some ({ (queryNew 1 (leBytes 4 77 ++ [1] ++ zeros 23) (W 2).toBlock) with next := 3, win := [⟨0, 0, [1]⟩, ⟨1, 0, [2]⟩, ⟨2, 1, [3]⟩], last := false, lastAck := 999999999999 }) }, sessFree, sessFree, sessFree] } })

theorem test_meets_BulkQueries :
    (∃ (s : State) (d : Dgram) (i : Nat) (x : Sess), s.accepts yBulkQuery i x d ∧ s.prompt i x d ∧ elsewhere d s.toBlock = false ∧ queryCheck (.sess i) d.payload (s.taken i x d) = 0) ∧
    (∃ (s : State) (d : Dgram) (i : Nat) (n : Nat) (x : Sess) (q : Query), s.enters yBulkAck i x d ∧ x.query = some q ∧ d.payload.length = 8 ∧ leAt d.payload 0 4 = q.qid ∧ n = leAt d.payload 4 4) ∧
    (∃ (s : State) (i : Nat) (x : Sess) (q : Query), i < 4 ∧ s.sessAt i = some x ∧ x.query = some q) ∧
    (∃ (s : State) (i : Nat) (x : Sess) (q : Query), i < 4 ∧ s.sessAt i = some x ∧ x.query = some q) :=
  ⟨⟨wBulkQueries0, wDg ((leBytes 4 77 ++ [1] ++ zeros 23)) yBulkQuery 1 0 7 ({ wSess with key := [1,2,3] } : Sess), 0, { wSess with key := [1,2,3] }, ⟨⟨by decide, by decide, by decide, Or.inr (wDg_tag _ _ _ _ _ _ (by decide))⟩, by decide, by decide, by decide⟩, ⟨rfl, by decide +kernel⟩, (by decide +kernel), (by decide +kernel)⟩,
   ⟨wBulkQueries1, wDg ((leBytes 4 77 ++ leBytes 4 2)) yBulkAck 1 0 7 ({ wSess with key := [1,2,3], query := some ({ (queryNew 1 (leBytes 4 77 ++ [1] ++ zeros 23) (W 2).toBlock) with next := 3, win := [⟨0, 0, [1]⟩, ⟨1, 0, [2]⟩, ⟨2, 1, [3]⟩], last := true, lastAck := 999999999999 }) } : Sess), 0, 2, { wSess with key := [1,2,3], query := some ({ (queryNew 1 (leBytes 4 77 ++ [1] ++ zeros 23) (W 2).toBlock) with next := 3, win := [⟨0, 0, [1]⟩, ⟨1, 0, [2]⟩, ⟨2, 1, [3]⟩], last := true, lastAck := 999999999999 }) }, { (queryNew 1 (leBytes 4 77 ++ [1] ++ zeros 23) (W 2).toBlock) with next := 3, win := [⟨0, 0, [1]⟩, ⟨1, 0, [2]⟩, ⟨2, 1, [3]⟩], last := true, lastAck := 999999999999 }, ⟨by decide, by decide, by decide, Or.inr (wDg_tag _ _ _ _ _ _ (by decide))⟩, (by decide +kernel), (by decide +kernel), (by decide +kernel), (by decide +kernel)⟩,
   ⟨wBulkQueries2, 0, { wSess with key := [1,2,3], query := some ({ (queryNew 1 (leBytes 4 77 ++ [1] ++ zeros 23) (W 2).toBlock) with next := 3, win := [⟨0, 0, [1]⟩, ⟨1, 0, [2]⟩, ⟨2, 1, [3]⟩], last := false, lastAck := 999999999999 }) }, { (queryNew 1 (leBytes 4 77 ++ [1] ++ zeros 23) (W 2).toBlock) with next := 3, win := [⟨0, 0, [1]⟩, ⟨1, 0, [2]⟩, ⟨2, 1, [3]⟩], last := false, lastAck := 999999999999 }, (by decide +kernel), (by decide +kernel), (by decide +kernel)⟩,
   ⟨wBulkQueries2, 0, { wSess with key := [1,2,3], query := some ({ (queryNew 1 (leBytes 4 77 ++ [1] ++ zeros 23) (W 2).toBlock) with next := 3, win := [⟨0, 0, [1]⟩, ⟨1, 0, [2]⟩, ⟨2, 1, [3]⟩], last := false, lastAck := 999999999999 }) }, { (queryNew 1 (leBytes 4 77 ++ [1] ++ zeros 23) (W 2).toBlock) with next := 3, win := [⟨0, 0, [1]⟩, ⟨1, 0, [2]⟩, ⟨2, 1, [3]⟩], last := false, lastAck := 999999999999 }, (by decide +kernel), (by decide +kernel), (by decide +kernel)⟩⟩

def wStreamsAndModbus0 : State :=
  wUp (wPut (W 2) ([])) (fun b => { b with host := { b.host with sess := [{ wSess with key := [1,2,3], stream := some ⟨0, false, 0, 0, 3, [⟨1, [(false, 0, ⟨1,5,3,1,false,0x43,5,6⟩)]⟩, ⟨2, [(false, 1, ⟨1,5,3,1,false,0x43,5,6⟩)]⟩], 999999999999⟩ }, sessFree, sessFree, sessFree] } })

def wStreamsAndModbus1 : State :=
  wUp (W 2) (fun b => { b with host := { b.host with netCfg := 2 ^ 112, mb := [⟨3, 5⟩] } })

def wStreamsAndModbus2 : State :=
  wUp (W 2) (fun b => { b with host := { b.host with mb := [⟨3, 5⟩] } })

theorem test_meets_StreamsAndModbus :
    (∃ (s : State) (d : Dgram) (i : Nat) (x : Sess), s.accepts yEvtSub i x d ∧ s.prompt i x d ∧ evtSubCheck i d s.toBlock = 0 ∧ i < 4) ∧
    (∃ (s : State) (d : Dgram) (i : Nat) (a : Nat) (x : Sess) (u : Stream), s.enters yEvtAck i x d ∧ x.stream = some u ∧ d.payload.length = 4 ∧ a = leAt d.payload 0 4 ∧ a < u.sseq ∧ i < 4) ∧
    (∃ (s : State) (i : Nat) (x : Sess) (u : Stream), i < 4 ∧ s.sessAt i = some x ∧ x.stream = some u ∧ u.win ≠ []) ∧
    (∃ (s : State) (id : Nat), s.phase = .active ∧ bitAt s.host.netCfg 112 = true ∧ s.host.mb.length < 4 ∧ ((∀ c ∈ s.host.mb, c.id ≠ id))) ∧
    (∃ (s : State) (id : Nat), s.phase = .active ∧ ((∃ c ∈ s.host.mb, c.id = id))) ∧
    (∃ (s : State) (id : Nat) (c : MbConn), s.host.mb.find? (fun c => c.id == id) = some c) :=
  ⟨⟨wSessionUpkeep0, wDg ([1, 0, 0, 0]) yEvtSub 1 0 7 ({ wSess with key := [1,2,3] } : Sess), 0, { wSess with key := [1,2,3] }, ⟨⟨by decide, by decide, by decide, Or.inr (wDg_tag _ _ _ _ _ _ (by decide))⟩, by decide, by decide, by decide⟩, ⟨rfl, by decide +kernel⟩, (by decide +kernel), (by decide +kernel)⟩,
   ⟨wStreamsAndModbus0, wDg ([1, 0, 0, 0]) yEvtAck 1 0 7 ({ wSess with key := [1,2,3], stream := some ⟨0, false, 0, 0, 3, [⟨1, [(false, 0, ⟨1,5,3,1,false,0x43,5,6⟩)]⟩, ⟨2, [(false, 1, ⟨1,5,3,1,false,0x43,5,6⟩)]⟩], 999999999999⟩ } : Sess), 0, 1, { wSess with key := [1,2,3], stream := some ⟨0, false, 0, 0, 3, [⟨1, [(false, 0, ⟨1,5,3,1,false,0x43,5,6⟩)]⟩, ⟨2, [(false, 1, ⟨1,5,3,1,false,0x43,5,6⟩)]⟩], 999999999999⟩ }, ⟨0, false, 0, 0, 3, [⟨1, [(false, 0, ⟨1,5,3,1,false,0x43,5,6⟩)]⟩, ⟨2, [(false, 1, ⟨1,5,3,1,false,0x43,5,6⟩)]⟩], 999999999999⟩, ⟨by decide, by decide, by decide, Or.inr (wDg_tag _ _ _ _ _ _ (by decide))⟩, (by decide +kernel), (by decide +kernel), (by decide +kernel), (by decide +kernel), (by decide +kernel)⟩,
   ⟨wStreamsAndModbus0, 0, { wSess with key := [1,2,3], stream := some ⟨0, false, 0, 0, 3, [⟨1, [(false, 0, ⟨1,5,3,1,false,0x43,5,6⟩)]⟩, ⟨2, [(false, 1, ⟨1,5,3,1,false,0x43,5,6⟩)]⟩], 999999999999⟩ }, ⟨0, false, 0, 0, 3, [⟨1, [(false, 0, ⟨1,5,3,1,false,0x43,5,6⟩)]⟩, ⟨2, [(false, 1, ⟨1,5,3,1,false,0x43,5,6⟩)]⟩], 999999999999⟩, (by decide +kernel), (by decide +kernel), (by decide +kernel), (by decide +kernel)⟩,
   ⟨wStreamsAndModbus1, 4, (by decide +kernel), (by decide +kernel), (by decide +kernel), (by decide +kernel)⟩,
   ⟨wStreamsAndModbus2, 3, (by decide +kernel), (by decide +kernel)⟩,
   ⟨wStreamsAndModbus2, 3, ⟨3, 5⟩, (by decide +kernel)⟩⟩

theorem test_meets_HostCommandRefusals :
    (∃ (s : State) (i : Nat) (n : Nat) (e : Nat) (v : Nat) (own : Nat) (p : Bool) (x : Table) (c : Instr) (a : Attr), (c, a, own) ∈ [(Instr.timeSet i v, timeSet, 0), (.refSelWrite i v, timeRefSel, 0), (.wdWrite i v, hostWd, 0), (.drill i v, pairCmd, 0), (.epochReset i, pairCmd, pairCmdCheck 3 0 s.counted), (.feTonesWrite i n v, feTones n, 0), (.feGroupRestart i e, fgRestart e, 0), (.tomoRestart i e, tmCmd e, 0), (.tomoSensWrite i e x, tmSens e, 0), (.axisClear i e p, axCmd e, 0), (.valveClear i e p, vlvCmd e, 0), (.bankClear i e p, bnkCmd e, 0), (.dioClear i e, dgCmd e, 0), (.encClear i e p, encCmd e, 0), (.ratioWrite i e v, emuRatio e, 0), (.thermClear i e, tzCmd e, 0), (.authErase i e, hostAuthCmd, authRowCheck i e (pack [(2, 0), (e, 8)]) s.counted)] ∧ n < 48 ∧ e < 3 ∧ s.hostUp = true) :=
  ⟨W 2, 1, 3, 1, 5, 0, false, ⟨0,0,0,0,[]⟩, .timeSet (1) (5), timeSet, (by simp), (by decide +kernel), (by decide +kernel), (by decide +kernel)⟩

theorem test_meets_CanonicalFormKept :
    (∃ s t : State, regsWf s.regs = true ∧ amapSorted s.tabs = true ∧ Memory.wf s.toBlock = true ∧ step s = .next t) :=
  ⟨{ wUp (W 2) (fun b => { b with key := some { wKey with flash := [(5, 1)] } }) with pending := [.snapshotLaunch] }, _, by decide, by decide, by decide, rfl⟩

end Sys2Proof.Tests
end

/-! PROOFS. The next value of a front-end channel (FE_VALUE) and what a full-scale sample in its window does (R112). -/

namespace Sys2Proof.Machine

/-- A sized block lists all 48 channels of the front end. -/
theorem Block.feChannels_of_sized {s : Block} (h : s.sized = true) : s.fe.ch.length = 48 := by
  simp only [Block.sized, Bool.and_eq_true, beq_iff_eq] at h
  tauto

theorem Block.fch_setFch_self (s : Block) {n : Nat} (c : FeCh) (h : n < s.fe.ch.length) : (s.setFch n c).fch n = c := by
  simp [Block.fch, Block.setFch, getL, setAt, h]

@[simp] theorem Block.fch_put (s : Block) (a : Attr) (v n : Nat) : (s.put a v).fch n = s.fch n := rfl

@[simp] theorem Block.fch_fput (s : Block) (a : Attr) (hi lo x n : Nat) : (s.fput a hi lo x).fch n = s.fch n := rfl

@[simp] theorem Block.fch_advanceTb (s : Block) (t n : Nat) : (s.advanceTb t).fch n = s.fch n := by
  simp [Block.fch]

@[simp] theorem Block.fch_raise (s : Block) (src sev : Nat) (o : Attr) (d n : Nat) :
    (s.raise src sev o d).fch n = s.fch n := by
  simp [Block.fch]

@[simp] theorem Block.get_setFch (s : Block) (n : Nat) (c : FeCh) (a : Attr) : (s.setFch n c).get a = s.get a := rfl

@[simp] theorem Block.setFch_evq (s : Block) (n : Nat) (c : FeCh) : (s.setFch n c).evq = s.evq := rfl

@[simp] theorem feSync_fch (n k : Nat) (s : Block) : (feSync n s).fch k = s.fch k := by
  rw [feSync, Block.fch_put]

@[simp] theorem feSync_evq (n : Nat) (s : Block) : (feSync n s).evq = s.evq := by
  rw [feSync, Block.put_evq]

/-- The STATE, THR and CAL bits lie in STAT: no other register follows them. -/
theorem get_feSync (n : Nat) (s : Block) {a : Attr} (h : a ≠ feStat n) : (feSync n s).get a = s.get a :=
  s.get_put_ne _ h.symm

/-- The newest record is read off the event queue alone. -/
theorem Block.reports_of_evq {s t : Block} (e : t.evq = s.evq) {src sev code d : Nat} {o : Attr}
    (h : s.reports src sev code o d) : t.reports src sev code o d := by
  unfold Block.reports Block.newest at *
  rwa [e]

/-- The timestamp of a channel's next value (R104). -/
def feNextTs (s : Block) (n : Nat) : Nat := (s.fch n).t0 + feNext s n * feT s n

/-- The CAUSE of a channel's next value, 0 where it is not INVALID: a shut-down zone goes before an excitation fault (R108,
R111), and both before an overload (R112). -/
def feNextCause (s : Block) (n : Nat) (ovl : Bool) : Nat :=
  if feZoneOff s n then 5 else if (s.fch n).fault ≠ 0 then (s.fch n).fault else if ovl then 4 else 0

/-- The next value of a channel as it is held until its release. -/
def feNextHeld (s : Block) (n : Nat) (iq : List (Int × Int)) (d i : Int × Int) (ovl : Bool) : FeHeld :=
  let tone := s.fget (feDrive n) 7 4
  { ts := feNextTs s n, seq := feNext s n % 65536
    q := if feNextCause s n ovl ≠ 0 then 4 else if feNs (feCode s n) - feNext s n ≠ 0 then 3 else 0
    cause := feNextCause s n ovl, thr := feThr s n, typ := feTyp s n, qty := s.fget (feDrive n) 10 8
    ftw := fld (s.get (feTones n)) (64 * tone + 31) (64 * tone), x := if feTyp s n = 6 then iq else []
    sx := getL iq tone (0, 0), d := d, i := i }

/-- A channel with its next value produced. -/
def feNextCh (s : Block) (n : Nat) (iq : List (Int × Int)) (d i : Int × Int) (ovl : Bool) : FeCh :=
  { s.fch n with m := feNext s n, held := (s.fch n).held ++ [feNextHeld s n iq d i ovl], ovl := ovl }

/-- The machine with a channel's next value held, I/Q shown and SETTLE_LEFT counted, before it reports an overload. -/
def feStored (s : Block) (n : Nat) (iq : List (Int × Int)) (d i : Int × Int) (ovl : Bool) : Block :=
  (((s.advanceTb (feNextTs s n)).setFch n (feNextCh s n iq d i ovl)).put (feIq n) (feIqWord (iq.take 16))).fput
    (feStat n) 23 16 (feNs (feCode s n) - feNext s n)

/-- The machine with 0x43 raised by the first value of a run of overloaded ones (R112). -/
def feOverloadEvent (s : Block) (n : Nat) (ovl was : Bool) : Block :=
  if ovl && !was then s.raise 0x43 sevWarn (feObj n) 0 else s

/-- The machine after FE_VALUE on a channel that runs. -/
def feProduced (s : Block) (n : Nat) (iq : List (Int × Int)) (d i : Int × Int) (ovl : Bool) : Block :=
  feSync n (feOverloadEvent (feStored s n iq d i ovl) n ovl (s.fch n).ovl)

theorem exec_feValue (s : State) (n : Nat) (iq : List (Int × Int)) (d i : Int × Int) (ovl : Bool) :
    exec (.feValue n iq d i ovl) s = execFeValue n iq d i ovl s := rfl

/-- FE_VALUE on a channel that runs produces its next value. -/
theorem exec_feValue_of_runs (s : State) {n : Nat} (iq : List (Int × Int)) (d i : Int × Int) (ovl : Bool) (hn : n < 48)
    (hr : feRuns s.toBlock n = true) :
    exec (.feValue n iq d i ovl) s = .next { s with toBlock := feProduced s.toBlock n iq d i ovl } := by
  rw [exec_feValue, execFeValue, onBlock_next]
  refine ⟨_, ?_, rfl⟩
  rw [if_neg (Nat.not_le.mpr hn), if_neg (by simp [hr])]
  dsimp only
  rw [Block.fch_advanceTb]
  rfl

section Stored

variable (s : Block) (n : Nat) (iq : List (Int × Int)) (d i : Int × Int) (ovl was : Bool)

@[simp] theorem feStored_evq : (feStored s n iq d i ovl).evq = s.evq := by
  rw [feStored, Block.fput_evq, Block.put_evq, Block.setFch_evq, Block.advanceTb_evq]

variable {s n} in
theorem feStored_fch (h : n < s.fe.ch.length) : (feStored s n iq d i ovl).fch n = feNextCh s n iq d i ovl := by
  have h' : n < (s.advanceTb (feNextTs s n)).fe.ch.length := by rwa [Block.advanceTb_fe]
  rw [feStored, Block.fch_fput, Block.fch_put, Block.fch_setFch_self _ _ h']

theorem get_feStored {a : Attr} (hq : a ≠ feIq n) (hs : a ≠ feStat n) (ht : a ≠ timeRtc) :
    (feStored s n iq d i ovl).get a = s.get a := by
  rw [feStored, Block.fput, Block.get_put_ne _ _ hs.symm, Block.get_put_ne _ _ hq.symm, Block.get_setFch,
    Block.get_advanceTb _ _ ht]

@[simp] theorem feOverloadEvent_fch (k : Nat) : (feOverloadEvent s n ovl was).fch k = s.fch k := by
  unfold feOverloadEvent
  split
  · exact s.fch_raise ..
  · rfl

theorem get_feOverloadEvent {a : Attr} (h : a ≠ evtLost) : (feOverloadEvent s n ovl was).get a = s.get a := by
  unfold feOverloadEvent
  split
  · exact s.get_raise _ _ _ _ h
  · rfl

/-- The first overloaded value of a run is reported. -/
theorem feOverloadEvent_reports : (feOverloadEvent s n true false).reports 0x43 sevWarn 0 (feObj n) 0 := by
  rw [feOverloadEvent, if_pos (by decide)]
  exact s.reports_raise ..

/-- A further overloaded value of a run reports nothing. -/
theorem feOverloadEvent_again : feOverloadEvent s n ovl true = s := by
  simp [feOverloadEvent]

variable {s n} in
/-- FE_VALUE changes of a channel its value number, its held values and whether its last value was overloaded: its fault and
its grid stay. -/
theorem feProduced_fch (h : n < s.fe.ch.length) : (feProduced s n iq d i ovl).fch n = feNextCh s n iq d i ovl := by
  rw [feProduced, feSync_fch, feOverloadEvent_fch, feStored_fch _ _ _ _ h]

/-- The registers FE_VALUE can change. -/
theorem get_feProduced {a : Attr} (h : a ∉ [feIq n, feStat n, timeRtc, evtLost]) :
    (feProduced s n iq d i ovl).get a = s.get a := by
  simp only [List.mem_cons, List.not_mem_nil, or_false, not_or] at h
  obtain ⟨hq, hs, ht, he⟩ := h
  rw [feProduced, get_feSync _ _ hs, get_feOverloadEvent _ _ _ _ he, get_feStored _ _ _ _ _ _ hq hs ht]

/-- The first overloaded value of a run is reported with 0x43 (R112). -/
theorem feProduced_reports (h : (s.fch n).ovl = false) :
    (feProduced s n iq d i true).reports 0x43 sevWarn 0 (feObj n) 0 := by
  rw [feProduced, h]
  exact Block.reports_of_evq (feSync_evq _ _) (feOverloadEvent_reports _ _)

/-- Within a run of overloaded values no event is raised (R112). -/
theorem feProduced_evq_again (h : (s.fch n).ovl = true) : (feProduced s n iq d i ovl).evq = s.evq := by
  rw [feProduced, h, feOverloadEvent_again, feSync_evq, feStored_evq]

/-- An overload is the cause where neither the zone nor an excitation fault is (R112). -/
theorem feNextCause_overload (hz : feZoneOff s n = false) (hf : (s.fch n).fault = 0) : feNextCause s n true = 4 := by
  simp [feNextCause, hz, hf]

/-- An overloaded value always has a cause. -/
theorem feNextCause_overload_ne_zero : feNextCause s n true ≠ 0 := by
  unfold feNextCause
  split
  · decide
  · split
    · assumption
    · decide

/-- An overloaded value is INVALID, even while the channel settles (R112). -/
theorem feNextHeld_overload_q : (feNextHeld s n iq d i true).q = 4 :=
  if_pos (feNextCause_overload_ne_zero s n)

end Stored

/-- Settles O22: the value is INVALID with the cause of R112, the channel's fault and grid and its configuration stay, and the
event comes at the first overloaded value of a run. -/
theorem overloadedValues : Obligations.OverloadedValues := by
  intro s n iq d i hs hn hr
  have hlen : n < s.fe.ch.length := by rwa [Block.feChannels_of_sized hs]
  have hch := feProduced_fch iq d i true hlen
  refine ⟨_, feNextHeld s.toBlock n iq d i true, exec_feValue_of_runs s iq d i true hn hr, ?held, ?invalid, ?cause, ?fault,
    ?grid, ?tones, ?drive, ?rate, ?type, ?first, ?again⟩
  case held => rw [hch]; rfl
  case invalid => exact feNextHeld_overload_q ..
  case cause => exact feNextCause_overload s.toBlock n
  case fault => rw [hch]; rfl
  case grid => rw [hch]; rfl
  case tones => exact get_feProduced _ _ _ _ _ _ (by simp)
  case drive => exact get_feProduced _ _ _ _ _ _ (by simp)
  case rate => exact get_feProduced _ _ _ _ _ _ (by simp)
  case type => exact get_feProduced _ _ _ _ _ _ (by simp)
  case first => exact feProduced_reports s.toBlock n iq d i
  case again => exact feProduced_evq_again s.toBlock n iq d i true

end Sys2Proof.Machine

/-! PROOFS. The active pixels of a tomography map and their numbers (R134). -/

namespace Sys2Proof.Machine

/-- The first active x of a row. -/
def tmRowLo (y : Nat) : Nat := (32 - tmRowLen y) / 2

/-- How many active pixels the rows before a row hold: the number of its first active pixel. -/
def tmRowStart (y : Nat) : Nat := sumN ((List.range y).map tmRowLen)

theorem tmPixAt_eq_some_iff {x y q : Nat} :
    tmPixAt x y = some q ↔
      y < 32 ∧ tmRowLo y ≤ x ∧ x < tmRowLo y + tmRowLen y ∧ q = tmRowStart y + (x - tmRowLo y) := by
  simp [tmPixAt, tmRowLo, tmRowStart, and_assoc, eq_comm]

theorem tmPixAt_isSome_iff {x y : Nat} (hy : y < 32) :
    (tmPixAt x y).isSome = true ↔ tmRowLo y ≤ x ∧ x < tmRowLo y + tmRowLen y := by
  simp [Option.isSome_iff_exists, tmPixAt_eq_some_iff, hy]

/-! ### The circle: a row's length is the chord of the circle at its height -/

theorem tmRowLen_le {y : Nat} (hy : y < 32) : tmRowLen y ≤ 32 := by
  revert y; decide

theorem tmRowLen_even {y : Nat} (hy : y < 32) : tmRowLen y % 2 = 0 := by
  revert y; decide

/-- The outermost pixel of a row, at the odd distance `tmRowLen y - 1` from the middle in half pixels, is within the circle. -/
theorem tmRowLen_inside {y : Nat} (hy : y < 32) :
    (tmRowLen y - 1) * (tmRowLen y - 1) + natDist (2 * y) 31 * natDist (2 * y) 31 ≤ 1024 := by
  revert y; decide

/-- The next pixel outwards, at the next odd distance, is outside the circle. -/
theorem tmRowLen_outside {y : Nat} (hy : y < 32) :
    1024 < (tmRowLen y + 1) * (tmRowLen y + 1) + natDist (2 * y) 31 * natDist (2 * y) 31 := by
  revert y; decide

/-- The distance of a pixel from the middle of its row, in half pixels, is odd. -/
theorem natDist_two_mul_odd (x : Nat) : natDist (2 * x) 31 % 2 = 1 := by
  unfold natDist; omega

/-- The active pixels of a row lie around its middle. -/
theorem mem_tmRow_iff_natDist_lt {x y : Nat} (hy : y < 32) :
    (tmRowLo y ≤ x ∧ x < tmRowLo y + tmRowLen y) ↔ natDist (2 * x) 31 < tmRowLen y := by
  have hle := tmRowLen_le hy
  have heven := tmRowLen_even hy
  unfold tmRowLo natDist
  omega

/-- A pixel nearer to the middle of its row than the row is long is a pixel within the circle. -/
theorem natDist_lt_tmRowLen_iff_circle {x y : Nat} (hy : y < 32) :
    natDist (2 * x) 31 < tmRowLen y ↔
      natDist (2 * x) 31 * natDist (2 * x) 31 + natDist (2 * y) 31 * natDist (2 * y) 31 ≤ 1024 := by
  have hodd := natDist_two_mul_odd x
  have heven := tmRowLen_even hy
  constructor
  · intro hlt
    have hd : natDist (2 * x) 31 ≤ tmRowLen y - 1 := by omega
    exact (Nat.add_le_add_right (Nat.mul_self_le_mul_self hd) _).trans (tmRowLen_inside hy)
  · intro hcircle
    by_contra hge
    have hd : tmRowLen y + 1 ≤ natDist (2 * x) 31 := by omega
    exact absurd ((Nat.add_le_add_right (Nat.mul_self_le_mul_self hd) _).trans hcircle) (tmRowLen_outside hy).not_ge

theorem tmPixAt_isSome_iff_circle {x y : Nat} (hy : y < 32) :
    (tmPixAt x y).isSome = true ↔
      natDist (2 * x) 31 * natDist (2 * x) 31 + natDist (2 * y) 31 * natDist (2 * y) 31 ≤ 1024 := by
  rw [tmPixAt_isSome_iff hy, mem_tmRow_iff_natDist_lt hy, natDist_lt_tmRowLen_iff_circle hy]

/-! ### The numbering: rows follow one another, and pixels within a row -/

theorem tmRowStart_succ (y : Nat) : tmRowStart (y + 1) = tmRowStart y + tmRowLen y := by
  simp [tmRowStart, sumN, List.range_succ]

theorem tmRowStart_mono : Monotone tmRowStart :=
  monotone_nat_of_le_succ fun y => by rw [tmRowStart_succ]; exact Nat.le_add_right _ _

theorem tmRowStart_32 : tmRowStart 32 = 812 := by decide

/-- A pixel's number is below the first number of every later row. -/
theorem lt_tmRowStart_of_tmPixAt {x y y' q : Nat} (h : tmPixAt x y = some q) (hlt : y < y') : q < tmRowStart y' := by
  obtain ⟨-, hlo, hhi, rfl⟩ := tmPixAt_eq_some_iff.mp h
  calc tmRowStart y + (x - tmRowLo y) < tmRowStart y + tmRowLen y := by omega
    _ = tmRowStart (y + 1) := (tmRowStart_succ y).symm
    _ ≤ tmRowStart y' := tmRowStart_mono hlt

theorem tmRowStart_le_of_tmPixAt {x y q : Nat} (h : tmPixAt x y = some q) : tmRowStart y ≤ q := by
  obtain ⟨-, -, -, rfl⟩ := tmPixAt_eq_some_iff.mp h
  exact Nat.le_add_right _ _

theorem tmPixAt_lt_812 {x y q : Nat} (h : tmPixAt x y = some q) : q < 812 :=
  tmRowStart_32 ▸ lt_tmRowStart_of_tmPixAt h (tmPixAt_eq_some_iff.mp h).1

/-- Numbers ascend from row to row. -/
theorem tmPixAt_lt_of_row_lt {x y x' y' q q' : Nat} (h : tmPixAt x y = some q) (h' : tmPixAt x' y' = some q')
    (hlt : y < y') : q < q' :=
  (lt_tmRowStart_of_tmPixAt h hlt).trans_le (tmRowStart_le_of_tmPixAt h')

/-- Numbers ascend with x within a row. -/
theorem tmPixAt_lt_iff_of_same_row {x x' y q q' : Nat} (h : tmPixAt x y = some q) (h' : tmPixAt x' y = some q') :
    q < q' ↔ x < x' := by
  obtain ⟨-, hlo, -, rfl⟩ := tmPixAt_eq_some_iff.mp h
  obtain ⟨-, hlo', -, rfl⟩ := tmPixAt_eq_some_iff.mp h'
  omega

theorem tmPixAt_lt_iff {x y x' y' q q' : Nat} (h : tmPixAt x y = some q) (h' : tmPixAt x' y' = some q') :
    q < q' ↔ y < y' ∨ (y = y' ∧ x < x') := by
  rcases lt_trichotomy y y' with hlt | rfl | hgt
  · simp [tmPixAt_lt_of_row_lt h h' hlt, hlt]
  · simp [tmPixAt_lt_iff_of_same_row h h']
  · simp [(tmPixAt_lt_of_row_lt h' h hgt).not_gt, hgt.not_gt, hgt.ne']

/-- A number below the first number of row `n` belongs to a row before it. -/
theorem exists_row_of_lt_tmRowStart {q n : Nat} (hq : q < tmRowStart n) :
    ∃ y < n, tmRowStart y ≤ q ∧ q < tmRowStart y + tmRowLen y := by
  induction n with
  | zero => exact absurd hq (Nat.not_lt_zero q)
  | succ n ih =>
    rcases lt_or_ge q (tmRowStart n) with hlt | hge
    · obtain ⟨y, hy, hrow⟩ := ih hlt
      exact ⟨y, hy.trans (Nat.lt_succ_self n), hrow⟩
    · exact ⟨n, Nat.lt_succ_self n, hge, tmRowStart_succ n ▸ hq⟩

theorem exists_tmPixAt_eq {q : Nat} (hq : q < 812) : ∃ x y, x < 32 ∧ y < 32 ∧ tmPixAt x y = some q := by
  obtain ⟨y, hy, hstart, hend⟩ := exists_row_of_lt_tmRowStart (tmRowStart_32.symm ▸ hq)
  have hle := tmRowLen_le hy
  have hwidth : tmRowLo y + tmRowLen y ≤ 32 := by unfold tmRowLo; omega
  exact ⟨tmRowLo y + (q - tmRowStart y), y, by omega, hy, tmPixAt_eq_some_iff.mpr ⟨hy, by omega, by omega, by omega⟩⟩

/-- Settles O25: a row's active pixels are the chord of the circle at its height, and their numbers run on from row to row up to
the 812 of all rows. -/
theorem tomoActivePixels : Obligations.TomoActivePixels :=
  ⟨fun _ _ _ hy => tmPixAt_isSome_iff_circle hy,
   fun _ _ _ _ _ _ _ _ _ _ h h' => ⟨tmPixAt_lt_iff h h', tmPixAt_lt_812 h⟩,
   fun _ hq => exists_tmPixAt_eq hq⟩

end Sys2Proof.Machine

/-! PROOFS. The refusal of a host command by its own check (R354), and a drill refused at the top of the EPOCH range (R341). -/

namespace Sys2Proof.Machine

/-! ### Codes: the first error of a list, and a code behind an open gate -/

theorem firstErr_ne_zero {l : List Nat} {c : Nat} (hm : c ∈ l) (hc : c ≠ 0) : firstErr l ≠ 0 := by
  induction l with
  | nil => exact absurd hm List.not_mem_nil
  | cons x r ih =>
    rw [firstErr]
    split
    · assumption
    · next hx =>
      rcases List.mem_cons.mp hm with rfl | hr
      · exact absurd hc hx
      · exact ih hr

/-- Where the gate has nothing against a command, its own code stands. -/
@[simp] theorem gated_zero (c : Nat) : gated 0 c = c := by
  simp [gated]

theorem satInc_lt (w v : Nat) : satInc w v < 2 ^ w := by
  have hpos := Nat.two_pow_pos w
  unfold satInc
  split <;> omega

/-! ### A request counted in HOST.COUNT -/

section Counted

variable (s : Block)

/-- Counting a request changes nothing but a register. -/
theorem Block.counted_shape : ∃ g, s.counted = { s with regs := g } := ⟨_, rfl⟩

theorem Block.get_counted {a : Attr} (h : a ≠ hostCount) : s.counted.get a = s.get a :=
  s.get_countUp_ne 31 0 h.symm

/-- The count of requests leaves the count of refusals above it. -/
theorem Block.fget_counted_refusals : s.counted.fget hostCount 63 32 = s.fget hostCount 63 32 :=
  s.fget_fput_above hostCount 31 0 _ 63 32 (by decide) (by simp) (by decide) (by decide)

@[simp] theorem Block.counted_pair : s.counted.pair = s.pair := s.countUp_pair ..

@[simp] theorem Block.counted_net : s.counted.net = s.net := s.countUp_net ..

@[simp] theorem Block.role_counted : s.counted.role = s.role := by
  obtain ⟨g, e⟩ := s.counted_shape
  rw [e, Block.role, Block.role]

theorem Block.fget_counted {a : Attr} (h : a ≠ hostCount) (hi lo : Nat) : s.counted.fget a hi lo = s.fget a hi lo := by
  rw [Block.fget, s.get_counted h, Block.fget]

theorem Block.bit_counted {a : Attr} (h : a ≠ hostCount) (k : Nat) : s.counted.bit a k = s.bit a k := by
  rw [Block.bit, s.get_counted h, Block.bit]

@[simp] theorem Block.modeNo_counted : s.counted.modeNo = s.modeNo := s.fget_counted (by decide) 2 0

@[simp] theorem Block.pairState_counted : s.counted.pairState = s.pairState := s.fget_counted (by decide) 2 0

@[simp] theorem Block.keysw_counted : s.counted.keysw = s.keysw := s.bit_counted (by decide) 5

end Counted

/-! ### A refused command: its answer, its count and what it leaves -/

theorem Block.answers_of_host {s t : Block} (e : t.host = s.host) {i c : Nat} (h : s.answers i c) : t.answers i c := by
  unfold Block.answers at *
  rwa [e]

theorem Block.answers_send (s : Block) (i c : Nat) : (s.send (.cmdResp i c)).answers i c := rfl

section Refused

variable (s : Block) (i : Nat) (a : Attr) (c : Nat)

theorem Block.refuseCmd_answers : (s.refuseCmd i a c).answers i c :=
  Block.answers_of_host (Block.auditRefused_host ..) ((s.countUp hostCount 63 32).answers_send i c)

/-- A refusal counts in the refusals of HOST.COUNT. -/
theorem Block.fget_refuseCmd_refusals : (s.refuseCmd i a c).fget hostCount 63 32 = satInc 32 (s.fget hostCount 63 32) := by
  have hcount : (s.countUp hostCount 63 32).fget hostCount 63 32 = satInc 32 (s.fget hostCount 63 32) % 2 ^ 32 :=
    s.fget_fput_self hostCount 63 32 _ (by decide) (by simp)
  rw [Nat.mod_eq_of_lt (satInc_lt ..)] at hcount
  rw [← hcount, Block.refuseCmd, Block.fget, Block.get_auditRefused _ _ _ _ (by decide), Block.get_send, Block.fget]

theorem Block.keepsRegs_refuseCmd_counted : s.keepsRegs (s.counted.refuseCmd i a c) [hostCount, evtLost] := by
  intro b hb
  simp only [List.mem_cons, List.not_mem_nil, or_false, not_or] at hb
  obtain ⟨hcount, hlost⟩ := hb
  rw [Block.get_refuseCmd _ _ _ _ hlost hcount, s.get_counted hcount]

end Refused

/-- The machine that has counted a command of session entry `i` and refused it. -/
def State.refused (s : State) (i : Nat) (a : Attr) (c : Nat) : State := { s with toBlock := s.counted.refuseCmd i a c }

/-- A refusal reaches nothing but the registers, the host port and the event queue (R354). -/
theorem State.refused_frame (s : State) (i : Nat) (a : Attr) (c : Nat) :
    s.refused i a c = { s with regs := (s.refused i a c).regs, host := (s.refused i a c).host, evq := (s.refused i a c).evq } := by
  obtain ⟨g, q, p, e⟩ := s.counted.refuseCmd_shape i a c
  obtain ⟨g', e'⟩ := s.toBlock.counted_shape
  have hshape : s.counted.refuseCmd i a c = { s.toBlock with regs := g, evq := q, host := p } := by rw [e, e']
  rw [State.refused, hshape]

/-- A command that may be written is refused with the code of its own check (R354). -/
theorem onBlock_hostCommand_refused (s : State) {i : Nat} {a : Attr} {check : Block → Nat} (act : Block → Block)
    (hw : s.mayWrite i a) (hc : check s.counted ≠ 0) :
    onBlock s (fun b => hostCommand i a false check act noRefuse b) = .next (s.refused i a (check s.counted)) := by
  obtain ⟨hup, hgate⟩ := hw
  have hcode : check s.counted = gated (s.counted.cmdGate i a false) (check s.counted) := by rw [hgate, gated_zero]
  rw [onBlock_next]
  exact ⟨_, hostCommand_refuse i a false check act noRefuse s.toBlock hup _ hc hcode, rfl⟩

/-! ### The check of a drill at the top of the EPOCH range -/

/-- The check of a PAIR.CMD reads nothing of HOST.COUNT. -/
@[simp] theorem pairCmdCheck_counted (op dur : Nat) (s : Block) : pairCmdCheck op dur s.counted = pairCmdCheck op dur s := by
  have hdrill := s.bit_counted (a := pairStat) (by decide) 5
  have hepoch := s.get_counted (a := pairEpoch) (by decide)
  simp [pairCmdCheck, hdrill, hepoch]

section TopEpoch

variable {s : Block} (he : 0xFFFFF0 ≤ s.get pairEpoch)
include he

theorem need_epoch_of_top : need (s.get pairEpoch < 0xFFFFF0) 0x0402 = 0x0402 := by
  simp [need, he]

/-- No drill starts at the top of the EPOCH range (R341). -/
theorem pairCmdCheck_drill_ne_zero (dur : Nat) : pairCmdCheck 1 dur s ≠ 0 :=
  firstErr_ne_zero (c := 0x0402) (by simp [need_epoch_of_top he]) (by decide)

/-- Where nothing else is amiss, a drill at the top of the EPOCH range has the code of R341. -/
theorem pairCmdCheck_drill_eq {dur : Nat} (hmode : s.modeNo ≠ 0) (hrole : s.role = 2) (hstate : s.pairState = 2)
    (hpartner : s.pair.partner = 4) (hlo : 1 ≤ dur) (hhi : dur ≤ 1440) (hdrill : s.bit pairStat 5 = false)
    (hhand : s.pair.hand = none) : pairCmdCheck 1 dur s = 0x0402 := by
  rw [pairCmdCheck, need_epoch_of_top he]
  simp [firstErr, need, hmode, hrole, hstate, hpartner, hlo, hhi, hdrill, hhand]

end TopEpoch

/-- Settles O51: the check of R341 is among those of a drill and refuses it at the top of the EPOCH range; it is the last of them,
so its code stands where no other refuses. -/
theorem drillRefusedAtTopEpoch : Obligations.DrillRefusedAtTopEpoch := by
  intro s i dur hw he
  have hc : pairCmdCheck 1 dur s.counted ≠ 0 := by simpa using pairCmdCheck_drill_ne_zero he dur
  refine ⟨s.refused i pairCmd (pairCmdCheck 1 dur s.counted), _, onBlock_hostCommand_refused s _ hw hc, ?pair, ?net, ?answer, hc,
    ?code, ?count, s.refused_frame .., s.keepsRegs_refuseCmd_counted i pairCmd _⟩
  case pair => exact (Block.refuseCmd_pair ..).trans s.counted_pair
  case net => exact (Block.refuseCmd_net ..).trans s.counted_net
  case answer => exact s.counted.refuseCmd_answers ..
  case code =>
    intro hmode hrole hstate hpartner hlo hhi hdrill hhand
    rw [pairCmdCheck_counted]
    exact pairCmdCheck_drill_eq he hmode hrole hstate hpartner hlo hhi hdrill hhand
  case count => exact (s.counted.fget_refuseCmd_refusals ..).trans (by rw [s.fget_counted_refusals])

end Sys2Proof.Machine
